-- ==== Sys2Proof/Word.lean ====
section
/-! DEFINITION. The byte, the unit of every frame, row and image of the SC48 (R179, R182, R197). -/

namespace Sys2Proof

/-- One byte of a frame, of a display row or of the configuration image. -/
abbrev Byte := BitVec 8

/-- The byte that carries `n`, taken modulo 256. -/
def byte (n : Nat) : Byte := BitVec.ofNat 8 n

end Sys2Proof
end

