-- ==== Sys2Proof/Config.lean ====
section
/-! DEFINITION. The configuration image as records (chapters 1 to 12), and the free values: what the manual
leaves open, as constants with no body. -/

namespace Sys2Proof

/-! ## Names used in several chapters -/

/-- Section 5.3: a direction. -/
inductive Dir where
  | up
  | down
  | unknown
deriving DecidableEq, Repr

/-- Section 5.3: a block holds no tag, a known tag, or UNKNOWN. -/
inductive Tag where
  | none
  | known (n : Nat)
  | unknown
deriving DecidableEq, Repr

/-- A turnout position (R35). -/
inductive Pos where
  | normal
  | reverse
deriving DecidableEq, Repr

/-- An end of the turntable bridge (section 8.1). -/
inductive BridgeEnd where
  | a
  | b
deriving DecidableEq, Repr

/-- A block reference: a local block, or a block mirror (R8, R95). -/
inductive BlockRef where
  | here (b : Nat)
  | mirror (i : Nat)
deriving DecidableEq, Repr

/-- A signal reference: a local signal, or a signal mirror (R51). -/
inductive SignalRef where
  | here (n : Nat)
  | mirror (i : Nat)
deriving DecidableEq, Repr

/-- R7: the kind of a block. -/
inductive BlockKind where
  | absent
  | plain
  | platform
  | deck
  | road
deriving DecidableEq, Repr

/-- R35: the drive kind of a turnout. -/
inductive DriveKind where
  | solenoid
  | motor
deriving DecidableEq, Repr

/-- R35: the feedback kind of a turnout. -/
inductive Feedback where
  | twoContact
  | reverseContact
  | none
deriving DecidableEq, Repr

/-- R95: the head type of a signal. -/
inductive Head where
  | two
  | three
  | four
deriving DecidableEq, Repr

/-- R51: the speed class of a route. -/
inductive Speed where
  | full
  | medium
  | slow
deriving DecidableEq, Repr

/-- R160: the kind of a timetable entry. -/
inductive EntryKind where
  | timed
  | onDemand
  | show
deriving DecidableEq, Repr

/-- Section 10.1: the kind of a button. -/
inductive ButtonKind where
  | depart
  | turntableShow
  | stopPlunger
  | unused
deriving DecidableEq, Repr

/-! ## Records of the image -/

/-- The station section (section 12.2). Times in ms; zero selects a default (R2, R35). -/
structure StationCfg where
  rise        : Nat
  drop        : Nat
  recharge    : Nat
  confirm     : Nat
  groupMask   : BitVec 64
  noticeGroup : Nat
  beacon      : Bool
deriving DecidableEq, Repr

/-- The configured part of a block record (R2, R5). -/
structure BlockCfg where
  kind       : BlockKind
  road       : Option Nat
  neighbours : List BlockRef
  published  : Bool
  rise       : Option Nat
  drop       : Option Nat
deriving DecidableEq, Repr

/-- A mirror entry's configuration: the owner and the owner's item (R12). -/
structure MirrorCfg where
  owner : Nat
  item  : Nat
deriving DecidableEq, Repr

/-- The configured part of a turnout record (R35). Times in ms. -/
structure TurnoutCfg where
  drive    : DriveKind
  feedback : Feedback
  owning   : Nat
  pulse    : Nat
  timeout  : Nat
deriving DecidableEq, Repr

/-- The configured part of a signal record (R95). Times in s. -/
structure SignalCfg where
  head        : Head
  topRank     : Nat
  approach    : Option BlockRef
  releaseTime : Nat
  controlTime : Nat
  published   : Bool
deriving DecidableEq, Repr

/-- A route's foreign part (R51): the owner and the owner's blocks in path order. -/
structure ForeignPart where
  owner  : Nat
  blocks : List Nat
deriving DecidableEq, Repr

/-- A configured route (R51). -/
structure RouteCfg where
  entry     : Nat
  dir       : Dir
  path      : List Nat
  turnouts  : List (Nat × Pos)
  flank     : List (Nat × Pos)
  overlap   : Option Nat
  speed     : Speed
  exit      : Option SignalRef
  foreign   : Option ForeignPart
  turntable : Option (Nat × BridgeEnd)
deriving DecidableEq, Repr

/-- A configured road (R126): its position and the ROAD block that serves it. -/
structure RoadCfg where
  pos   : Nat
  block : Nat
deriving DecidableEq, Repr

/-- The turntable's geometry and road table (R125, R126). `steps` is C, `backlash` L, `limit` W, `home` H0,
`polarity` P0, `i0` and `i7` the base and top intervals in µs, `perLevel` R. -/
structure TurntableCfg where
  steps    : Nat
  backlash : Nat
  limit    : Nat
  home     : Nat
  polarity : Nat
  slip     : Nat
  i0       : Nat
  i7       : Nat
  perLevel : Nat
  deck     : Nat
  roads    : List (Option RoadCfg)
deriving DecidableEq, Repr

/-- A timetable entry's loadable fields (R159, R166): an hour or a tag of `none` is ANY. -/
structure EntryCfg where
  kind     : EntryKind
  hour     : Option Nat
  minute   : Nat
  lead     : Nat
  route    : Nat
  tag      : Option Nat
  dest     : Nat
  platform : Nat
deriving DecidableEq, Repr

/-- The configured part of a button record (R169). Guard time in s. -/
structure ButtonCfg where
  kind  : ButtonKind
  entry : Nat
  guard : Nat
deriving DecidableEq, Repr

/-- The records of the ten sections of an image, each list in item order (section 12.2). -/
structure Config where
  station   : StationCfg
  blocks    : List BlockCfg
  bmirrors  : List (Option MirrorCfg)
  smirrors  : List (Option MirrorCfg)
  turnouts  : List (Option TurnoutCfg)
  signals   : List (Option SignalCfg)
  routes    : List (Option RouteCfg)
  turntable : Option TurntableCfg
  timetable : List (Option EntryCfg)
  texts     : List (List Byte)
  buttons   : List ButtonCfg
deriving DecidableEq, Repr

/-- A configuration image as the memory line delivers it (R197): the address of the first read that the memory did not
answer, if any, the memory's bytes from address 0 (an unlisted byte is 0), and the records the sections hold. The manual
gives the byte layout of the header only, so the records come beside the bytes (DESIGN CHOICE, log entry 5). -/
structure Image where
  unread  : Option Nat
  bytes   : List Byte
  records : Config
deriving DecidableEq, Repr

/-! ## Absent items and the empty configuration -/

/-- A block number with no block (R7). -/
def BlockCfg.absent : BlockCfg :=
  ⟨.absent, none, [], false, none, none⟩

/-- A button number with no button. -/
def ButtonCfg.unused : ButtonCfg := ⟨.unused, 0, 0⟩

/-- The configuration before an image is accepted: every item unused. -/
def Config.empty : Config where
  station   := ⟨0, 0, 50, 0, 0, 0, false⟩
  blocks    := []
  bmirrors  := []
  smirrors  := []
  turnouts  := []
  signals   := []
  routes    := []
  turntable := none
  timetable := []
  texts     := []
  buttons   := []

namespace Config

/-- The record of block `b`; a number beyond the list is ABSENT. -/
def block (c : Config) (b : Nat) : BlockCfg := c.blocks.getD b .absent
/-- The owner and item of block mirror `i`, if configured. -/
def bmirror (c : Config) (i : Nat) : Option MirrorCfg := c.bmirrors.getD i none
/-- The owner and item of signal mirror `i`, if configured. -/
def smirror (c : Config) (i : Nat) : Option MirrorCfg := c.smirrors.getD i none
/-- The record of turnout `t`, if configured. -/
def turnout (c : Config) (t : Nat) : Option TurnoutCfg := c.turnouts.getD t none
/-- The record of signal `n`, if configured. -/
def signal (c : Config) (n : Nat) : Option SignalCfg := c.signals.getD n none
/-- The record of route `n`, if configured. -/
def route (c : Config) (n : Nat) : Option RouteCfg := c.routes.getD n none
/-- The record of button `k`. -/
def button (c : Config) (k : Nat) : ButtonCfg := c.buttons.getD k .unused
/-- The block is published (R10); an ABSENT block is not. -/
def published (c : Config) (b : Nat) : Bool := (c.block b).published && (c.block b).kind != .absent
/-- The signal is configured and published (R95). -/
def signalPublished (c : Config) (n : Nat) : Bool := match c.signal n with
  | some g => g.published
  | none => false

end Config

/-! ## Free values

Each is a constant the manual leaves open: nothing in this package gives it a value. The argument numbers the
draw (the field `free` of the state) or names the field concerned. -/

/-- R189: the number drawn for a backoff; the rule's bound is applied where it is used. Log entry 13. -/
opaque Config.backoffDraw : Nat → Nat
/-- R152: the accumulator's remainder at a rollover commanded before the model's own count reaches 600,000;
the rule's bound is applied where it is used. Log entry 14. -/
opaque Config.rolloverRemainder : Nat → Nat
/-- R127, R144: the unwound position of a deck that has become unhomed. Log entry 15. -/
opaque Config.unkeptWinding : Nat → BitVec 32
/-- R195, R199: the image CRC that a station reports when the memory did not answer. Log entry 16. -/
opaque Config.unreadCrc : Nat → BitVec 16
/-- R195: the group mask of a station with a refused image. Log entry 16. -/
opaque Config.refusedGroupMask : Nat → BitVec 64
/-- R195: the notice group of a station with a refused image. Log entry 16. -/
opaque Config.refusedNoticeGroup : Nat → BitVec 6
/-- R195: the turntable flag of a station with a refused image. Log entry 16. -/
opaque Config.refusedTurntable : Nat → Bool
/-- R195: the beacon flag of a station with a refused image. Log entry 16. -/
opaque Config.refusedBeacon : Nat → Bool
/-- R197: whether the header byte named for a two-byte field that begins at byte `k` is its low byte. Log entry 17. -/
opaque Config.headerNamesLowByte : Nat → Bool
/-- R197: the record number named for the station section. Log entry 17. -/
opaque Config.stationRecordNumber : Byte
/-- R197: the record number named for the turntable's geometry. Log entry 17. -/
opaque Config.geometryRecordNumber : Byte
/-- R197: the record number named for signal mirror `i`, which shares its section with the block mirrors. Log
entry 17. -/
opaque Config.signalMirrorRecordNumber : Nat → Byte
/-- R197: whether, of two records that may not stand together, the lower numbered is the one named. Log entry 17. -/
opaque Config.clashNamesLower : Bool
/-- R181: whether a data bit of 1 goes on the line at the driven level. Log entry 45. -/
opaque Config.oneIsDriven : Bool
/-- R176: whether an ANY-hour entry that was CANCELLED stays on the board after its departure minute: the rule's
table and its last paragraph differ. Log entry 36. -/
opaque Config.passedCancelledShows : Bool

end Sys2Proof
end

