-- ==== Sys2Proof/Syntax.lean ====
section
/-! DEFINITION. The commands of the SC48: one constructor for each row of spec/opcode_table.json. -/

namespace Sys2Proof

/-- A mirror entry: a block mirror or a signal mirror (R12). -/
inductive MirrorId where
  | block (i : Nat)
  | signal (i : Nat)
deriving DecidableEq, Repr

/-- A contact input of a turnout (R36). -/
inductive Contact where
  | normal
  | reverse
deriving DecidableEq, Repr

/-- The readings of the home sensor about a step of the bridge (R129, R142): its sample before the step, and its level
after it. -/
structure HomeSensor where
  before : Bool
  after  : Bool
deriving DecidableEq, Repr

/-- The commands (steps) of the part, in the table's order. A command that takes a frame has no operand: the
frame is the oldest one in the receive queue (R186). Operands are item numbers, input levels (`true` is active)
and the bytes read from the link or from the memory. -/
inductive Instr where
  /-- R196: power-on. -/
  | powerOn
  /-- R196: the reset pin. -/
  | resetPin
  /-- R196: the supply has settled and the memory line is ready. -/
  | supplySettled
  /-- R197: the image read completes. -/
  | imageReadComplete (image : Image)
  /-- R199: the settle timer reaches 1 s. -/
  | settleTimerExpiry
  /-- R200: a RESTART is taken. -/
  | restart
  /-- R1: the rise filter of detector `n` has counted its time. -/
  | detectorRiseExpiry (n : Nat)
  /-- R1: the drop filter of detector `n` has counted its time. -/
  | detectorDropExpiry (n : Nat)
  /-- R11: the republish timer expires. -/
  | republishTimerExpiry
  /-- R16: a mirror's lapse timer expires. -/
  | mirrorLapse (m : MirrorId)
  /-- R33: the deck carry's lapse timer reaches 1 s. -/
  | deckCarryLapse
  /-- R28: a TAG SET is taken. -/
  | tagSet
  /-- R47: the filtered contact reading of turnout `t` becomes (normal shown, reverse shown). -/
  | turnoutFeedbackChange (t : Nat) (normal : Bool) (reverse : Bool)
  /-- R48: a TURNOUT REQUEST is taken. -/
  | turnoutRequest
  /-- R43: the pulse time ends. -/
  | solenoidPulseEnd
  /-- R41: the recharge timer expires. -/
  | cduRechargeExpiry
  /-- R43: the confirm window of turnout `t` runs out. -/
  | confirmWindowExpiry (t : Nat)
  /-- R44: the motor timer of turnout `t` expires. -/
  | motorTimeoutExpiry (t : Nat)
  /-- R55: a ROUTE REQUEST is taken. -/
  | routeRequest
  /-- R69: a ROUTE CANCEL is taken. -/
  | routeCancel
  /-- R71: the approach release timer of route `n` expires. -/
  | approachReleaseExpiry (n : Nat)
  /-- R81: a CLAIM ANSWER with GRANT is taken. -/
  | claimAnswerGrant
  /-- R83: a CLAIM ANSWER with another result is taken. -/
  | claimAnswerRefuse
  /-- R84: the answer timer of route `n` reaches 400 ms. -/
  | claimAnswerTimeout (n : Nat)
  /-- R87: the owner wait timer of route `n` reaches 20 s. -/
  | ownerWaitExpiry (n : Nat)
  /-- R88, R185: byte 8 of a frame in reception has been read; `bytes` are bytes 0 to 8. -/
  | claimBlockListReceived (bytes : List Byte)
  /-- R90: a CLAIM REQUEST is taken. -/
  | claimRequestTaken
  /-- R93: a CLAIM RELEASE is taken. -/
  | claimRelease
  /-- R94: a CLAIM PURGE is taken. -/
  | claimPurge
  /-- R103: the approach control timer of signal `n` expires. -/
  | approachControlExpiry (n : Nat)
  /-- R106: the proving filter of signal `n` reaches 250 ms. -/
  | lampProvingExpiry (n : Nat)
  /-- R109: a ZONE STOP is taken. -/
  | zoneStop
  /-- R110: a ZONE RESUME is taken. -/
  | zoneResume
  /-- R115: a WATCH SET is taken. -/
  | watchSet
  /-- R116: a WATCH CLEAR is taken. -/
  | watchClear
  /-- R130: a TURNTABLE REQUEST of kind MOVE (or of no known kind) is taken. -/
  | turntableMove
  /-- R130: a TURNTABLE REQUEST of kind SWAP is taken. -/
  | turntableSwap
  /-- R132: a TURNTABLE REQUEST of kind CANCEL_ALL is taken. -/
  | turntableCancelAll
  /-- R129: the filtered lock confirm becomes withdrawn. -/
  | lockConfirmWithdrawn
  /-- R129: the filtered lock confirm becomes engaged. -/
  | lockConfirmEngaged
  /-- R141: the unlock confirm timer reaches 1 s. -/
  | unlockConfirmExpiry
  /-- R143: a step interval ends; `home` is the home sensor before and after the step (R129, R142). -/
  | stepIntervalExpiry (home : HomeSensor)
  /-- R145: the lock confirm timer reaches 1 s. -/
  | lockConfirmExpiry
  /-- R152: the accumulator reaches 600,000. -/
  | scaleRollover
  /-- R154: a CLOCK SET is taken. -/
  | clockSet
  /-- R155: a CLOCK CONTROL with RUN is taken. -/
  | clockControlRun
  /-- R155: a CLOCK CONTROL with STOP is taken. -/
  | clockControlStop
  /-- R156: a CLOCK BEACON is taken. -/
  | clockBeacon
  /-- R166: a TIMETABLE LOAD is taken. -/
  | timetableLoad
  /-- R167: a TIMETABLE CANCEL is taken. -/
  | timetableCancel
  /-- R170: the press filter of button `k` reaches 20 ms. -/
  | buttonPress (k : Nat)
  /-- R170: the release filter of button `k` reaches 20 ms. -/
  | buttonReleaseFilter (k : Nat)
  /-- R171: the guard timer of button `k` expires. -/
  | guardExpiry (k : Nat)
  /-- R171: the flash half-period of button `k` ends. -/
  | lampFlashExpiry (k : Nat)
  /-- R180: the end byte of a row frame has gone. -/
  | boardRowSent
  /-- R180: the refresh timer expires. -/
  | boardRefreshExpiry
  /-- R183: a frame that is not this station's own ends on the line; `broken` says that a stop bit was at the
  driven level or that the frame was cut short. -/
  | frameEnd (bytes : List Byte) (broken : Bool)
  /-- R14: an OCCUPANCY REPORT is taken. -/
  | occupancyReportTaken
  /-- R15: an ASPECT REPORT is taken. -/
  | aspectReportTaken
  /-- R17: an ANNOUNCE is taken. -/
  | announceTaken
  /-- R194: a REFRESH QUERY is taken. -/
  | refreshQuery
  /-- R195: a STATUS QUERY is taken. -/
  | statusQuery
  /-- R188: the line has been idle for 6 bit times. -/
  | urgentGapReached
  /-- R188, R191: the line has been idle for 10 bit times. -/
  | ordinaryGapReached
  /-- R188: the last CRC byte of the frame in hand has gone out. -/
  | frameSent
  /-- R189: a bit read back differs from the bit sent. -/
  | collision
  /-- R189: the backoff of the frame in hand has passed. -/
  | backoffRetry
  /-- R1: detector input `n` is sampled at `level`. -/
  | detectorInputChange (n : Nat) (level : Bool)
  /-- R36: a contact input of turnout `t` changes to `level`. -/
  | turnoutContactInputChange (t : Nat) (contact : Contact) (level : Bool)
  /-- R106: the proving input of signal `n` changes to `level`. -/
  | redLampInputChange (n : Nat) (level : Bool)
  /-- R129: the bridge lock confirm input changes to `level` (active is engaged). -/
  | lockConfirmInputChange (level : Bool)
  /-- R170: button input `k` is sampled at `level`. -/
  | buttonInputChange (k : Nat) (level : Bool)
  /-- R181, R188: a start bit appears on the line. -/
  | lineStartBit
deriving DecidableEq, Repr

end Sys2Proof
end

