-- ==== Sys2Proof/Machine/State.lean ====
section
/-! DEFINITION. The state of the SC48, unit by unit (00_scope.md section 2), its reset, and the reasons a step can
stop. Item numbers index lists of the length the manual gives; `none` for a timer is 'stopped'. -/

namespace Sys2Proof.Machine

/-! ## Common -/

/-- A timer: stopped, or the milliseconds it has counted. -/
abbrev Timer := Option Nat

/-- R196: the station states. -/
inductive Station where
  | powerUp
  | loading
  | configFault
  | announcing
  | running
deriving DecidableEq, Repr

/-- R196: the restart cause. -/
inductive RestartCause where
  | powerOn
  | resetPin
  | restart
deriving DecidableEq, Repr

/-- Section 5.6: the holder of a block. -/
inductive Holder where
  | free
  | route (n : Nat)
  | foreignClaim (station tag : Nat)
  | arrivalHold (station : Nat)
  | turntable
deriving DecidableEq, Repr

/-- Section 11.7: the fault kinds. -/
inductive FaultKind where
  | none
  | throwTimeout
  | contactsBoth
  | proofLost
  | lampDark
  | unlockTimeout
  | homeFailed
  | slip
  | lockTimeout
  | lockLost
  | imageRead
  | imageHeader
  | imageCrc
  | imageRange
  | addressClash
deriving DecidableEq, Repr

/-- Section 11.7: the items named in reports and in the fault record. -/
inductive Item where
  | none
  | route (n : Nat)
  | block (n : Nat)
  | turnout (n : Nat)
  | signal (n : Nat)
  | road (n : Nat)
  | station (n : Nat)
  | ownersBlock (n : Nat)
  | turntable
  | headerByte (n : Nat)
  | imageRecord (sect : Nat) (n : Byte)
deriving DecidableEq, Repr

/-- Section 5.7 and 11.7: the result codes. -/
inductive Code where
  | done
  | notRunning
  | badItem
  | busy
  | conflict
  | occupied
  | held
  | possession
  | turnoutFailed
  | flank
  | turntableNotReady
  | foreignRefused
  | claimTimeout
  | throwFailed
  | ownerRestarted
  | notOwner
  | inUse
  | full
  | badTag
  | notOccupied
  | noTurntable
  | badRoad
  | notAligned
  | stopped
deriving DecidableEq, Repr

/-- Section 11.7: the frame kinds. -/
inductive FrameKind where
  | occupancyReport
  | aspectReport
  | claimRequest
  | claimAnswer
  | claimRelease
  | claimPurge
  | routeRequest
  | routeCancel
  | routeReport
  | turnoutRequest
  | tagSet
  | turntableRequest
  | turntableReport
  | clockSet
  | clockControl
  | clockBeacon
  | timetableLoad
  | timetableCancel
  | watchSet
  | watchClear
  | watchNotice
  | zoneStop
  | zoneResume
  | stationNotice
  | statusQuery
  | statusReply
  | refreshQuery
  | announce
  | restart
  | answer
deriving DecidableEq, Repr

/-- R182: a frame without its length byte and CRC, which follow from it. -/
structure Frame where
  dest    : Nat
  src     : Nat
  kind    : FrameKind
  payload : List Byte
deriving DecidableEq, Repr

/-! ## DIU: R1 -/

/-- R1: a detector filter's state. -/
inductive FilterState where
  | clear
  | rising
  | occupied
  | falling
deriving DecidableEq, Repr

/-- R1: one detector input's filter. -/
structure DetectorFilter where
  state : FilterState
  timer : Timer
deriving DecidableEq, Repr

/-! ## BKT: R5, R12 -/

/-- R5: the running part of a block record. -/
structure Block where
  occupied : Bool
  tag      : Tag
  dir      : Dir
  holder   : Holder
deriving DecidableEq, Repr

/-- R13: the freshness of a mirror entry. -/
inductive Freshness where
  | unknown
  | fresh
  | stale
deriving DecidableEq, Repr

/-- R12: a block mirror. -/
structure BlockMirror where
  freshness : Freshness
  lapse     : Timer
  occupied  : Bool
  tag       : Tag
  dir       : Dir
deriving DecidableEq, Repr

/-- R12: a signal mirror. -/
structure SignalMirror where
  freshness : Freshness
  lapse     : Timer
  rank      : Nat
  top       : Bool
  dark      : Bool
deriving DecidableEq, Repr

/-- The Block Table with the Mirror Table and the republish timer (R5, R11, R12). -/
structure BlockTable where
  blocks    : List Block
  bmirrors  : List BlockMirror
  smirrors  : List SignalMirror
  republish : Timer
deriving DecidableEq, Repr

/-! ## TRK: R19 -/

/-- R30: what the deck carry holds. -/
structure Carry where
  tag : Tag
  dir : Dir
deriving DecidableEq, Repr

/-- R19: the tracker's own state (its sets stand in the TRACKING slot). -/
structure Tracker where
  carry : Option Carry
  lapse : Timer
deriving DecidableEq, Repr

/-! ## TDU: R35 -/

/-- R37: the state of a turnout. -/
inductive TurnoutState where
  | normal
  | reverse
  | unknown
  | queued
  | moving
  | failed
deriving DecidableEq, Repr

/-- R43, R44: how far a drive has come: the pulse, the confirm window with its count, or the motor with its. -/
inductive DriveStage where
  | pulse
  | window (t : Nat)
  | motor (t : Nat)
deriving DecidableEq, Repr

/-- R35: the drive position, present only while MOVING, with the stage of the drive. -/
structure Drive where
  pos   : Pos
  stage : DriveStage
deriving DecidableEq, Repr

/-- R36: a contact input's filtered level and its 10 ms filter. -/
structure ContactFilter where
  level : Bool
  timer : Timer
deriving DecidableEq, Repr

/-- R35: the running part of a turnout record, and its filtered contacts. -/
structure Turnout where
  state      : TurnoutState
  commanded  : Pos
  proven     : Option Pos
  drive      : Option Drive
  requester  : Option Nat
  pathHolder : Option Nat
  flankCount : Nat
  normalIn   : ContactFilter
  reverseIn  : ContactFilter
deriving DecidableEq, Repr

/-- R41: the solenoid discharge unit. PULSING names the turnout whose pulse time runs. -/
inductive Cdu where
  | ready
  | pulsing (turnout : Nat) (t : Nat)
  | recharging (t : Nat)
deriving DecidableEq, Repr

/-- The Turnout Drive Unit: records, throw queue (oldest first) and CDU. -/
structure TurnoutUnit where
  turnouts : List Turnout
  queue    : List (Nat × Pos)
  cdu      : Cdu
deriving DecidableEq, Repr

/-! ## ILK: R53 -/

/-- R54: the state of a route. -/
inductive RouteState where
  | idle
  | claiming
  | throwing
  | set
  | approachHeld
  | inUse
deriving DecidableEq, Repr

/-- R53, R92: the progress of a block. -/
inductive Progress where
  | notEntered
  | entered
  | released
  | stuck
deriving DecidableEq, Repr

/-- R53: where a route's reports go. -/
inductive ReportTo where
  | station (n : Nat)
  | noticeGroup
deriving DecidableEq, Repr

/-- R74: a source of a request: an entry, or a button with the entry it serves. -/
structure Source where
  entry  : Nat
  button : Option Nat
deriving DecidableEq, Repr

/-- R74: a request of the pending route list. -/
structure Request where
  route  : Nat
  source : Source
  tag    : Option Nat
deriving DecidableEq, Repr

/-- R53: the runtime state of a route. `attached` is the request the route was started for (R77). -/
structure Route where
  state       : RouteState
  reportTo    : Option ReportTo
  attached    : Option Request
  progress    : List Progress
  overlapHeld : Bool
  approach    : Timer
  forced      : Bool
deriving DecidableEq, Repr

/-- The Interlocking Engine: routes and pending route list (oldest first). -/
structure Interlocking where
  routes  : List Route
  waiting : List Request
deriving DecidableEq, Repr

/-! ## CLU: R78, R92 -/

/-- R78: the status of a route's claim. -/
inductive ClaimStatus where
  | none
  | awaiting
  | granted
  | waitingOwner
  | reclaiming
  | lost
deriving DecidableEq, Repr

/-- R78: the claim state of a route. -/
structure Claim where
  status  : ClaimStatus
  awaited : Option Nat
  held    : Option Nat
  counter : Nat
  answer  : Timer
  wait    : Timer
deriving DecidableEq, Repr

/-- R92: a record of the claim table. -/
structure ClaimRecord where
  requester : Nat
  tag       : Nat
  dir       : Dir
  blocks    : List Nat
  progress  : List Progress
  release   : Bool
deriving DecidableEq, Repr

/-- R88: an entry of the arrival list: the source and the blocks held for one frame. -/
structure Arrival where
  station : Nat
  blocks  : List Nat
deriving DecidableEq, Repr

/-- The Claim Unit. `reception` is the arrival list's entry for the frame in reception; the entry of a waiting
frame stands with that frame in the receive queue. -/
structure ClaimUnit where
  claims    : List Claim
  table     : List ClaimRecord
  reception : Option Arrival
deriving DecidableEq, Repr

/-! ## ASE: R96, R108 -/

/-- R103: approach control. -/
inductive Control where
  | stopped
  | running (t : Nat)
  | released
deriving DecidableEq, Repr

/-- R96: the running state of a signal. -/
structure Signal where
  route   : Option Nat
  rank    : Nat
  top     : Bool
  dark    : Bool
  control : Control
  proving : Timer
deriving DecidableEq, Repr

/-- R108: the station stop state: the sources present. Zones are rising group numbers. -/
structure StopState where
  plunger : Bool
  layout  : Bool
  zones   : List Nat
deriving DecidableEq, Repr

/-- The Aspect Evaluator. -/
structure Aspects where
  signals : List Signal
  stop    : StopState
deriving DecidableEq, Repr

/-! ## WCU: R113 -/

/-- R113: the kind of an entry, with a possession's state. -/
inductive WatchKind where
  | watch
  | pending
  | active
deriving DecidableEq, Repr

/-- R113: a watch entry; the mask's bits are those of section 11.7. -/
structure Watch where
  setter : Nat
  kind   : WatchKind
  first  : Nat
  last   : Nat
  mask   : Byte
deriving DecidableEq, Repr

/-! ## TTC: R127 -/

/-- R128: the phases. -/
inductive Phase where
  | unhomed
  | aligned
  | unaligned
  | unlocking
  | homing
  | moving
  | settling
  | locking
  | fault
deriving DecidableEq, Repr

/-- R127: a turning direction. -/
inductive Turn where
  | cw
  | ccw
deriving DecidableEq, Repr

/-- R131: the source of a move. -/
inductive MoveSource where
  | station (n : Nat)
  | button (k : Nat)
deriving DecidableEq, Repr

/-- R131: the target of a queued move. -/
inductive MoveTarget where
  | road (r : Nat) (e : BridgeEnd)
  | swap
deriving DecidableEq, Repr

/-- R131: a request of the move queue. -/
structure MoveRequest where
  source : MoveSource
  target : MoveTarget
deriving DecidableEq, Repr

/-- R138: a plan: the main run's direction and length, and the length of the return run (always CW). -/
structure Plan where
  turn  : Turn
  main  : Nat
  back  : Nat
deriving DecidableEq, Repr

/-- R143, R146: the run being made: its direction and length, the steps made, and for an abort's ramp-down the
level it began from, its length and the steps of it made. -/
structure Run where
  turn  : Turn
  len   : Nat
  made  : Nat
  ramp  : Option (Nat × Nat × Nat)
deriving DecidableEq, Repr

/-- R127: the current move. `homing` counts the steps made in HOMING (R142); `slipped` is set by R144. -/
structure Move where
  source   : MoveSource
  road     : Nat
  bridge   : BridgeEnd
  target   : Nat
  halfTurn : Bool
  plan     : Option Plan
  run      : Option Run
  homing   : Nat
  aborting : Bool
  slipped  : Bool
deriving DecidableEq, Repr

/-- R127: the Turntable Controller. -/
structure Turntable where
  pos        : Nat
  winding    : Int
  homed      : Bool
  lastTurn   : Turn
  alignedAt  : Option (Nat × BridgeEnd)
  phase      : Phase
  queue      : List MoveRequest
  current    : Option Move
  unlockTime : Timer
  lockTime   : Timer
  deckPower  : Bool
  reversed   : Bool
  lockEngage : Bool
  stepping   : Option Turn
  confirm    : ContactFilter
deriving DecidableEq, Repr

/-! ## SCK: R151 -/

/-- R151: the clock state. -/
inductive ClockState where
  | invalid
  | stopped
  | running
deriving DecidableEq, Repr

/-- R151: the Scale Clock. -/
structure Clock where
  state  : ClockState
  minute : Nat
  acc    : Nat
  ratio  : Nat
  epoch  : Nat
deriving DecidableEq, Repr

/-! ## TMU: R159 -/

/-- R160: the status of a timetable entry. -/
inductive EntryStatus where
  | waiting
  | due
  | ready
  | departed
  | cancelled
  | missed
deriving DecidableEq, Repr

/-- R159: a used timetable entry. `depBlock` is the departure block, absent for SHOW. -/
structure Entry where
  cfg      : EntryCfg
  depBlock : Option Nat
  status   : EntryStatus
  passed   : Bool
deriving DecidableEq, Repr

/-! ## BIU: R169 -/

/-- R171: the state of a button. -/
inductive ButtonState where
  | armed
  | busy
  | guard
  | disabled
deriving DecidableEq, Repr

/-- R170: a button's press filter. -/
inductive PressFilter where
  | released
  | pressing
  | pressed
  | releasing
deriving DecidableEq, Repr

/-- R169: the running part of a button record. `flash` holds the count of the half-period and whether the lamp
is on. -/
structure Button where
  state  : ButtonState
  filter : PressFilter
  timer  : Timer
  guard  : Timer
  flash  : Option (Nat × Bool)
deriving DecidableEq, Repr

/-- The Button Input Unit. -/
structure Buttons where
  buttons : List Button
  ready   : Bool
deriving DecidableEq, Repr

/-! ## BDR: R175 -/

/-- R175: a row of the board. -/
structure Row where
  image : List Byte
  sent  : Option (List Byte)
  dirty : Bool
deriving DecidableEq, Repr

/-- R180: what the display line carries: the index 0 to 4 of the row being sent, and the text of its frame, taken
when the send began. -/
structure Sending where
  row  : Nat
  text : List Byte
deriving DecidableEq, Repr

/-- R175, R180: the Board Driver; `line` is none while the display line is idle. -/
structure Board where
  rows    : List Row
  refresh : Timer
  line    : Option Sending
deriving DecidableEq, Repr

/-! ## LNK: R186 to R193 -/

/-- R18, R88, R186: a waiting frame: whether it precedes a loss, and its arrival list entry's blocks. -/
structure RxFrame where
  frame    : Frame
  precedes : Bool
  arrival  : Option (List Nat)
deriving DecidableEq, Repr

/-- R192: the contents of the FAULT slot: rising item numbers, and the turntable's fault code. -/
structure FaultSlot where
  turnouts  : List Nat
  signals   : List Nat
  turntable : FaultKind
  routes    : List Nat
deriving DecidableEq, Repr

/-- R192: the contents of the TRACKING slot: rising block numbers. -/
structure TrackingSlot where
  stray : List Nat
  lost  : List Nat
deriving DecidableEq, Repr

/-- R192: the notice kinds. -/
inductive Notice where
  | fault
  | tracking
  | link
deriving DecidableEq, Repr

/-- R189: where a frame in hand came from, with what returns when it is given up. -/
inductive Origin where
  | urgent
  | ordinary
  | blocks (items : List Nat)
  | signals (items : List Nat)
  | faultNotice (c : FaultSlot)
  | trackingNotice (c : TrackingSlot)
  | linkNotice
deriving DecidableEq, Repr

/-- R188: the frame in hand. `backoff` is none while it is being sent, and the slots drawn while it waits.
`last` marks a frame that a restart lets run to its end without a retry. -/
structure InHand where
  frame    : Frame
  origin   : Origin
  attempts : Nat
  backoff  : Option Nat
  last     : Bool
deriving DecidableEq, Repr

/-- R188: the line as the transmitter sees it: driven, idle for less than 6 bit times, for 6, or for 10. -/
inductive LineIdle where
  | driven
  | below
  | urgentGap
  | ordinaryGap
deriving DecidableEq, Repr

/-- R193: the five link counters. -/
structure Counters where
  crc      : Nat
  framing  : Nat
  missed   : Nat
  giveUp   : Nat
  overflow : Nat
deriving DecidableEq, Repr

/-- The Link Controller. -/
structure Link where
  rx          : List RxFrame
  urgent      : List Frame
  ordinary    : List Frame
  markBlocks  : List Nat
  markSignals : List Nat
  faults      : FaultSlot
  tracking    : TrackingSlot
  order       : List Notice
  counters    : Counters
  inHand      : Option InHand
  idle        : LineIdle
deriving DecidableEq, Repr

/-! ## CFL: R201 -/

/-- R201: the fault record; a minute of none is NONE. -/
structure FaultRecord where
  kind   : FaultKind
  item   : Item
  minute : Option Nat
  count  : Nat
deriving DecidableEq, Repr

/-! ## The whole -/

/-- The units whose state events change. `free` numbers the free values drawn (the model's own field). -/
structure Units where
  filters   : List DetectorFilter
  bkt       : BlockTable
  trk       : Tracker
  tdu       : TurnoutUnit
  ilk       : Interlocking
  clu       : ClaimUnit
  ase       : Aspects
  watches   : List (Option Watch)
  ttc       : Turntable
  clock     : Clock
  entries   : List (Option Entry)
  biu       : Buttons
  bdr       : Board
  lnk       : Link
  record    : FaultRecord
  free      : Nat
deriving DecidableEq, Repr

/-- The input lines, `true` for active. -/
structure Pins where
  detectors : List Bool
  normals   : List Bool
  reverses  : List Bool
  redLamps  : List Bool
  lock      : Bool
  home      : Bool
  buttons   : List Bool
deriving DecidableEq, Repr

/-- What the Configuration Loader holds beside the fault record (R196, R197), and the configuration in use.
`turntableFlag` is what page 0 of the STATUS REPLY says of a turntable. -/
structure Sys where
  station       : Station
  cause         : RestartCause
  number        : Option Nat
  crc           : BitVec 16
  settle        : Timer
  turntableFlag : Bool
  cfg           : Config
deriving DecidableEq, Repr

/-- The state of the SC48, and the queue of commands that wait, first in first out. -/
structure State where
  sys     : Sys
  pins    : Pins
  units   : Units
  pending : List Instr
deriving DecidableEq, Repr

/-- The reasons a command can stop the model. No command does: every row of the table has the effect the rules
give it. -/
inductive Fault where
  /-- Raised by no command: kept so that the type has a name for a stop. Safe: a stop hides nothing that a
  statement about a next state could claim. -/
  | unreachable
deriving DecidableEq, Repr

/-- The reasons the model has no meaning for a command. -/
inductive Refusal where
  /-- Raised by exec's arm for a command whose meaning is not written. Safe. -/
  | notModelled (mnemonic : String)
deriving DecidableEq, Repr

/-! ## Reset values -/

/-- R5: a block before RUNNING. -/
def Block.initial : Block := ⟨false, .none, .unknown, .free⟩
/-- R12: a block mirror at reset. -/
def BlockMirror.initial : BlockMirror := ⟨.unknown, none, false, .none, .unknown⟩
/-- R12: a signal mirror at reset. -/
def SignalMirror.initial : SignalMirror := ⟨.unknown, none, 0, false, false⟩
/-- R3: a filter before RUNNING. -/
def DetectorFilter.initial : DetectorFilter := ⟨.clear, none⟩
/-- R36: a contact filter before RUNNING (DESIGN CHOICE, log entry 25). -/
def ContactFilter.initial : ContactFilter := ⟨false, none⟩
/-- R37: a turnout before RUNNING. -/
def Turnout.initial : Turnout :=
  ⟨.unknown, .normal, none, none, none, none, 0, .initial, .initial⟩
/-- R53: an IDLE route, of a route number that is not configured: it has no path blocks. -/
def Route.initial : Route := ⟨.idle, none, none, [], false, none, false⟩
/-- R53: a configured route that is IDLE: the progress of each of its path blocks is NOT_ENTERED. -/
def Route.idleOf (r : RouteCfg) : Route := { Route.initial with progress := r.path.map fun _ => .notEntered }
/-- R53: the routes of a configuration, every one IDLE. -/
def routesOf (c : Config) : List Route := (List.range 64).map fun n => match c.route n with
  | some r => .idleOf r
  | none => .initial
/-- R78: a claim state with no claim open. -/
def Claim.initial : Claim := ⟨.none, none, none, 0, none, none⟩
/-- R96: a signal before RUNNING. -/
def Signal.initial : Signal := ⟨none, 0, false, false, .stopped, none⟩
/-- R108: the empty stop state. -/
def StopState.empty : StopState := ⟨false, false, []⟩
/-- R127: the Turntable Controller after a reset, with the polarity output given. -/
def Turntable.initial (reversed : Bool) : Turntable where
  pos        := 0
  winding    := 0
  homed      := false
  lastTurn   := .cw
  alignedAt  := none
  phase      := .unhomed
  queue      := []
  current    := none
  unlockTime := none
  lockTime   := none
  deckPower  := false
  reversed   := reversed
  lockEngage := true
  stepping   := none
  confirm    := .initial
/-- R151: the clock at power-on. -/
def Clock.initial : Clock := ⟨.invalid, 0, 0, 10, 0⟩
/-- R169: a button while the station is not RUNNING. -/
def Button.initial : Button := ⟨.disabled, .released, none, none, none⟩
/-- R175: a row at reset: spaces, nothing sent, dirty. -/
def Row.initial : Row := ⟨List.replicate 32 (byte 32), none, true⟩
/-- R192: the empty FAULT slot. -/
def FaultSlot.empty : FaultSlot := ⟨[], [], .none, []⟩
/-- R192: the empty TRACKING slot. -/
def TrackingSlot.empty : TrackingSlot := ⟨[], []⟩
/-- R186 to R193: the Link Controller at reset; below the gaps on the line (DESIGN CHOICE, log entry 24). -/
def Link.initial : Link where
  rx          := []
  urgent      := []
  ordinary    := []
  markBlocks  := []
  markSignals := []
  faults      := .empty
  tracking    := .empty
  order       := []
  counters    := ⟨0, 0, 0, 0, 0⟩
  inHand      := none
  idle        := .below
/-- R201: the cleared fault record. -/
def FaultRecord.initial : FaultRecord := ⟨.none, .none, none, 0⟩

/-- Every unit at its power-on values. -/
def Units.initial : Units where
  filters := List.replicate 48 .initial
  bkt     := ⟨List.replicate 48 .initial, List.replicate 16 .initial, List.replicate 8 .initial, none⟩
  trk     := ⟨none, none⟩
  tdu     := ⟨List.replicate 32 .initial, [], .ready⟩
  ilk     := ⟨List.replicate 64 .initial, []⟩
  clu     := ⟨List.replicate 64 .initial, [], none⟩
  ase     := ⟨List.replicate 24 .initial, .empty⟩
  watches := List.replicate 8 none
  ttc     := .initial false
  clock   := .initial
  entries := List.replicate 48 none
  biu     := ⟨List.replicate 16 .initial, false⟩
  bdr     := ⟨List.replicate 5 .initial, none, none⟩
  lnk     := .initial
  record  := .initial
  free    := 0

/-- The input lines at reset: all inactive (DESIGN CHOICE, log entry 6). -/
def Pins.initial : Pins where
  detectors := List.replicate 48 false
  normals   := List.replicate 32 false
  reverses  := List.replicate 32 false
  redLamps  := List.replicate 24 false
  lock      := false
  home      := false
  buttons   := List.replicate 16 false

/-- R196: the machine right after power-on: POWER_UP, cause POWER_ON, every unit at its power-on values. -/
def State.reset : State where
  sys     := ⟨.powerUp, .powerOn, none, 0, none, false, .empty⟩
  pins    := .initial
  units   := .initial
  pending := []

end Sys2Proof.Machine
end

