-- ==== Sys2Proof/Machine/Operands.lean ====
section
/-! DEFINITION. The layouts of section 11.7: kind codes, result codes, item and fault kinds, the CRC of R182, and
the payload of each frame, read and written. A byte or bit that no row of the tables names is sent as 0 (DEDUCED
from the remark under the publish frames, log entry 21). -/

namespace Sys2Proof.Machine

/-! ## Bytes -/

/-- Section 11.7: a number of two bytes, high byte first. -/
def bytes16 (n : Nat) : List Byte := [byte (n / 256), byte n]

/-- The number that two bytes carry, high byte first. -/
def word16 (hi lo : Byte) : Nat := hi.toNat * 256 + lo.toNat

/-- Section 11.7: byte `k` of a payload; a byte beyond its end is 0. -/
def payloadAt (p : List Byte) (k : Nat) : Nat := (p.getD k 0).toNat

/-- Section 11.7: a mask of items in `len` bytes, item n in bit (n mod 8) of byte floor(n / 8). -/
def maskBytes (len : Nat) (items : List Nat) : List Byte :=
  (List.range len).map fun k =>
    items.foldl (fun b n => if n / 8 = k then b ||| byte (2 ^ (n % 8)) else b) 0

/-! ## The CRC -/

/-- R182: one bit step of the CRC register, generator x^16 + x^12 + x^5 + 1. -/
def crcBit (r : BitVec 16) : BitVec 16 :=
  if r.msb then (r <<< 1) ^^^ 0x1021#16 else r <<< 1

/-- R182: one byte enters the register, most significant bit first. -/
def crcByte (r : BitVec 16) (b : Byte) : BitVec 16 :=
  crcBit (crcBit (crcBit (crcBit (crcBit (crcBit (crcBit (crcBit
    (r ^^^ (b.zeroExtend 16 <<< 8)))))))))

/-- R182: the CRC over byte values in order, from a register of ones. -/
def crc (bs : List Byte) : BitVec 16 := bs.foldl crcByte 0xFFFF#16

/-! ## Code tables of section 11.7 -/

/-- Section 11.7: the kind codes. -/
def FrameKind.code : FrameKind → Nat
  | .occupancyReport => 0x10 | .aspectReport => 0x11
  | .claimRequest => 0x20 | .claimAnswer => 0x21 | .claimRelease => 0x22 | .claimPurge => 0x23
  | .routeRequest => 0x30 | .routeCancel => 0x31 | .routeReport => 0x32
  | .turnoutRequest => 0x38 | .tagSet => 0x3C
  | .turntableRequest => 0x40 | .turntableReport => 0x41
  | .clockSet => 0x50 | .clockControl => 0x51 | .clockBeacon => 0x52
  | .timetableLoad => 0x58 | .timetableCancel => 0x59
  | .watchSet => 0x60 | .watchClear => 0x61 | .watchNotice => 0x62
  | .zoneStop => 0x68 | .zoneResume => 0x69 | .stationNotice => 0x70
  | .statusQuery => 0x78 | .statusReply => 0x79 | .refreshQuery => 0x7A
  | .announce => 0x7C | .restart => 0x7D | .answer => 0x7F

/-- Section 11.7: every frame kind, in the order of the table. -/
def FrameKind.all : List FrameKind :=
  [.occupancyReport, .aspectReport, .claimRequest, .claimAnswer, .claimRelease, .claimPurge,
   .routeRequest, .routeCancel, .routeReport, .turnoutRequest, .tagSet, .turntableRequest,
   .turntableReport, .clockSet, .clockControl, .clockBeacon, .timetableLoad, .timetableCancel,
   .watchSet, .watchClear, .watchNotice, .zoneStop, .zoneResume, .stationNotice, .statusQuery,
   .statusReply, .refreshQuery, .announce, .restart, .answer]

/-- Section 11.7: the kind that a code names, if any. -/
def FrameKind.ofCode (n : Nat) : Option FrameKind := FrameKind.all.find? fun k => k.code == n

/-- R183 check 5: the kinds the SC48 takes, with the payload lengths of the table. -/
def FrameKind.takes (k : FrameKind) (len : Nat) : Bool :=
  match k with
  | .occupancyReport => decide (3 ≤ len ∧ len ≤ 24 ∧ len % 3 = 0)
  | .aspectReport => decide (2 ≤ len ∧ len ≤ 16 ∧ len % 2 = 0)
  | .claimRequest => len == 5
  | .claimAnswer => len == 4
  | .claimRelease | .claimPurge | .routeRequest | .routeCancel | .timetableCancel | .watchClear => len == 1
  | .turnoutRequest | .clockControl => len == 2
  | .tagSet | .turntableRequest | .statusQuery => len == 3
  | .clockSet => len == 6
  | .clockBeacon | .watchSet | .announce => len == 5
  | .timetableLoad => len == 10
  | .zoneStop | .zoneResume | .refreshQuery | .restart => len == 0
  | .routeReport | .turntableReport | .watchNotice | .stationNotice | .statusReply | .answer => false

/-- Section 11.7: the result codes. -/
def Code.value : Code → Nat
  | .done => 0 | .notRunning => 1 | .badItem => 2 | .busy => 3 | .conflict => 4 | .occupied => 5
  | .held => 6 | .possession => 7 | .turnoutFailed => 8 | .flank => 9 | .turntableNotReady => 10
  | .foreignRefused => 11 | .claimTimeout => 12 | .throwFailed => 13 | .ownerRestarted => 14
  | .notOwner => 16 | .inUse => 17 | .full => 18 | .badTag => 19 | .notOccupied => 20
  | .noTurntable => 21 | .badRoad => 22 | .notAligned => 23 | .stopped => 24

/-- Section 11.7: the fault kinds. -/
def FaultKind.value : FaultKind → Nat
  | .none => 0 | .throwTimeout => 1 | .contactsBoth => 2 | .proofLost => 3 | .lampDark => 4
  | .unlockTimeout => 5 | .homeFailed => 6 | .slip => 7 | .lockTimeout => 8 | .lockLost => 9
  | .imageRead => 10 | .imageHeader => 11 | .imageCrc => 12 | .imageRange => 13 | .addressClash => 14

/-- Section 11.7: an item as its kind and number. -/
def Item.bytes : Item → List Byte
  | .none => [0, 0]
  | .route n => [1, byte n]
  | .block n => [2, byte n]
  | .turnout n => [3, byte n]
  | .signal n => [4, byte n]
  | .road n => [5, byte n]
  | .station n => [6, byte n]
  | .ownersBlock n => [7, byte n]
  | .turntable => [8, 0]
  | .headerByte n => [9, byte n]
  | .imageRecord sect n => [byte (16 + sect), n]

end Sys2Proof.Machine

namespace Sys2Proof

/-! ## Tags, directions, masks -/

/-- Section 5.3: a tag in its 10-bit field. -/
def Tag.field : Tag → Nat
  | .none => 0
  | .known n => n
  | .unknown => 1023

/-- R14: a 10-bit tag field read; 1000 to 1023 are UNKNOWN. -/
def Tag.ofField (f : Nat) : Tag :=
  if f = 0 then .none else if f ≤ 999 then .known f else .unknown

/-- Section 11.7: the tag field of two bytes: bits 9 and 8 in the first byte's bits 1 and 0. -/
def tagField (hi lo : Byte) : Nat := (hi.toNat % 4) * 256 + lo.toNat

/-- Section 11.7: a direction's two bits. -/
def Dir.value : Dir → Nat
  | .unknown => 0
  | .up => 1
  | .down => 2

/-- R14: a direction field read; a value that names neither UP nor DOWN is UNKNOWN. -/
def Dir.ofValue (n : Nat) : Dir := if n = 1 then .up else if n = 2 then .down else .unknown

/-- Section 11.7: the end of a bridge. -/
def BridgeEnd.value : BridgeEnd → Nat
  | .a => 0
  | .b => 1

/-- Section 11.7: an end field read. -/
def BridgeEnd.ofValue (n : Nat) : Option BridgeEnd :=
  if n = 0 then some .a else if n = 1 then some .b else none

end Sys2Proof

namespace Sys2Proof.Machine

/-- Section 11.7: a scale minute of two bytes, 65,535 for NONE. -/
def minuteBytes : Option Nat → List Byte
  | some m => bytes16 m
  | none => [0xFF, 0xFF]

/-- R118: the five causes. -/
inductive Cause where
  | occ
  | tag
  | route
  | aspect
  | turnout
deriving DecidableEq, Repr

/-- Section 11.7: a cause's bit in a cause mask. -/
def Cause.bit : Cause → Byte
  | .occ => 1
  | .tag => 2
  | .route => 4
  | .aspect => 8
  | .turnout => 16

/-- Section 11.7: the GRANTED bit of a WATCH NOTICE. -/
def grantedBit : Byte := 32

/-! ## Frames on the line -/

/-- Section 11.7: the header and payload bytes of a frame. -/
def Frame.body (f : Frame) : List Byte :=
  [byte f.dest, byte f.src, byte f.kind.code, byte f.payload.length] ++ f.payload

/-- Section 11.7: a frame as it goes on the line, its CRC high byte first. -/
def Frame.bytes (f : Frame) : List Byte := f.body ++ bytes16 (crc f.body).toNat

/-- R190: the kinds that travel in the urgent queue. -/
def FrameKind.urgent : FrameKind → Bool
  | .claimRequest | .claimAnswer | .claimRelease | .zoneStop | .zoneResume | .announce => true
  | _ => false

/-- What R183's first two checks make of the bytes read. -/
inductive Reception where
  | badFraming
  | badCrc
  | whole (dest src code : Nat) (payload : List Byte)
deriving DecidableEq, Repr

/-- R183 checks 1 and 2 on the bytes of a frame; `broken` is a stop bit at the driven level or a frame cut short. -/
def receive (bytes : List Byte) (broken : Bool) : Reception :=
  let at' := payloadAt bytes
  let len := at' 3
  if bytes.length < 6 ∨ broken = true ∨ 32 < len ∨ bytes.length ≠ len + 6 ∨ at' 0 = 0 ∨ 127 < at' 0
      ∨ at' 1 = 0 ∨ 62 < at' 1 then .badFraming
  else if (crc (bytes.take (len + 4))).toNat ≠ at' (len + 4) * 256 + at' (len + 5) then .badCrc
  else .whole (at' 0) (at' 1) (at' 2) ((bytes.drop 4).take len)

/-! ## Payloads written -/

/-- ROUTE REPORT outcomes (section 11.7). -/
inductive RouteOutcome where
  | accepted
  | set
  | refused
  | failed
  | released
  | cancelled
deriving DecidableEq, Repr

/-- Section 11.7: a ROUTE REPORT outcome's value. -/
def RouteOutcome.value : RouteOutcome → Nat
  | .accepted => 0 | .set => 1 | .refused => 2 | .failed => 3 | .released => 4 | .cancelled => 5

/-- Section 11.7: the payload of a ROUTE REPORT; `owners` is the owner's refusal code, for FOREIGN_REFUSED. -/
def routeReportPayload (n : Nat) (o : RouteOutcome) (code : Nat) (item : Item) (owners : Nat) : List Byte :=
  [byte n, byte o.value, byte code] ++ item.bytes ++ [byte owners]

/-- TURNTABLE REPORT outcomes with what they carry (R132, section 11.7). -/
inductive MoveOutcome where
  | queued
  | refused (c : Code)
  | aligned (road : Nat) (e : BridgeEnd)
  | aborted (c : Code)
  | fault (k : FaultKind)
  | cancelled (removed : Nat)
deriving DecidableEq, Repr

/-- Section 11.7: the payload of a TURNTABLE REPORT. -/
def MoveOutcome.payload : MoveOutcome → List Byte
  | .queued => [0, 0, 0, 0]
  | .refused c => [1, byte c.value, 0, 0]
  | .aligned r e => [2, 0, byte r, byte e.value]
  | .aborted c => [3, byte c.value, 0, 0]
  | .fault k => [4, byte k.value, 0, 0]
  | .cancelled n => [5, byte n, 0, 0]

/-- Section 11.7: the payload of an ANSWER. -/
def answerPayload (kind : FrameKind) (item : Nat) (c : Code) : List Byte :=
  [byte kind.code, byte item, byte c.value]

/-- Section 11.7: an OCCUPANCY REPORT item. -/
def blockItem (b : Nat) (x : Block) : List Byte :=
  let f := x.tag.field
  [byte b, byte ((if x.occupied then 128 else 0) + x.dir.value * 32 + f / 256 % 4), byte f]

/-- Section 11.7: an ASPECT REPORT item. -/
def signalItem (n : Nat) (g : Signal) : List Byte :=
  [byte n, byte (g.rank % 4 + (if g.top then 4 else 0) + (if g.dark then 8 else 0))]

/-- R119 and section 11.7: the payload of a WATCH NOTICE. -/
def watchNoticePayload (w : Nat) (mask : Byte) (b : Nat) (x : Block) (minute : Option Nat) : List Byte :=
  let f := x.tag.field
  [byte w, mask, byte b, byte ((if x.occupied then 128 else 0) + f / 256 % 4), byte f] ++ minuteBytes minute

/-- R192 and section 11.7: the payload of a FAULT notice. -/
def FaultSlot.payload (c : FaultSlot) : List Byte :=
  [0] ++ maskBytes 4 c.turnouts ++ maskBytes 3 c.signals ++ [byte c.turntable.value] ++ maskBytes 8 c.routes

/-- R34, R192 and section 11.7: the payload of a TRACKING notice. -/
def TrackingSlot.payload (c : TrackingSlot) : List Byte :=
  [1] ++ maskBytes 6 c.stray ++ maskBytes 6 c.lost

/-- R192 and section 11.7: the payload of a LINK notice. -/
def Counters.noticePayload (c : Counters) : List Byte :=
  [2, byte c.missed, byte c.giveUp, byte c.overflow]

/-- R80 and section 11.7: the payload of a CLAIM REQUEST. -/
def claimRequestPayload (tag : Nat) (d : Dir) (blocks : List Nat) : List Byte :=
  [byte tag, byte d.value, byte blocks.length, byte (blocks.getD 0 0), byte (blocks.getD 1 0)]

/-- R199: the values of the restart cause. -/
def RestartCause.value : RestartCause → Nat
  | .powerOn => 0
  | .resetPin => 1
  | .restart => 2

/-- R199: the payload of an ANNOUNCE. -/
def announcePayload (number : Nat) (image : BitVec 16) (c : RestartCause) (fault : Bool) : List Byte :=
  [byte number] ++ bytes16 image.toNat ++ [byte c.value, if fault then 1 else 0]

/-! ## Payloads read -/

/-- R14: the items of an OCCUPANCY REPORT: block, occupied, tag, direction. -/
def blockItems : List Byte → List (Nat × Bool × Tag × Dir)
  | n :: a :: b :: rest =>
    (n.toNat, a.msb, .ofField (tagField a b), .ofValue (a.toNat / 32 % 4)) :: blockItems rest
  | _ => []

/-- R15: the items of an ASPECT REPORT: signal, rank, top flag, dark flag. -/
def signalItems : List Byte → List (Nat × Nat × Bool × Bool)
  | n :: a :: rest => (n.toNat, a.toNat % 4, a.getLsbD 2, a.getLsbD 3) :: signalItems rest
  | _ => []

/-- R166: what a TIMETABLE LOAD carries: the entry number and, when the kind and the tag field name something,
the fields. A tag field outside 0 to 999 is none of the inner option (BAD_TAG). -/
structure LoadFields where
  entry    : Nat
  kind     : Option EntryKind
  hour     : Nat
  minute   : Nat
  lead     : Nat
  route    : Nat
  tag      : Nat
  dest     : Nat
  platform : Nat
deriving DecidableEq, Repr

/-- Section 11.7: the payload of a TIMETABLE LOAD. -/
def LoadFields.read (p : List Byte) : LoadFields where
  entry    := payloadAt p 0
  kind     := match payloadAt p 1 with
    | 0 => some .timed
    | 1 => some .onDemand
    | 2 => some .show
    | _ => none
  hour     := payloadAt p 2
  minute   := payloadAt p 3
  lead     := payloadAt p 4
  route    := payloadAt p 5
  tag      := tagField (p.getD 6 0) (p.getD 7 0)
  dest     := payloadAt p 8
  platform := payloadAt p 9 % 16

end Sys2Proof.Machine
end

