-- ==== Sys2Proof/Machine/Flags.lean ====
section
/-! DEFINITION. The Link Controller's flags and queues as operations on `Link`: the publish-pending set, the three
notice slots and their order (R192), the five counters (R193), and the two transmit queues (R190). -/

namespace Sys2Proof.Machine

/-! ## Sets of item numbers, kept rising -/

/-- Adds a number to a rising list; a number already there stays once. -/
def setInsert (n : Nat) : List Nat → List Nat
  | [] => [n]
  | x :: xs => if n < x then n :: x :: xs else if n = x then x :: xs else x :: setInsert n xs

/-- Joins a list of numbers into a rising list. -/
def setUnion (ns : List Nat) (s : List Nat) : List Nat := ns.foldl (fun s n => setInsert n s) s

/-! ## Counters and slots -/

/-- R193: a raise adds one, and stays at 255. -/
def saturate (n : Nat) : Nat := if n < 255 then n + 1 else 255

namespace Link

/-- R192: the slot becomes pending: it joins the tail of the order unless it is there already. -/
def pend (k : Notice) (l : Link) : Link :=
  if k ∈ l.order then l else { l with order := l.order ++ [k] }

/-- R193: the crc counter, which makes nothing pending. -/
def raiseCrc (l : Link) : Link := { l with counters.crc := saturate l.counters.crc }
/-- R193: the framing counter, which makes nothing pending. -/
def raiseFraming (l : Link) : Link := { l with counters.framing := saturate l.counters.framing }
/-- R187 step 1: the missed counter alone. -/
def raiseMissed (l : Link) : Link := { l with counters.missed := saturate l.counters.missed }
/-- R189, R193: the give-up counter, with the LINK slot. -/
def raiseGiveUp (l : Link) : Link := pend .link { l with counters.giveUp := saturate l.counters.giveUp }
/-- R190, R193: the overflow counter, with the LINK slot. -/
def raiseOverflow (l : Link) : Link := pend .link { l with counters.overflow := saturate l.counters.overflow }

/-- R195: the clear flag sets all five counters to 0. -/
def clearCounters (l : Link) : Link := { l with counters := ⟨0, 0, 0, 0, 0⟩ }

/-- R50: a bit of the failed-turnout mask. -/
def addFailedTurnout (t : Nat) (l : Link) : Link :=
  pend .fault { l with faults.turnouts := setInsert t l.faults.turnouts }
/-- R107: a bit of the dark-signal mask. -/
def addDarkSignal (n : Nat) (l : Link) : Link :=
  pend .fault { l with faults.signals := setInsert n l.faults.signals }
/-- R83: a bit of the claim-lost route mask. -/
def addLostClaim (n : Nat) (l : Link) : Link :=
  pend .fault { l with faults.routes := setInsert n l.faults.routes }
/-- R149: the turntable fault code; a newer kind replaces the one held. -/
def setTurntableFault (k : FaultKind) (l : Link) : Link := pend .fault { l with faults.turntable := k }
/-- R24: a block of the stray set. -/
def addStray (b : Nat) (l : Link) : Link :=
  pend .tracking { l with tracking.stray := setInsert b l.tracking.stray }
/-- R25: a block of the lost set. -/
def addLostTag (b : Nat) (l : Link) : Link :=
  pend .tracking { l with tracking.lost := setInsert b l.tracking.lost }

/-- R192: the contents of a FAULT notice that was given up; a code added since the build is kept. -/
def returnFaults (c : FaultSlot) (l : Link) : Link :=
  pend .fault { l with
    faults.turnouts := setUnion c.turnouts l.faults.turnouts
    faults.signals := setUnion c.signals l.faults.signals
    faults.turntable := if l.faults.turntable = .none then c.turntable else l.faults.turntable
    faults.routes := setUnion c.routes l.faults.routes }

/-- R34, R192: the contents of a TRACKING notice that was given up. -/
def returnTracking (c : TrackingSlot) (l : Link) : Link :=
  pend .tracking { l with
    tracking.stray := setUnion c.stray l.tracking.stray
    tracking.lost := setUnion c.lost l.tracking.lost }

/-! ## Marks -/

/-- R191: a block in the publish-pending set, at most once. -/
def markBlock (b : Nat) (l : Link) : Link := { l with markBlocks := setInsert b l.markBlocks }
/-- R191: a signal in the publish-pending set, at most once. -/
def markSignal (n : Nat) (l : Link) : Link := { l with markSignals := setInsert n l.markSignals }

/-! ## Transmit queues -/

/-- R190: a frame joins the urgent queue of 4, or is dropped with an overflow. -/
def addUrgent (f : Frame) (l : Link) : Link :=
  if l.urgent.length < 4 then { l with urgent := l.urgent ++ [f] } else l.raiseOverflow

/-- R190: a frame joins the ordinary queue of 16, or is dropped with an overflow. -/
def addOrdinary (f : Frame) (l : Link) : Link :=
  if l.ordinary.length < 16 then { l with ordinary := l.ordinary ++ [f] } else l.raiseOverflow

/-- R190: a frame joins the queue of its kind's class. -/
def add (f : Frame) (l : Link) : Link := if f.kind.urgent then l.addUrgent f else l.addOrdinary f

end Link

end Sys2Proof.Machine
end

