-- ==== Sys2Proof/Machine/Ops.lean ====
section
/-! DEFINITION. Events and the operations shared by all units. An event reads an `Env` (configuration, station
state, input lines), which it cannot change, and threads an `Ev`: the units' state with what the event has called
for so far. `Machine/Settle.lean` does what an event calls for, once, after its changes (log entry 7). -/

namespace Sys2Proof.Machine

/-- What an event reads and cannot change. -/
structure Env where
  sys  : Sys
  pins : Pins
deriving DecidableEq, Repr

/-- An event in progress: the units, and what it has called for: watch causes (R118), watch entries to be told
GRANTED (R121), the entry that the event itself set (R115), blocks whose holder changed (R9), signals waiting for re-evaluation (R102), the scan of the pending
route list (R75), the examination of the move queue (R133) and the recomposition of the board (R175). -/
structure Ev where
  u       : Units
  causes  : List (Nat × Cause)
  granted : List Nat
  newest  : Option Nat
  holders : List Nat
  signals : List Nat
  scan    : Bool
  examine : Bool
  compose : Bool
deriving DecidableEq, Repr

/-- An event that has changed nothing and called for nothing. -/
def Ev.start (u : Units) : Ev := ⟨u, [], [], none, [], [], false, false, false⟩

/-- The configuration in use. -/
def Env.cfg (v : Env) : Config := v.sys.cfg
/-- The station is RUNNING (R196). -/
def Env.running (v : Env) : Bool := v.sys.station == .running
/-- The deck block of a station with a turntable (R7, R125). -/
def Env.deck (v : Env) : Option Nat := v.cfg.turntable.map (·.deck)

/-! ## Reading records -/

/-- R5: the record of block `b`. -/
def Units.block (u : Units) (b : Nat) : Block := u.bkt.blocks.getD b .initial
/-- R12: block mirror `i`. -/
def Units.bmirror (u : Units) (i : Nat) : BlockMirror := u.bkt.bmirrors.getD i .initial
/-- R12: signal mirror `i`. -/
def Units.smirror (u : Units) (i : Nat) : SignalMirror := u.bkt.smirrors.getD i .initial
/-- R35: the record of turnout `t`. -/
def Units.turnout (u : Units) (t : Nat) : Turnout := u.tdu.turnouts.getD t .initial
/-- R53: the runtime state of route `n`. -/
def Units.route (u : Units) (n : Nat) : Route := u.ilk.routes.getD n .initial
/-- R78: the claim state of route `n`. -/
def Units.claim (u : Units) (n : Nat) : Claim := u.clu.claims.getD n .initial
/-- R96: the record of signal `n`. -/
def Units.signal (u : Units) (n : Nat) : Signal := u.ase.signals.getD n .initial
/-- R113: watch entry `w`. -/
def Units.watch (u : Units) (w : Nat) : Option Watch := u.watches.getD w none
/-- R159: timetable entry `i`, if used. -/
def Units.entry (u : Units) (i : Nat) : Option Entry := u.entries.getD i none
/-- R169: the record of button `k`. -/
def Units.button (u : Units) (k : Nat) : Button := u.biu.buttons.getD k .initial
/-- R1: the filter of detector `n`. -/
def Units.filter (u : Units) (n : Nat) : DetectorFilter := u.filters.getD n .initial

/-- R13: occupancy as units test it: a mirror that is not FRESH is taken as OCCUPIED. -/
def Units.refOccupied (u : Units) : BlockRef → Bool
  | .here b => (u.block b).occupied
  | .mirror i => (u.bmirror i).freshness != .fresh || (u.bmirror i).occupied

/-! ## Changing one unit of an event -/

/-- Changes the Link Controller alone. -/
def Ev.link (f : Link → Link) (e : Ev) : Ev := { e with u.lnk := f e.u.lnk }
/-- Changes block `b`'s record alone, with no hand-on. -/
def Ev.setBlock (b : Nat) (f : Block → Block) (e : Ev) : Ev :=
  { e with u.bkt.blocks := e.u.bkt.blocks.modify b f }
/-- Changes block mirror `i` alone. -/
def Ev.setBMirror (i : Nat) (f : BlockMirror → BlockMirror) (e : Ev) : Ev :=
  { e with u.bkt.bmirrors := e.u.bkt.bmirrors.modify i f }
/-- Changes signal mirror `i` alone. -/
def Ev.setSMirror (i : Nat) (f : SignalMirror → SignalMirror) (e : Ev) : Ev :=
  { e with u.bkt.smirrors := e.u.bkt.smirrors.modify i f }
/-- Changes turnout `t`'s record alone. -/
def Ev.setTurnout (t : Nat) (f : Turnout → Turnout) (e : Ev) : Ev :=
  { e with u.tdu.turnouts := e.u.tdu.turnouts.modify t f }
/-- Changes the throw queue alone. -/
def Ev.setThrows (f : List (Nat × Pos) → List (Nat × Pos)) (e : Ev) : Ev :=
  { e with u.tdu.queue := f e.u.tdu.queue }
/-- Changes the CDU alone. -/
def Ev.setCdu (c : Cdu) (e : Ev) : Ev := { e with u.tdu.cdu := c }
/-- Changes route `n`'s runtime state alone. -/
def Ev.setRoute (n : Nat) (f : Route → Route) (e : Ev) : Ev :=
  { e with u.ilk.routes := e.u.ilk.routes.modify n f }
/-- Changes the pending route list alone. -/
def Ev.setWaiting (f : List Request → List Request) (e : Ev) : Ev :=
  { e with u.ilk.waiting := f e.u.ilk.waiting }
/-- Changes route `n`'s claim state alone. -/
def Ev.setClaim (n : Nat) (f : Claim → Claim) (e : Ev) : Ev :=
  { e with u.clu.claims := e.u.clu.claims.modify n f }
/-- Changes the claim table alone. -/
def Ev.setTable (f : List ClaimRecord → List ClaimRecord) (e : Ev) : Ev :=
  { e with u.clu.table := f e.u.clu.table }
/-- Changes signal `n`'s record alone. -/
def Ev.setSignal (n : Nat) (f : Signal → Signal) (e : Ev) : Ev :=
  { e with u.ase.signals := e.u.ase.signals.modify n f }
/-- Changes watch entry `w` alone. -/
def Ev.setWatch (w : Nat) (x : Option Watch) (e : Ev) : Ev :=
  { e with u.watches := e.u.watches.set w x }
/-- Changes the Turntable Controller alone. -/
def Ev.ttc (f : Turntable → Turntable) (e : Ev) : Ev := { e with u.ttc := f e.u.ttc }
/-- Changes the Scale Clock alone. -/
def Ev.clock (f : Clock → Clock) (e : Ev) : Ev := { e with u.clock := f e.u.clock }
/-- Changes timetable entry `i`, if used, alone. -/
def Ev.setEntry (i : Nat) (f : Entry → Entry) (e : Ev) : Ev :=
  { e with u.entries := e.u.entries.modify i (Option.map f) }
/-- Changes button `k`'s record alone. -/
def Ev.setButton (k : Nat) (f : Button → Button) (e : Ev) : Ev :=
  { e with u.biu.buttons := e.u.biu.buttons.modify k f }
/-- Changes the deck carry alone. -/
def Ev.setCarry (c : Option Carry) (e : Ev) : Ev := { e with u.trk.carry := c }

/-! ## What an event calls for -/

/-- R75: the event calls for its scan. -/
def Ev.callScan (e : Ev) : Ev := { e with scan := true }
/-- R133: the event may let the head of the move queue start. -/
def Ev.callExamine (e : Ev) : Ev := { e with examine := true }
/-- R175: the event recomposes the board. -/
def Ev.callCompose (e : Ev) : Ev := { e with compose := true }
/-- R118: the event raises a cause on a block. -/
def Ev.raise (b : Nat) (c : Cause) (e : Ev) : Ev := { e with causes := e.causes ++ [(b, c)] }
/-- R102: a signal waits for re-evaluation, at most once. -/
def Ev.reevaluate (n : Nat) (e : Ev) : Ev := { e with signals := setInsert n e.signals }
/-- R102: several signals wait for re-evaluation. -/
def Ev.reevaluateAll (ns : List Nat) (e : Ev) : Ev := ns.foldl (fun e n => e.reevaluate n) e

/-! ## Frames made by units -/

/-- R190: a frame of this station to `dest`. A station with no number sends nothing (R197). -/
def Ev.send (v : Env) (dest : Nat) (k : FrameKind) (payload : List Byte) (e : Ev) : Ev :=
  match v.sys.number with
  | some n => e.link (Link.add ⟨dest, n, k, payload⟩)
  | none => e

/-- Section 1 of 00_scope.md: the destination value of the notice group. -/
def Env.noticeGroup (v : Env) : Nat := 64 + v.cfg.station.noticeGroup

/-- R53: the frame destination of a report destination. -/
def ReportTo.dest (v : Env) : ReportTo → Nat
  | .station n => n
  | .noticeGroup => v.noticeGroup

/-- An ANSWER to a request of kind `k` naming `item`. -/
def Ev.answer (v : Env) (dest : Nat) (k : FrameKind) (item : Nat) (c : Code) (e : Ev) : Ev :=
  e.send v dest .answer (answerPayload k item c)

/-- R73: a ROUTE REPORT with no code. -/
def Ev.report (v : Env) (dest : ReportTo) (n : Nat) (o : RouteOutcome) (e : Ev) : Ev :=
  e.send v (dest.dest v) .routeReport (routeReportPayload n o 0 .none 0)

/-- R73: a ROUTE REPORT REFUSED or FAILED, with its code and item. -/
def Ev.reportCode (v : Env) (dest : ReportTo) (n : Nat) (o : RouteOutcome) (c : Code) (item : Item)
    (owners : Nat) (e : Ev) : Ev :=
  e.send v (dest.dest v) .routeReport (routeReportPayload n o c.value item owners)

/-! ## The fault record and the free values -/

/-- R119, R201: the scale minute, or NONE while the clock is INVALID. -/
def Units.scaleMinute (u : Units) : Option Nat :=
  if u.clock.state = .invalid then none else some u.clock.minute

/-- R201: each write replaces kind and item, takes the minute and raises the count. -/
def Units.writeFault (k : FaultKind) (item : Item) (u : Units) : Units :=
  { u with record := ⟨k, item, u.scaleMinute, saturate u.record.count⟩ }

/-- R201 within an event. -/
def Ev.writeFault (k : FaultKind) (item : Item) (e : Ev) : Ev := { e with u := e.u.writeFault k item }

/-- The next free value has been drawn. -/
def Ev.drawn (e : Ev) : Ev := { e with u.free := e.u.free + 1 }

/-! ## Publishing -/

/-- R10: while RUNNING, a published block is marked. -/
def Ev.publish (v : Env) (b : Nat) (e : Ev) : Ev :=
  if v.running && v.cfg.published b then e.link (Link.markBlock b) else e

/-- R112: while RUNNING, a published signal is marked. -/
def Ev.publishSignal (v : Env) (n : Nat) (e : Ev) : Ev :=
  if v.running && v.cfg.signalPublished n then e.link (Link.markSignal n) else e

/-- R11: every published block and every published signal is marked. -/
def Ev.publishAll (v : Env) (e : Ev) : Ev :=
  let e := (List.range 48).foldl (fun e b => e.publish v b) e
  (List.range 24).foldl (fun e n => e.publishSignal v n) e

/-! ## Block records -/

/-- R120: the holders that cover a block; R118 raises ROUTE on a change from or to one. -/
def Holder.covers : Holder → Bool
  | .route _ | .foreignClaim _ _ | .turntable => true
  | .free | .arrivalHold _ => false

/-- R30, R31: the deck carry at a change of the deck block's holder: filled, if empty, from an OCCUPIED deck when
TURNTABLE is written; emptied when the deck hold is released with the deck OCCUPIED. -/
def Ev.carryAtHolder (x : Block) (new : Holder) (e : Ev) : Ev :=
  if new = .turntable then
    if e.u.trk.carry.isNone && x.occupied then e.setCarry (some ⟨x.tag, x.dir⟩) else e
  else if x.holder = .turntable && new = .free && x.occupied then e.setCarry none
  else e

/-- R9: a change of holder, handed on: the ROUTE cause, the scan when a block becomes FREE, and for the deck block
the examination of the move queue and the deck carry. Writing the holder the block has changes nothing; so a move started
from UNALIGNED, whose deck is held for the turntable already (R135), fills no carry, which is the model's choice (log
entry 39). -/
def Ev.setHolder (v : Env) (b : Nat) (h : Holder) (e : Ev) : Ev :=
  let x := e.u.block b
  if x.holder = h then e else
    let e := e.setBlock b fun x => { x with holder := h }
    let e := { e with holders := setInsert b e.holders }
    let e := if x.holder.covers || h.covers then e.raise b .route else e
    let e := if h = .free then e.callScan else e
    if v.deck = some b then (e.carryAtHolder x h).callExamine else e

/-- R9: each of several blocks takes a holder. -/
def Ev.setHolders (v : Env) (bs : List Nat) (h : Holder) (e : Ev) : Ev :=
  bs.foldl (fun e b => e.setHolder v b h) e

/-- R5, R10, R20: a block's tag and direction are written; a change marks the block, and a change of tag raises
TAG and calls for the scan. -/
def Ev.setTrain (v : Env) (b : Nat) (t : Tag) (d : Dir) (e : Ev) : Ev :=
  let x := e.u.block b
  if x.tag = t ∧ x.dir = d then e else
    let e := (e.setBlock b fun x => { x with tag := t, dir := d }).publish v b
    if x.tag = t then e else (e.raise b .tag).callScan

/-- R6, R10: a block's occupancy is written: the block is marked, OCC is raised, a CLEAR calls for the scan, and a
ROAD block for the examination of the move queue. -/
def Ev.setOccupied (v : Env) (b : Nat) (o : Bool) (e : Ev) : Ev :=
  if (e.u.block b).occupied = o then e else
    let e := ((e.setBlock b fun x => { x with occupied := o }).publish v b).raise b .occ
    let e := if o then e else e.callScan
    if (v.cfg.block b).kind = .road then e.callExamine else e

end Sys2Proof.Machine
end

