-- ==== Sys2Proof/Machine/Tracker.lean ====
section
/-! DEFINITION. The Train Tracker (chapter 2): tags on OCCUPIED and CLEAR events, the deck carry, TAG SET. -/

namespace Sys2Proof.Machine

/-! ## Sources of a tag -/

/-- R22, R23: the known tag that a block or mirror can supply, with its direction: a local block that is OCCUPIED,
a mirror that is FRESH and shows OCCUPIED. -/
def Units.trainAt (u : Units) (r : BlockRef) : Option (Nat × Dir) :=
  let found (ok : Bool) (t : Tag) (d : Dir) : Option (Nat × Dir) :=
    match ok, t with
    | true, .known n => some (n, d)
    | _, _ => none
  match r with
  | .here b => found (u.block b).occupied (u.block b).tag (u.block b).dir
  | .mirror i =>
    let m := u.bmirror i
    found (m.freshness == .fresh && m.occupied) m.tag m.dir

/-- R22: the block before `b` on a path; before the first, the entry signal's approach block. -/
def precedingRef (c : Config) (r : RouteCfg) (b : Nat) : Option BlockRef :=
  match r.path.idxOf? b with
  | none => none
  | some 0 => (c.signal r.entry).bind (·.approach)
  | some (i + 1) => (r.path[i]?).map .here

/-- R22: a route in SET, APPROACH_HELD or IN_USE serves the route source. -/
def RouteState.serves : RouteState → Bool
  | .set | .approachHeld | .inUse => true
  | .idle | .claiming | .throwing => false

/-- R22: the route source for block `b`: the preceding block's tag with the route's direction. -/
def routeSource (v : Env) (u : Units) (b : Nat) : Option (Tag × Dir) :=
  match (u.block b).holder with
  | .route n =>
    match v.cfg.route n with
    | some r =>
      if (u.route n).state.serves then
        ((precedingRef v.cfg r b).bind u.trainAt).map fun t => (.known t.1, r.dir)
      else none
    | none => none
  | _ => none

/-- R23: the neighbour source for block `b`: the one distinct known tag, with the common direction. -/
def neighbourSource (v : Env) (u : Units) (b : Nat) : Option (Tag × Dir) :=
  match (v.cfg.block b).neighbours.filterMap u.trainAt with
  | [] => none
  | (t, d) :: rest =>
    if rest.all fun x => x.1 == t then
      some (.known t, if rest.all fun x => x.2 == d then d else .unknown)
    else none

/-- R21, R31: the tracker's action on an OCCUPIED event: deck carry, route, neighbour, else stray (R24). -/
def Ev.trackOccupied (v : Env) (b : Nat) (e : Ev) : Ev :=
  match v.deck == some b, e.u.trk.carry with
  | true, some c => (e.setTrain v b c.tag c.dir).setCarry none
  | _, _ =>
    match (routeSource v e.u b).or (neighbourSource v e.u b) with
    | some (t, d) => e.setTrain v b t d
    | none => (e.setTrain v b .unknown .unknown).link (Link.addStray b)

/-- R25, R33: a known tag that has left block `b` is looked for among its neighbours; it is lost when none holds
it and every mirror neighbour is FRESH. -/
def Ev.searchTag (v : Env) (b : Nat) (t : Nat) (e : Ev) : Ev :=
  let ns := (v.cfg.block b).neighbours
  if ns.any fun r => (e.u.trainAt r).map Prod.fst == some t then e
  else if ns.any fun r => match r with
      | .mirror i => (e.u.bmirror i).freshness != .fresh
      | .here _ => false then e
  else e.link (Link.addLostTag b)

/-- R25, R30: the tracker's action on a CLEAR event: tag and direction are dropped, and a known tag is looked for
unless the deck carry keeps the deck's train. -/
def Ev.trackClear (v : Env) (b : Nat) (e : Ev) : Ev :=
  let t := (e.u.block b).tag
  let e := e.setTrain v b .none .unknown
  if v.deck == some b && e.u.trk.carry.isSome then e
  else match t with
    | .known n => e.searchTag v b n
    | _ => e

/-! ## The deck carry -/

/-- R33: the four conditions under which the carry's lapse timer runs. -/
def carryLapseRuns (v : Env) (u : Units) : Bool :=
  match v.deck with
  | some d => u.trk.carry.isSome && !(u.block d).occupied && (u.block d).holder != .turntable && u.ttc.deckPower
  | none => false

/-- R33: the lapse timer starts from zero when the four conditions come to hold, and stops when one fails. -/
def Ev.carryTimer (v : Env) (e : Ev) : Ev :=
  if carryLapseRuns v e.u then
    if e.u.trk.lapse.isNone then { e with u.trk.lapse := some 0 } else e
  else { e with u.trk.lapse := none }

/-- R33: the carry lapses: it is emptied, and a known tag is looked for from the deck block. -/
def Ev.carryLapse (v : Env) (e : Ev) : Ev :=
  match e.u.trk.lapse, e.u.trk.carry, v.deck with
  | some _, some c, some d =>
    let e := e.setCarry none
    match c.tag with
    | .known n => e.searchTag v d n
    | _ => e
  | _, _, _ => e

/-- R32: UP becomes DOWN and DOWN becomes UP. -/
def reverseDir : Dir → Dir
  | .up => .down
  | .down => .up
  | .unknown => .unknown

/-- R32: at the completion of a half turn, the directions of an OCCUPIED deck and of the carry are reversed. -/
def Ev.reverseDeck (v : Env) (d : Nat) (e : Ev) : Ev :=
  let x := e.u.block d
  let e := if x.occupied then e.setTrain v d x.tag (reverseDir x.dir) else e
  match e.u.trk.carry with
  | some c => e.setCarry (some { c with dir := reverseDir c.dir })
  | none => e

/-! ## TAG SET -/

/-- R28: the first failing check of a TAG SET, if any. -/
def tagSetCheck (v : Env) (u : Units) (b f : Nat) : Option Code :=
  if !v.running then some .notRunning
  else if 48 ≤ b ∨ (v.cfg.block b).kind = .absent then some .badItem
  else if !(u.block b).occupied then some .notOccupied
  else if f = 0 ∨ 999 < f then some .badTag
  else none

/-- R28, R29: a TAG SET taken: checked, written to the block (and to a non-empty deck carry), answered. -/
def Ev.tagSet (v : Env) (f : Frame) (e : Ev) : Ev :=
  let b := payloadAt f.payload 0
  let t := tagField (f.payload.getD 1 0) (f.payload.getD 2 0)
  match tagSetCheck v e.u b t with
  | some c => e.answer v f.src .tagSet b c
  | none =>
    let e := e.setTrain v b (.known t) (e.u.block b).dir
    let e := match v.deck == some b, e.u.trk.carry with
      | true, some c => e.setCarry (some { c with tag := .known t })
      | _, _ => e
    e.answer v f.src .tagSet b .done

end Sys2Proof.Machine
end

