-- ==== Sys2Proof/Machine/Requests.lean ====
section
/-! DEFINITION. The pending route list as a list (R74, R77), and the state of the buttons as other units change it
(R171 to R173): what the Timetable Unit and the Turntable Controller call. The scan itself is in
`Machine/Routes.lean`. -/

namespace Sys2Proof.Machine

/-! ## Adding to and withdrawing from the pending route list -/

/-- What the source of an add is told (R74). -/
inductive Added where
  | joined
  | busy
  | full
deriving DecidableEq, Repr

/-- R74: a source, told from others by its entry alone, has a request in the list or a route attached to it. -/
def Units.hasSource (u : Units) (entry : Nat) : Bool :=
  (u.ilk.waiting.any fun r => r.source.entry == entry) ||
    u.ilk.routes.any fun r => match r.attached with
      | some a => a.source.entry == entry
      | none => false

/-- R74: what an add comes to. -/
def Units.judgeAdd (u : Units) (r : Request) : Added :=
  if u.hasSource r.source.entry then .busy
  else if 8 ≤ u.ilk.waiting.length then .full
  else .joined

/-- R74, R75: an add that is taken joins the tail of the list and calls for the scan. -/
def Ev.addRequest (r : Request) (e : Ev) : Ev :=
  match e.u.judgeAdd r with
  | .joined => (e.setWaiting fun l => l ++ [r]).callScan
  | .busy | .full => e

/-- R77: the source of entry `i` withdraws: its request leaves the list, and it is detached from its route. -/
def Ev.withdraw (i : Nat) (e : Ev) : Ev :=
  let e := e.setWaiting fun l => l.filter fun r => r.source.entry != i
  { e with u.ilk.routes := e.u.ilk.routes.map fun r => match r.attached with
      | some a => if a.source.entry = i then { r with attached := none } else r
      | none => r }

/-! ## The bar and the end of BUSY -/

/-- R108: the stop state is on. -/
def StopState.on (x : StopState) : Bool := x.plunger || x.layout || !x.zones.isEmpty

/-- R171: DEPART and TURNTABLE_SHOW buttons are barred. -/
def Units.barred (u : Units) : Bool := u.ase.stop.on || u.clock.state != .running

/-- R171: the buttons that can be barred. -/
def barrable : ButtonKind → Bool
  | .depart | .turntableShow => true
  | .stopPlunger | .unused => false

/-- R171: a button at the end of GUARD, or of BUSY with a guard time of 0. -/
def Button.afterGuard (barred : Bool) (x : Button) : Button :=
  { x with state := if barred then .disabled else .armed, guard := none, flash := none }

/-- R171, R172: a button at the end of BUSY: DISABLED if barred, and otherwise GUARD, or past it for a guard time
of 0. -/
def Button.afterBusy (barred : Bool) (guard : Nat) (x : Button) : Button :=
  if barred || guard == 0 then x.afterGuard barred
  else { x with state := .guard, guard := some 0, flash := none }

/-- R172, R173: button `k`, if BUSY, meets the end of its BUSY. -/
def Ev.endBusy (v : Env) (k : Nat) (e : Ev) : Ev :=
  if (e.u.button k).state = .busy then
    e.setButton k (Button.afterBusy e.u.barred (v.cfg.button k).guard)
  else e

/-- R172: the outcome of entry `i` ends BUSY for the DEPART buttons that serve it. -/
def Ev.endBusyFor (v : Env) (i : Nat) (e : Ev) : Ev :=
  (List.range 16).foldl (fun e k =>
    let c := v.cfg.button k
    if c.kind = .depart ∧ c.entry = i then e.endBusy v k else e) e

/-- R171: a button's state when the bar is tested. -/
def Button.testBar (barred : Bool) (x : Button) : Button :=
  match x.state, barred with
  | .armed, true => { x with state := .disabled }
  | .guard, true => { x with state := .disabled, guard := none }
  | .disabled, false => { x with state := .armed }
  | _, _ => x

/-- R171: the bar is tested for every DEPART and TURNTABLE_SHOW button of a RUNNING station. -/
def Ev.testBars (v : Env) (e : Ev) : Ev :=
  if v.running then
    (List.range 16).foldl (fun e k =>
      if barrable (v.cfg.button k).kind then e.setButton k (Button.testBar e.u.barred) else e) e
  else e

end Sys2Proof.Machine
end

