-- ==== Sys2Proof/Machine/Timetable.lean ====
section
/-! DEFINITION. The Timetable Unit (sections 9.3 to 9.8): statuses, the rollover, skipped minutes, departures,
demands, loads and cancels. -/

namespace Sys2Proof

/-! ## Arithmetic (R161) -/

/-- The departure as the minute it is compared by: of the day, or of the hour for ANY. -/
def EntryCfg.departure (c : EntryCfg) : Nat := match c.hour with
  | some h => h * 60 + c.minute
  | none => c.minute

/-- The circle on which an entry's times are compared. -/
def EntryCfg.circle (c : EntryCfg) : Nat := match c.hour with
  | some _ => 1440
  | none => 60

/-- The time `offset` minutes after the departure matches a rollover to minute `m`. -/
def EntryCfg.matchesAfter (c : EntryCfg) (offset m : Nat) : Bool :=
  (c.departure + offset) % c.circle == m % c.circle

/-- The trigger matches. -/
def EntryCfg.triggers (c : EntryCfg) (m : Nat) : Bool := c.matchesAfter (c.circle - c.lead) m

/-- The delay of an entry at minute `m`. -/
def EntryCfg.delay (c : EntryCfg) (m : Nat) : Nat :=
  (m % c.circle + c.circle - c.departure % c.circle) % c.circle

/-- The minutes until departure at minute `m`. -/
def EntryCfg.until (c : EntryCfg) (m : Nat) : Nat :=
  (c.departure % c.circle + c.circle - m % c.circle) % c.circle

end Sys2Proof

namespace Sys2Proof.Machine

/-! ## Statuses -/

/-- R160: the status of entry `i`, if used. -/
def Units.status (u : Units) (i : Nat) : Option EntryStatus := (u.entry i).map Entry.status

/-- R172: the statuses that are the outcome of an occurrence. -/
def EntryStatus.outcome : EntryStatus → Bool
  | .departed | .cancelled | .missed => true
  | .waiting | .due | .ready => false

/-- R160, R164, R165: entry `i` takes a status. A change is handed to the board and, for an outcome, to the
buttons; WAITING has Passed no; an ON_DEMAND entry goes on from an outcome to WAITING in the same event. -/
def Ev.setStatus (v : Env) (i : Nat) (st : EntryStatus) (e : Ev) : Ev :=
  match e.u.entry i with
  | none => e
  | some x =>
    let e := if x.status = st then e else e.callCompose
    let e := if st.outcome && x.status != st then e.endBusyFor v i else e
    let st := if st.outcome && x.cfg.kind == .onDemand then .waiting else st
    e.setEntry i fun x => { x with status := st, passed := if st = .waiting then false else x.passed }

/-- R162 step 2: the passed mark. -/
def Ev.setPassed (i : Nat) (e : Ev) : Ev := e.setEntry i fun x => { x with passed := true }

/-- R74: the request of an entry. -/
def Entry.request (x : Entry) (i : Nat) (button : Option Nat) : Request :=
  ⟨x.cfg.route, ⟨i, button⟩, x.cfg.tag⟩

/-- R163, R77: the source of entry `i` is told SET. -/
def Ev.tellSet (v : Env) (i : Nat) (e : Ev) : Ev := match e.u.entry i with
  | some x => if x.status = .due then e.setStatus v i .ready else e
  | none => e

/-- R163, R77: the source of entry `i` is told FULL at a rejoin, or its route was cancelled before SET. -/
def Ev.tellLost (v : Env) (i : Nat) (e : Ev) : Ev := match e.u.entry i with
  | some x => if x.status = .due then e.setStatus v i .missed else e
  | none => e

/-! ## The rollover (R162) -/

/-- Step 1 at a rollover. -/
def Ev.triggerStep (v : Env) (m i : Nat) (e : Ev) : Ev := match e.u.entry i with
  | none => e
  | some x =>
    if x.status ≠ .waiting then e else
    match x.cfg.kind with
    | .timed =>
      if x.cfg.triggers m then
        let r := x.request i none
        match e.u.judgeAdd r with
        | .full => e.setStatus v i .missed
        | .joined | .busy => (e.setStatus v i .due).addRequest r
      else e
    | .show => if x.cfg.matchesAfter 0 m then e.setStatus v i .departed else e
    | .onDemand => e

/-- Step 2: the passed mark of a DUE, READY or CANCELLED entry. -/
def Ev.passedStep (m i : Nat) (e : Ev) : Ev := match e.u.entry i with
  | some x =>
    if (x.status = .due ∨ x.status = .ready ∨ x.status = .cancelled) ∧ x.cfg.matchesAfter 1 m = true then
      e.setPassed i
    else e
  | none => e

/-- Step 3: the deadline of a DUE entry. -/
def Ev.deadlineStep (v : Env) (m i : Nat) (e : Ev) : Ev := match e.u.entry i with
  | some x =>
    if x.status = .due ∧ x.cfg.matchesAfter 10 m = true then (e.withdraw i).setStatus v i .missed else e
  | none => e

/-- Step 4: the re-arm. -/
def Ev.rearmStep (v : Env) (m i : Nat) (e : Ev) : Ev := match e.u.entry i with
  | some x =>
    if (x.status = .departed ∨ x.status = .missed ∨ (x.status = .cancelled ∧ x.passed = true)) ∧
        x.cfg.matchesAfter 30 m = true then e.setStatus v i .waiting
    else e
  | none => e

/-- R162: one entry at a rollover to minute `m`. -/
def Ev.rolloverEntry (v : Env) (m i : Nat) (e : Ev) : Ev :=
  (((e.triggerStep v m i).passedStep m i).deadlineStep v m i).rearmStep v m i

/-- R162: the rollover processing, E0 first. -/
def Ev.timetableRollover (v : Env) (m : Nat) (e : Ev) : Ev :=
  (List.range 48).foldl (fun e i => e.rolloverEntry v m i) e

/-- R162: steps 1 and 2 at a skipped minute. -/
def Ev.skippedStep (v : Env) (m i : Nat) (e : Ev) : Ev := match e.u.entry i with
  | none => e
  | some x =>
    let c := x.cfg
    let e := match x.status, c.kind with
      | .waiting, .timed => if c.triggers m then e.setStatus v i .missed else e
      | .waiting, .show => if c.matchesAfter 0 m then e.setStatus v i .missed else e
      | _, _ => e
    match e.u.status i, c.matchesAfter 0 m with
    | some .due, true => (e.withdraw i).setStatus v i .missed
    | some .ready, true => e.setStatus v i .missed
    | _, _ => e

/-- R162: one skipped minute of a jump, E0 first. -/
def Ev.skipMinute (v : Env) (m : Nat) (e : Ev) : Ev :=
  (List.range 48).foldl (fun e i =>
    (((e.skippedStep v m i).passedStep m i).deadlineStep v m i).rearmStep v m i) e

/-! ## Departure (R163) -/

/-- R163: an entry's required tag is met by the tag that its departure block dropped. -/
def tagMeets (required : Option Nat) (t : Tag) : Bool := match required with
  | none => true
  | some n => t == .known n

/-- R163: a CLEAR event of block `b`, which held `dropped`, makes READY entries DEPARTED. -/
def Ev.departures (v : Env) (b : Nat) (dropped : Tag) (e : Ev) : Ev :=
  (List.range 48).foldl (fun e i => match e.u.entry i with
    | some x =>
      if x.status = .ready ∧ x.depBlock = some b ∧ tagMeets x.cfg.tag dropped = true then
        e.setStatus v i .departed
      else e
    | none => e) e

/-! ## Demands (R165) -/

/-- What a button is told of its demand. -/
inductive Demanded where
  | taken
  | full
  | refused
deriving DecidableEq, Repr

/-- R165: what a demand for entry `i` by button `k` comes to. A demand told FULL leaves the departure as it was
(log entry 23). -/
def Units.judgeDemand (u : Units) (i k : Nat) : Demanded := match u.entry i with
  | some x =>
    if x.cfg.kind = .onDemand ∧ x.status = .waiting ∧ u.clock.state = .running then
      match u.judgeAdd (x.request i (some k)) with
      | .joined => .taken
      | .full => .full
      | .busy => .refused
    else .refused
  | none => .refused

/-- R165: a demand that is taken: the departure, DUE, and the request. -/
def Ev.demand (v : Env) (i k : Nat) (e : Ev) : Ev := match e.u.entry i with
  | some x =>
    let d := (e.u.clock.minute + max x.cfg.lead 1) % 1440
    let e := e.setEntry i fun x => { x with cfg.hour := some (d / 60), cfg.minute := d % 60 }
    (e.setStatus v i .due).addRequest (x.request i (some k))
  | none => e

/-! ## Loading and cancelling -/

/-- R159: the departure block of a route: its entry signal's approach block, when it is local. -/
def departureBlock (c : Config) (n : Nat) : Option Nat :=
  match ((c.route n).bind fun r => c.signal r.entry).bind (·.approach) with
  | some (.here b) => some b
  | _ => none

/-- R166: the route of a load is configured and leads from a local block of kind PLATFORM. -/
def departable (c : Config) (n : Nat) : Bool := match departureBlock c n with
  | some b => (c.block b).kind == .platform
  | none => false

/-- R166: the first failing check of a TIMETABLE LOAD, if any. -/
def loadCheck (v : Env) (x : LoadFields) : Option Code :=
  if !v.running then some .notRunning
  else match x.kind with
    | none => some .badItem
    | some k =>
      if 48 ≤ x.entry ∨ ¬ (x.hour < 24 ∨ x.hour = 255) ∨ 60 ≤ x.minute then some .badItem
      else if k ≠ .show ∧ departable v.cfg x.route = false then some .badItem
      else if 999 < x.tag then some .badTag
      else none

/-- R166: the fields of a load, the lead clamped. The route is not read for SHOW (section 11.7). -/
def LoadFields.cfg (x : LoadFields) : EntryCfg where
  kind     := x.kind.getD .show
  hour     := if x.hour = 255 then none else some x.hour
  minute   := x.minute
  lead     := min x.lead 15
  route    := if x.kind.getD .show = .show then 0 else x.route
  tag      := if x.tag = 0 then none else some x.tag
  dest     := x.dest
  platform := x.platform

/-- R159: an entry with status WAITING and Passed no, its departure block derived from the route. -/
def Entry.fresh (c : Config) (x : EntryCfg) : Entry where
  cfg      := x
  depBlock := if x.kind = .show then none else departureBlock c x.route
  status   := .waiting
  passed   := false

/-- R166: a TIMETABLE LOAD taken. -/
def Ev.timetableLoad (v : Env) (f : Frame) (e : Ev) : Ev :=
  let x := LoadFields.read f.payload
  match loadCheck v x with
  | some c => e.callCompose.answer v f.src .timetableLoad x.entry c
  | none =>
    let i := x.entry
    let st := e.u.status i
    let e := if st = some .due then e.withdraw i else e
    let e := { e with u.entries := e.u.entries.set i (some (.fresh v.cfg x.cfg)) }
    let e := if st = some .due ∨ st = some .ready then e.endBusyFor v i else e
    e.callCompose.answer v f.src .timetableLoad i .done

/-- R167: what a cancel does to entry `i`. -/
def Ev.cancelEntry (v : Env) (i : Nat) (e : Ev) : Ev := match e.u.status i with
  | some .waiting | some .ready => e.setStatus v i .cancelled
  | some .due => (e.withdraw i).setStatus v i .cancelled
  | _ => e

/-- R167: a TIMETABLE CANCEL taken. -/
def Ev.timetableCancel (v : Env) (f : Frame) (e : Ev) : Ev :=
  let i := payloadAt f.payload 0
  if !v.running then e.answer v f.src .timetableCancel i .notRunning
  else if 48 ≤ i ∨ e.u.entry i = none then e.answer v f.src .timetableCancel i .badItem
  else (e.cancelEntry v i).answer v f.src .timetableCancel i .done

/-- R168: a new setting: every request withdrawn, every used entry WAITING with Passed no, and the entries that
were DUE or READY handed to the buttons as CANCELLED. -/
def Ev.newEpoch (v : Env) (e : Ev) : Ev :=
  (List.range 48).foldl (fun e i => match e.u.entry i with
    | some x =>
      let e := e.withdraw i
      let e := e.setEntry i fun x => { x with status := .waiting, passed := false }
      let e := if x.status = .due ∨ x.status = .ready then e.endBusyFor v i else e
      if x.status = .waiting then e else e.callCompose
    | none => e) e

end Sys2Proof.Machine
end

