-- ==== Sys2Proof/Machine/Aspects.lean ====
section
/-! DEFINITION. The Aspect Evaluator (chapter 6): ranks, re-evaluation, approach control, the dark flag, and the
station stop state as a set. -/

namespace Sys2Proof.Machine

/-! ## Proof and occupancy as the evaluator reads them -/

/-- R36: the position that a turnout state names. -/
def TurnoutState.pos : TurnoutState → Option Pos
  | .normal => some .normal
  | .reverse => some .reverse
  | .unknown | .queued | .moving | .failed => none

/-- R36: the state of being at rest in a position. -/
def TurnoutState.at : Pos → TurnoutState
  | .normal => .normal
  | .reverse => .reverse

/-- R36: turnout `t` is proven in position `p`. -/
def Units.provenIn (u : Units) (t : Nat) (p : Pos) : Bool := (u.turnout t).state.pos == some p

/-- R61: every path and flank turnout of a route is proven in its required position. -/
def Units.allProven (u : Units) (r : RouteCfg) : Bool :=
  (r.turnouts ++ r.flank).all fun x => u.provenIn x.1 x.2

/-- R95, R13: the approach block of signal `n` is OCCUPIED; a signal without one has none. -/
def Units.approachOccupied (u : Units) (c : Config) (n : Nat) : Bool :=
  match (c.signal n).bind (·.approach) with
  | some r => u.refOccupied r
  | none => false

/-! ## The rank (R98 to R100) -/

/-- R99: the effective rank of the next signal, the rows from the top. -/
def Units.effectiveRank (u : Units) : Option SignalRef → Nat
  | none => 0
  | some (.here n) =>
    let g := u.signal n
    if g.dark then 0 else if g.top then 3 else g.rank
  | some (.mirror i) =>
    let m := u.smirror i
    if m.freshness != .fresh then 0 else if m.dark then 0 else if m.top then 3 else m.rank

/-- R100: the class cap. -/
def classCap : Speed → Nat
  | .full => 3
  | .medium | .slow => 1

/-- R98: the six conditions for a rank above 0 on route `k`. -/
def Units.mayClear (u : Units) (k : Nat) (r : RouteCfg) (g : Signal) : Bool :=
  (u.route k).state == .set
    && r.path.all (fun b => !(u.block b).occupied)
    && (!(u.route k).overlapHeld || r.overlap.all fun b => !(u.block b).occupied)
    && u.allProven r
    && (r.foreign.isNone || (u.claim k).status == .granted)
    && !u.ase.stop.on
    && (r.speed != .slow || g.control == .released)

/-- R97, R98: the computed rank of signal `n`. -/
def computedRank (v : Env) (u : Units) (n : Nat) : Nat :=
  let g := u.signal n
  match g.route, v.cfg.signal n with
  | some k, some c =>
    match v.cfg.route k with
    | some r =>
      if u.mayClear k r g then min (min c.topRank (u.effectiveRank r.exit + 1)) (classCap r.speed) else 0
    | none => 0
  | _, _ => 0

/-- R105: the green lamp is lit, which sets the top flag. -/
def greenLit (h : Head) (rank : Nat) : Bool := match h with
  | .two => decide (1 ≤ rank)
  | .three => decide (2 ≤ rank)
  | .four => decide (3 ≤ rank)

/-- R106: the proving filter counts while the red lamp is driven and the input disagrees with the dark flag's
sense. -/
def provingStart (rank : Nat) (dark active : Bool) : Timer :=
  if rank = 0 ∧ dark = active then some 0 else none

/-! ## Re-evaluation (R101, R102) -/

/-- R102: the signals whose evaluated route ends at `s` wait for re-evaluation. -/
def Ev.reachBehind (v : Env) (s : SignalRef) (e : Ev) : Ev :=
  (List.range 24).foldl (fun e n =>
    match (e.u.signal n).route.bind v.cfg.route with
    | some r => if r.exit = some s then e.reevaluate n else e
    | none => e) e

/-- R118: a signal's watch block: the first path block of the routes that it enters. -/
def watchBlock (c : Config) (n : Nat) : Option Nat :=
  c.routes.findSome? fun r => match r with
    | some r => if r.entry = n then r.path.head? else none
    | none => none

/-- R118: the ASPECT cause of signal `n`. -/
def Ev.raiseAspect (v : Env) (n : Nat) (e : Ev) : Ev := match watchBlock v.cfg n with
  | some b => e.raise b .aspect
  | none => e

/-- R107, R112: a change of signal `n`'s rank or dark flag is published, handed to the Watch Unit, and reaches the
signals behind. -/
def Ev.signalChanged (v : Env) (n : Nat) (e : Ev) : Ev :=
  ((e.publishSignal v n).raiseAspect v n).reachBehind v (.here n)

/-- R98, R101: signal `n` is evaluated: the shown rank becomes the computed one, with top flag and filter. -/
def Ev.evaluate (v : Env) (n : Nat) (e : Ev) : Ev := match v.cfg.signal n with
  | none => e
  | some c =>
    let rank := computedRank v e.u n
    if rank = (e.u.signal n).rank then e else
      let e := e.setSignal n fun g => { g with
        rank := rank, top := greenLit c.head rank
        proving := provingStart rank g.dark (v.pins.redLamps.getD n false) }
      e.signalChanged v n

/-- R102: the signals that wait are taken lowest number first, until none waits. The count bounds the chain; at the
bound each signal that still waits is evaluated a last time (log entry 26). -/
def Ev.evaluateAll (v : Env) : Nat → Ev → Ev
  | 0, e => e.signals.foldl (fun e n => e.evaluate v n) e
  | fuel + 1, e => match e.signals with
    | [] => e
    | n :: rest => Ev.evaluateAll v fuel (Ev.evaluate v n { e with signals := rest })

/-! ## Approach control (R103) -/

/-- R103: the control that follows from the route, the approach block and the present control. -/
def nextControl (slowAndSet occupied : Bool) (x : Control) : Control :=
  match slowAndSet, x, occupied with
  | false, _, _ => .stopped
  | true, .stopped, true => .running 0
  | true, .running _, false => .stopped
  | true, x, _ => x

/-- R103: approach control of signal `n` acts on the event. -/
def Ev.approachControl (v : Env) (n : Nat) (e : Ev) : Ev :=
  let g := e.u.signal n
  let slowAndSet := match g.route with
    | some k => (v.cfg.route k).any (fun r => r.speed == .slow) && (e.u.route k).state == .set
    | none => false
  let x := nextControl slowAndSet (e.u.approachOccupied v.cfg n) g.control
  if x = g.control then e else
    let e := e.setSignal n fun g => { g with control := x }
    if g.control = .released then e.reevaluate n else e

/-- R103, R13: approach control acts on a change of the approach block `r`. -/
def Ev.approachChanged (v : Env) (r : BlockRef) (e : Ev) : Ev :=
  (List.range 24).foldl (fun e n =>
    if (v.cfg.signal n).bind (·.approach) = some r then e.approachControl v n else e) e

/-- R103: the approach control timer of signal `n` expires. -/
def Ev.releaseControl (n : Nat) (e : Ev) : Ev := match (e.u.signal n).control with
  | .running _ => (e.setSignal n fun g => { g with control := .released }).reevaluate n
  | .stopped | .released => e

/-! ## The Interlocking Engine's changes (R54, R97) -/

/-- R97: signal `n` gains or loses its evaluated route; approach control stops. -/
def Ev.setEvaluated (n : Nat) (k : Option Nat) (e : Ev) : Ev :=
  (e.setSignal n fun g => { g with route := k, control := .stopped }).reevaluate n

/-- R97: route `k` has returned to IDLE: signal `n` loses its evaluated route if it is `k`; another route, accepted
after it for the same signal, stays evaluated (log entry 49). -/
def Ev.endEvaluated (n k : Nat) (e : Ev) : Ev := if (e.u.signal n).route = some k then e.setEvaluated n none else e

/-- R54: a change of the state of the route of signal `n` is handed to the evaluator. -/
def Ev.routeStateChanged (v : Env) (n : Nat) (e : Ev) : Ev := (e.approachControl v n).reevaluate n

/-- R6, R101: the occupancy of block `b` has changed: the signals whose evaluated route has it in its path or as
its overlap wait. -/
def Ev.occupancyReaches (v : Env) (b : Nat) (e : Ev) : Ev :=
  (List.range 24).foldl (fun e n =>
    match (e.u.signal n).route.bind v.cfg.route with
    | some r => if b ∈ r.path ∨ r.overlap = some b then e.reevaluate n else e
    | none => e) e

/-- R50, R101: the state of turnout `t` has changed: the signals whose evaluated route needs it wait. -/
def Ev.turnoutReaches (v : Env) (t : Nat) (e : Ev) : Ev :=
  (List.range 24).foldl (fun e n =>
    match (e.u.signal n).route.bind v.cfg.route with
    | some r => if (r.turnouts ++ r.flank).any (fun x => x.1 == t) then e.reevaluate n else e
    | none => e) e

/-- R78, R101: the claim of route `k` has gone into or out of GRANTED. -/
def Ev.claimReaches (v : Env) (k : Nat) (e : Ev) : Ev := match v.cfg.route k with
  | some r => e.reevaluate r.entry
  | none => e

/-! ## The dark flag (R106, R107) -/

/-- R106: the proving input of signal `n` changes. -/
def Ev.lampInput (v : Env) (n : Nat) (active : Bool) (e : Ev) : Ev :=
  if v.running && (v.cfg.signal n).isSome then
    e.setSignal n fun g => { g with proving :=
      if g.rank = 0 ∧ g.dark = active then g.proving.or (some 0) else none }
  else e

/-- R106, R107: the proving filter of signal `n` reaches 250 ms: the dark flag changes; set, it is a fault. -/
def Ev.lampProven (v : Env) (n : Nat) (e : Ev) : Ev :=
  if (e.u.signal n).proving.isSome then
    let dark := !(e.u.signal n).dark
    let e := e.setSignal n fun g => { g with dark := dark, proving := none }
    let e := e.signalChanged v n
    if dark then (e.link (Link.addDarkSignal n)).writeFault .lampDark (.signal n) else e
  else e

/-! ## The stop state (R108 to R110) -/

/-- R109: the stop state with the source that a ZONE STOP to `dest` adds. -/
def StopState.stopped (dest : Nat) (x : StopState) : StopState :=
  if dest = 63 then { x with layout := true }
  else if 64 ≤ dest then { x with zones := setInsert (dest - 64) x.zones }
  else x

/-- R110: the stop state without the sources that a ZONE RESUME to `dest` removes. -/
def StopState.resumed (dest : Nat) (x : StopState) : StopState :=
  if dest = 63 then { x with layout := false, zones := [] }
  else if 64 ≤ dest then { x with zones := x.zones.filter fun g => g != dest - 64 }
  else { x with plunger := false }

/-- R111: every configured signal is re-evaluated. -/
def Ev.reevaluateSignals (v : Env) (e : Ev) : Ev :=
  (List.range 24).foldl (fun e n => if (v.cfg.signal n).isSome then e.reevaluate n else e) e

end Sys2Proof.Machine
end

