-- ==== Sys2Proof/Machine/Drives.lean ====
section
/-! DEFINITION. The Turnout Drive Unit below the Interlocking Engine (chapter 3): what the feedback proves, holds,
the throw queue and its arbiter, withdrawal, and the answers to a waiting requester. -/

namespace Sys2Proof.Machine

/-! ## Feedback (R36) -/

/-- R36: what a reading of (normal contact, reverse contact) proves; `last` is the proven position field, which
alone counts for NONE. -/
def proves (k : Feedback) (normal reverse : Bool) (last : Option Pos) : Option Pos :=
  match k with
  | .twoContact => match normal, reverse with
    | true, false => some .normal
    | false, true => some .reverse
    | _, _ => none
  | .reverseContact => some (if reverse then .reverse else .normal)
  | .none => last

/-- R46: the reading is the contradiction of both contacts. -/
def contradicts (k : Feedback) (normal reverse : Bool) : Bool := k == .twoContact && normal && reverse

/-- R36: what the feedback of turnout `t` proves now. -/
def Units.proven (u : Units) (k : Feedback) (t : Nat) : Option Pos :=
  let x := u.turnout t
  proves k x.normalIn.level x.reverseIn.level x.proven

/-- The state of a turnout at rest with a position proven, or none. -/
def restingState : Option Pos → TurnoutState
  | some p => .at p
  | none => .unknown

/-! ## Holds (R38) -/

/-- R38: a turnout is held. -/
def Turnout.held (x : Turnout) : Bool := x.pathHolder.isSome || decide (0 < x.flankCount)

/-- R38: a turnout's holds change; one that goes from held to unheld calls for the scan. -/
def Ev.setHolds (t : Nat) (f : Turnout → Turnout) (e : Ev) : Ev :=
  let was := (e.u.turnout t).held
  let e := e.setTurnout t f
  if was && !(e.u.turnout t).held then e.callScan else e

/-- R59: route `n` takes the path hold. -/
def Ev.holdPath (n t : Nat) (e : Ev) : Ev := e.setHolds t fun x => { x with pathHolder := some n }
/-- R59: the flank holder count rises by one. -/
def Ev.holdFlank (t : Nat) (e : Ev) : Ev := e.setHolds t fun x => { x with flankCount := x.flankCount + 1 }
/-- R62, R67: route `n` loses its path hold, if it has it. -/
def Ev.dropPath (n t : Nat) (e : Ev) : Ev :=
  e.setHolds t fun x => { x with pathHolder := if x.pathHolder = some n then none else x.pathHolder }
/-- R62, R66: the flank holder count falls by one. -/
def Ev.dropFlank (t : Nat) (e : Ev) : Ev := e.setHolds t fun x => { x with flankCount := x.flankCount - 1 }

/-! ## Answers to a requester (R49) -/

/-- R49: the waiting requester, if any, is answered, and waits no more. -/
def Ev.settleRequester (v : Env) (t : Nat) (c : Code) (e : Ev) : Ev := match (e.u.turnout t).requester with
  | some s => (e.setTurnout t fun x => { x with requester := none }).answer v s .turnoutRequest t c
  | none => e

/-! ## The arbiter (R41, R42) -/

/-- R42: the number of motor turnouts that are MOVING. -/
def Units.motorsMoving (v : Env) (u : Units) : Nat :=
  (List.range 32).countP fun t =>
    (v.cfg.turnout t).any (fun c => c.drive == .motor) && (u.turnout t).state == .moving

/-- R42: a queued entry's resource is free. -/
def Units.resourceFree (v : Env) (u : Units) : DriveKind → Bool
  | .solenoid => u.tdu.cdu == .ready
  | .motor => decide (u.motorsMoving v < 4)

/-- R42: an entry is eligible. -/
def Units.eligible (v : Env) (u : Units) (t : Nat) : Bool := match v.cfg.turnout t with
  | some c => !(u.block c.owning).occupied && u.resourceFree v c.drive
  | none => false

/-- R42: the turnout becomes MOVING toward its commanded position. -/
def Turnout.startDrive (stage : DriveStage) (x : Turnout) : Turnout :=
  { x with state := .moving, drive := some ⟨x.commanded, stage⟩ }

/-- R42: an entry is started: it leaves the queue and its drive begins (R43, R44). -/
def Ev.startEntry (v : Env) (t : Nat) (e : Ev) : Ev :=
  let e := e.setThrows fun q => q.filter fun x => x.1 != t
  match (v.cfg.turnout t).map TurnoutCfg.drive with
  | some .solenoid => (e.setCdu (.pulsing t 0)).setTurnout t (Turnout.startDrive .pulse)
  | some .motor => e.setTurnout t (Turnout.startDrive (.motor 0))
  | none => e

/-- R42: one run of the arbiter, from the oldest entry to the newest. -/
def Ev.arbiter (v : Env) (e : Ev) : Ev :=
  e.u.tdu.queue.foldl (fun e x => if e.u.eligible v x.1 then e.startEntry v x.1 else e) e

/-- R42: the owning block of a queued turnout has become CLEAR. -/
def Ev.arbiterAtClear (v : Env) (b : Nat) (e : Ev) : Ev :=
  if e.u.tdu.queue.any fun x => (v.cfg.turnout x.1).any fun c => c.owning == b then e.arbiter v else e

/-! ## Withdrawal (R40) -/

/-- R40: the queued throw of an unheld turnout is withdrawn. No requester waits for it: the route that held it took
the requester's place (R49). -/
def Ev.withdrawThrow (v : Env) (t : Nat) (e : Ev) : Ev :=
  let x := e.u.turnout t
  match v.cfg.turnout t with
  | some c =>
    if x.state = .queued ∧ x.held = false then
      let p := e.u.proven c.feedback t
      let e := e.setThrows fun q => q.filter fun y => y.1 != t
      (e.setTurnout t fun x => { x with
        state := restingState p, commanded := p.getD x.commanded, requester := none }).turnoutReaches v t
    else e
  | none => e

/-- R40: the queued throws of a route are withdrawn. -/
def Ev.withdrawThrows (v : Env) (r : RouteCfg) (e : Ev) : Ev :=
  (r.turnouts ++ r.flank).foldl (fun e x => e.withdrawThrow v x.1) e

end Sys2Proof.Machine
end

