-- ==== Sys2Proof/Machine/Routes.lean ====
section
/-! DEFINITION. The life of a route after its acceptance (R60 to R73, R77), its claim opened and closed (R79, R80,
R85), and the Interlocking Engine's reaction to turnouts and occupancy. -/

namespace Sys2Proof.Machine

/-! ## The route's claim -/

/-- R79: the tag of a route's next claim attempt. -/
def claimTag (n counter : Nat) : Nat := n * 4 + counter

/-- R79, R80, R87: a new attempt for route `n`: the tag, the timer, and the CLAIM REQUEST to the owner. -/
def Ev.openClaim (v : Env) (n : Nat) (r : RouteCfg) (p : ForeignPart) (st : ClaimStatus) (e : Ev) : Ev :=
  let tag := claimTag n (e.u.claim n).counter
  let e := e.setClaim n fun c => { c with
    status := st, awaited := some tag, counter := (c.counter + 1) % 4, answer := some 0, wait := none }
  e.send v p.owner .claimRequest (claimRequestPayload tag r.dir p.blocks)

/-- R78: the claim of route `n` leaves its status; a change into or out of GRANTED reaches the signal. -/
def Ev.setClaimState (v : Env) (n : Nat) (f : Claim → Claim) (e : Ev) : Ev :=
  let was := (e.u.claim n).status
  let e := e.setClaim n f
  let now := (e.u.claim n).status
  if (was == .granted) != (now == .granted) then e.claimReaches v n else e

/-- R82, R84, R85: a CLAIM RELEASE to `owner`. -/
def Ev.releaseClaim (v : Env) (owner tag : Nat) (e : Ev) : Ev := e.send v owner .claimRelease [byte tag]

/-- R78: a claim with no claim open; the attempt counter is kept. -/
def Claim.closed (c : Claim) : Claim := { c with status := .none, awaited := none, held := none, answer := none, wait := none }

/-- R85: the claim of route `n` is closed at its return to IDLE. -/
def Ev.closeClaim (v : Env) (n : Nat) (r : RouteCfg) (e : Ev) : Ev := match r.foreign with
  | none => e
  | some p =>
    let c := e.u.claim n
    let e := match c.status, c.awaited, c.held with
      | .awaiting, some tag, _ | .reclaiming, some tag, _ => e.releaseClaim v p.owner tag
      | .granted, _, some tag => e.releaseClaim v p.owner tag
      | _, _, _ => e
    e.setClaimState v n Claim.closed

/-! ## State changes -/

/-- R54: a route with a turntable condition hands its changes to the Turntable Controller. -/
def Ev.routeReachesTable (r : RouteCfg) (e : Ev) : Ev := if r.turntable.isSome then e.callExamine else e

/-- R54: route `n` takes a state other than IDLE; the change is handed on. -/
def Ev.setRouteState (v : Env) (n : Nat) (r : RouteCfg) (st : RouteState) (e : Ev) : Ev :=
  ((e.setRoute n fun x => { x with state := st }).routeStateChanged v r.entry).routeReachesTable r

/-- R53, R97: route `n` returns to IDLE: its runtime fields take their first values, and no signal is evaluated for it. -/
def Ev.routeIdle (n : Nat) (r : RouteCfg) (e : Ev) : Ev :=
  ((e.setRoute n fun _ => .idleOf r).endEvaluated r.entry n).routeReachesTable r

/-- R61: route `n` goes to SET; its source is told and detached (R77). -/
def Ev.routeSet (v : Env) (n : Nat) (r : RouteCfg) (e : Ev) : Ev :=
  let x := e.u.route n
  let e := e.setRouteState v n r .set
  let e := match x.reportTo with
    | some d => e.report v d n .set
    | none => e
  match x.attached with
  | some a => (e.setRoute n fun x => { x with attached := none }).tellSet v a.source.entry
  | none => e

/-- R59, R60: route `n` goes to THROWING, and on to SET if all its turnouts are proven. -/
def Ev.routeThrowing (v : Env) (n : Nat) (r : RouteCfg) (e : Ev) : Ev :=
  let e := e.setRouteState v n r .throwing
  if e.u.allProven r then e.routeSet v n r else e

/-! ## Releasing holds -/

/-- R9: the block returns to FREE if route `n` holds it. -/
def Ev.freeOfRoute (v : Env) (n b : Nat) (e : Ev) : Ev :=
  if (e.u.block b).holder = .route n then e.setHolder v b .free else e

/-- R67: the path turnouts that lie in block `b` lose route `n`'s path hold. -/
def Ev.dropPathIn (v : Env) (n : Nat) (r : RouteCfg) (b : Nat) (e : Ev) : Ev :=
  r.turnouts.foldl (fun e x =>
    if (v.cfg.turnout x.1).any (fun c => c.owning == b) then e.dropPath n x.1 else e) e

/-- R65, R72: path block `i` of route `n` is released. -/
def Ev.releasePathBlock (v : Env) (n : Nat) (r : RouteCfg) (i : Nat) (e : Ev) : Ev :=
  let e := e.setRoute n fun x => { x with progress := x.progress.set i .released }
  match r.path[i]? with
  | some b => (e.freeOfRoute v n b).dropPathIn v n r b
  | none => e

/-- R66, R72: the overlap block of route `n` is released. -/
def Ev.releaseOverlap (v : Env) (n : Nat) (r : RouteCfg) (e : Ev) : Ev :=
  if (e.u.route n).overlapHeld then
    let e := e.setRoute n fun x => { x with overlapHeld := false }
    match r.overlap with
    | some b => (e.freeOfRoute v n b).dropPathIn v n r b
    | none => e
  else e

/-- R62 step 1, R66 step 1: the turnouts that route `n` still holds are given back. -/
def Ev.releaseTurnouts (n : Nat) (r : RouteCfg) (e : Ev) : Ev :=
  r.flank.foldl (fun e x => e.dropFlank x.1) (r.turnouts.foldl (fun e x => e.dropPath n x.1) e)

/-- R62 step 1: every block and turnout that route `n` holds is given back. -/
def Ev.releaseHolds (v : Env) (n : Nat) (r : RouteCfg) (e : Ev) : Ev :=
  ((r.path ++ r.overlap.toList).foldl (fun e b => e.freeOfRoute v n b) e).releaseTurnouts n r

/-! ## Failure (R62, R77) -/

/-- R77: the request of a failed route rejoins the tail of the list, or its source is told FULL. -/
def Ev.rejoin (v : Env) (a : Request) (e : Ev) : Ev :=
  if e.u.ilk.waiting.length < 8 then (e.setWaiting fun l => l ++ [a]).callScan
  else e.tellLost v a.source.entry

/-- R62: route `n` fails. -/
def Ev.routeFail (v : Env) (n : Nat) (r : RouteCfg) (c : Code) (item : Item) (owners : Nat) (e : Ev) : Ev :=
  let x := e.u.route n
  let e := (e.releaseHolds v n r).withdrawThrows v r
  let e := (e.closeClaim v n r).routeIdle n r
  let e := match x.reportTo with
    | some d => e.reportCode v d n .failed c item owners
    | none => e
  let e := match x.attached with
    | some a => e.rejoin v a
    | none => e
  e.callScan

/-! ## The reaction to turnouts (R50, R60, R61) -/

/-- R60, R61: the reaction of route `n` to a change of turnout `t`. -/
def Ev.routeMeetsTurnout (v : Env) (t n : Nat) (e : Ev) : Ev := match v.cfg.route n with
  | none => e
  | some r =>
    if (r.turnouts ++ r.flank).any (fun x => x.1 == t) then
      match (e.u.route n).state with
      | .claiming =>
        if (e.u.turnout t).state = .failed then e.routeFail v n r .throwFailed (.turnout t) 0 else e
      | .throwing =>
        if (e.u.turnout t).state = .failed then e.routeFail v n r .throwFailed (.turnout t) 0
        else if e.u.allProven r then e.routeSet v n r else e
      | .idle | .set | .approachHeld | .inUse => e
    else e

/-- R50: a change of turnout `t`'s state is handed to the Aspect Evaluator and the Interlocking Engine. Of several routes
that it sets or fails, the lowest number is taken first (log entry 42). -/
def Ev.turnoutChanged (v : Env) (t : Nat) (e : Ev) : Ev :=
  (List.range 64).foldl (fun e n => e.routeMeetsTurnout v t n) (e.turnoutReaches v t)

/-! ## Passage (R64 to R68, R72) -/

/-- R66: route `n` ends once it holds no block: turnouts, claim, IDLE, RELEASED. -/
def Ev.routeEndIfDone (v : Env) (n : Nat) (r : RouteCfg) (e : Ev) : Ev :=
  let x := e.u.route n
  if x.progress.all (fun p => p == .released) && !x.overlapHeld then
    let e := ((e.releaseTurnouts n r).closeClaim v n r).routeIdle n r
    match x.reportTo with
    | some d => e.report v d n .released
    | none => e
  else e

/-- R64: the progress of each path block at entry into use. -/
def enteredProgress (u : Units) (r : RouteCfg) (ps : List Progress) : List Progress :=
  (r.path.zip ps).map fun x => if (u.block x.1).occupied then .entered else x.2

/-- R64: the reaction of route `n` to an OCCUPIED event of its path block `i`. -/
def Ev.routeMeetsOccupied (v : Env) (n : Nat) (r : RouteCfg) (i : Nat) (e : Ev) : Ev :=
  let x := e.u.route n
  match x.state with
  | .set | .approachHeld =>
    if i = 0 then
      (e.setRoute n fun x => { x with
        approach := none, progress := enteredProgress e.u r x.progress }).setRouteState v n r .inUse
    else e
  | .inUse =>
    if x.progress.getD i .released = .notEntered then
      e.setRoute n fun x => { x with progress := x.progress.set i .entered }
    else e
  | .idle | .claiming | .throwing => e

/-- R65, R66: the sequence condition of path block `i`. -/
def sequenceHolds (u : Units) (r : RouteCfg) (i : Nat) : Bool :=
  if i + 1 < r.path.length then
    match r.path[i + 1]? with
    | some b => (u.block b).occupied
    | none => false
  else match i with
    | 0 => true
    | j + 1 => match r.path[j]? with
      | some b => !(u.block b).occupied
      | none => true

/-- R65, R66, R68, R72: the reaction of an IN_USE route `n` to a CLEAR event of its path block `i`. -/
def Ev.routeMeetsClear (v : Env) (n : Nat) (r : RouteCfg) (i : Nat) (e : Ev) : Ev :=
  let x := e.u.route n
  if x.state ≠ .inUse then e
  else if x.forced then
    if x.progress.getD i .released = .released then e
    else (e.releasePathBlock v n r i).routeEndIfDone v n r
  else if x.progress.getD i .released = .entered then
    if sequenceHolds e.u r i then
      let e := e.releasePathBlock v n r i
      let e := if i + 1 = r.path.length then e.releaseOverlap v n r else e
      e.routeEndIfDone v n r
    else e.setRoute n fun x => { x with progress := x.progress.set i .stuck }
  else e

/-- R70, R71: holds, grant and route are given up, as for a cancel in SET with a clear approach. -/
def Ev.routeGivenUp (v : Env) (n : Nat) (r : RouteCfg) (e : Ev) : Ev :=
  ((e.releaseHolds v n r).closeClaim v n r).routeIdle n r

/-- R71: the approach hold of route `n` ends in IDLE. -/
def Ev.approachEnd (v : Env) (n : Nat) (r : RouteCfg) (e : Ev) : Ev :=
  let x := e.u.route n
  let e := e.routeGivenUp v n r
  match x.reportTo with
  | some d => e.report v d n .released
  | none => e

/-- R71: the approach block `b` of a route in APPROACH_HELD has become CLEAR. -/
def Ev.approachCleared (v : Env) (b : BlockRef) (n : Nat) (e : Ev) : Ev := match v.cfg.route n with
  | some r =>
    if (e.u.route n).state = .approachHeld ∧ (v.cfg.signal r.entry).bind (·.approach) = some b then
      e.approachEnd v n r
    else e
  | none => e

/-- R72: the overlap of a route under forced release has become CLEAR. -/
def Ev.overlapCleared (v : Env) (b n : Nat) (e : Ev) : Ev := match v.cfg.route n with
  | some r =>
    let x := e.u.route n
    if x.state = .inUse ∧ x.forced = true ∧ x.overlapHeld = true ∧ r.overlap = some b then
      (e.releaseOverlap v n r).routeEndIfDone v n r
    else e
  | none => e

/-- R64 to R72: the Interlocking Engine's action on an OCCUPIED event. -/
def Ev.routesOccupied (v : Env) (b : Nat) (e : Ev) : Ev :=
  (List.range 64).foldl (fun e n => match v.cfg.route n with
    | some r => match r.path.idxOf? b with
      | some i => e.routeMeetsOccupied v n r i
      | none => e
    | none => e) e

/-- R64 to R72: the Interlocking Engine's action on a CLEAR event. Of several routes that it ends, the lowest number is
taken first (log entry 42). -/
def Ev.routesClear (v : Env) (b : Nat) (e : Ev) : Ev :=
  (List.range 64).foldl (fun e n =>
    let e := match v.cfg.route n with
      | some r => match r.path.idxOf? b with
        | some i => e.routeMeetsClear v n r i
        | none => e
      | none => e
    (e.overlapCleared v b n).approachCleared v (.here b) n) e

/-! ## Expiry and cancel -/

/-- R71: the approach release timer of route `n` expires. -/
def Ev.approachExpiry (v : Env) (n : Nat) (e : Ev) : Ev := match v.cfg.route n with
  | some r => if (e.u.route n).approach.isSome then e.approachEnd v n r else e
  | none => e

/-- R72: forced release: every held CLEAR block is released at once. -/
def Ev.forceRelease (v : Env) (n : Nat) (r : RouteCfg) (e : Ev) : Ev :=
  let e := e.setRoute n fun x => { x with forced := true }
  let e := (List.range r.path.length).foldl (fun e i =>
    let clear := match r.path[i]? with
      | some b => !(e.u.block b).occupied
      | none => false
    if clear && (e.u.route n).progress.getD i .released != .released then e.releasePathBlock v n r i else e) e
  let e := match r.overlap with
    | some b => if (e.u.block b).occupied then e else e.releaseOverlap v n r
    | none => e
  e.routeEndIfDone v n r

/-- R73: the reports of a cancel that takes the route straight to IDLE. That the cancelling station's joins the queue before
the report destination's is the model's choice (log entry 30). -/
def Ev.reportCancelled (v : Env) (src n : Nat) (dest : Option ReportTo) (e : Ev) : Ev :=
  let e := e.report v (.station src) n .cancelled
  match dest with
  | some d => if d = .station src then e else e.report v d n .cancelled
  | none => e

/-- R70, R73, R77: a cancel by station `src` acts by the route's state. -/
def Ev.cancelRoute (v : Env) (src n : Nat) (r : RouteCfg) (e : Ev) : Ev :=
  let x := e.u.route n
  match x.state with
  | .idle | .approachHeld => e.report v (.station src) n .cancelled
  | .claiming | .throwing =>
    let e := (e.releaseHolds v n r).withdrawThrows v r
    let e := (e.closeClaim v n r).routeIdle n r
    let e := match x.attached with
      | some a => e.tellLost v a.source.entry
      | none => e
    e.callScan.reportCancelled v src n x.reportTo
  | .set =>
    if e.u.approachOccupied v.cfg r.entry then
      ((e.setRoute n fun x => { x with approach := some 0 }).setRouteState v n r .approachHeld).report v
        (.station src) n .cancelled
    else (e.routeGivenUp v n r).reportCancelled v src n x.reportTo
  | .inUse =>
    let e := e.report v (.station src) n .cancelled
    if x.forced then e else e.forceRelease v n r

/-- R69: a ROUTE CANCEL taken. -/
def Ev.routeCancel (v : Env) (f : Frame) (e : Ev) : Ev :=
  let n := payloadAt f.payload 0
  let refuse (c : Code) := e.reportCode v (.station f.src) n .refused c (.route n) 0
  if !v.running then refuse .notRunning
  else if 64 ≤ n then refuse .badItem
  else match v.cfg.route n with
    | some r => e.cancelRoute v f.src n r
    | none => refuse .badItem

end Sys2Proof.Machine
end

