-- ==== Sys2Proof/Machine/Turnouts.lean ====
section
/-! DEFINITION. The Turnout Drive Unit above the Interlocking Engine (chapter 3): FAILED, the end of a drive, throws,
feedback changes, TURNOUT REQUEST, and the unit's timers. -/

namespace Sys2Proof.Machine

/-- The configured drive kind of turnout `t` is MOTOR. -/
def Env.isMotor (v : Env) (t : Nat) : Bool := (v.cfg.turnout t).any fun c => c.drive == .motor

/-- R118: the TURNOUT cause of turnout `t`, on its owning block. -/
def Ev.raiseTurnout (v : Env) (t : Nat) (e : Ev) : Ev := match v.cfg.turnout t with
  | some c => e.raise c.owning .turnout
  | none => e

/-- R46, R50: turnout `t` enters FAILED: its drive stops, its entry is lost, its requester is answered, and the
failure is reported; then the other units react, and a freed motor lets the arbiter run. That the arbiter runs after the
Interlocking Engine has withdrawn the failed route's throws (R62) is the model's choice (log entry 40). -/
def Ev.enterFailed (v : Env) (t : Nat) (k : FaultKind) (e : Ev) : Ev :=
  let was := (e.u.turnout t).state
  let e := e.setThrows fun q => q.filter fun x => x.1 != t
  let e := e.setTurnout t fun x => { x with state := .failed, drive := none }
  let e := (e.settleRequester v t .throwFailed).link (Link.addFailedTurnout t)
  let e := ((e.writeFault k (.turnout t)).raiseTurnout v t).turnoutChanged v t
  if was = .moving ∧ v.isMotor t = true then e.arbiter v else e

/-- R40: a QUEUED turnout whose commanded position the feedback proves leaves the queue without a drive. -/
def Ev.proofWhileQueued (v : Env) (t : Nat) (e : Ev) : Ev :=
  let x := e.u.turnout t
  match v.cfg.turnout t with
  | some c =>
    if x.state = .queued ∧ e.u.proven c.feedback t = some x.commanded then
      let e := e.setThrows fun q => q.filter fun y => y.1 != t
      let e := e.setTurnout t fun x => { x with state := .at x.commanded }
      (e.settleRequester v t .done).turnoutChanged v t
    else e
  | none => e

/-- R39, R40, R42: turnout `t` joins the tail of the queue for its commanded position; one that the feedback already
proves leaves it at once (log entry 9). -/
def Ev.joinQueue (v : Env) (t : Nat) (e : Ev) : Ev :=
  let e := e.setThrows fun q => q ++ [(t, (e.u.turnout t).commanded)]
  let e := e.setTurnout t fun x => { x with state := .queued, drive := none }
  ((e.turnoutReaches v t).proofWhileQueued v t).arbiter v

/-- R45: the drive of turnout `t` ends, proven or not. -/
def Ev.driveEnd (v : Env) (t : Nat) (proven : Bool) (e : Ev) : Ev :=
  let x := e.u.turnout t
  match x.drive with
  | none => e
  | some d =>
    if x.commanded ≠ d.pos then e.joinQueue v t
    else if proven then
      let e := e.setTurnout t fun x => { x with state := .at d.pos, drive := none }
      let e := (e.settleRequester v t .done).turnoutChanged v t
      if v.isMotor t then e.arbiter v else e
    else e.enterFailed v t .throwTimeout

/-- R39, R49: a requester that waits from another source is answered CONFLICT. -/
def Ev.replaceRequester (v : Env) (t : Nat) (source : Option Nat) (e : Ev) : Ev :=
  let e := if (e.u.turnout t).requester = source then e else e.settleRequester v t .conflict
  e.setTurnout t fun x => { x with requester := source }

/-- R39: a throw of turnout `t` to `p`, for a station or (none) for a route. A request naming the drive position of a
MOVING turnout that was redirected before takes the commanded position back by R39, where R48 says that nothing but the
requester changes: the model's choice (log entry 41). -/
def Ev.throw (v : Env) (t : Nat) (p : Pos) (source : Option Nat) (e : Ev) : Ev :=
  let x := e.u.turnout t
  let e := (e.replaceRequester v t source).setTurnout t fun x => { x with commanded := p }
  match x.state with
  | .moving => e
  | .queued =>
    (e.setThrows fun q => q.map fun y => if y.1 = t then (t, p) else y).proofWhileQueued v t
  | .failed => e.callScan.joinQueue v t
  | .normal | .reverse | .unknown => e.joinQueue v t

/-! ## Feedback changes (R47) -/

/-- R46, R47: an unheld or held turnout follows or accepts a proven position. -/
def Ev.settleAt (v : Env) (t : Nat) (p : Pos) (e : Ev) : Ev :=
  let failed := (e.u.turnout t).state == .failed
  let e := e.setTurnout t fun x => { x with state := .at p, commanded := p }
  let e := if failed then e.callScan else e
  e.turnoutChanged v t

/-- R43, R44, R47: a feedback change of a MOVING turnout. -/
def Ev.feedbackWhileMoving (v : Env) (t : Nat) (p : Option Pos) (e : Ev) : Ev :=
  match (e.u.turnout t).drive with
  | some ⟨pos, .window _⟩ | some ⟨pos, .motor _⟩ => if p = some pos then e.driveEnd v t true else e
  | some ⟨_, .pulse⟩ | none => e

/-- R46, R47: the reaction of turnout `t` to what its new reading proves. -/
def Ev.feedbackReaction (v : Env) (t : Nat) (p : Option Pos) (e : Ev) : Ev :=
  let x := e.u.turnout t
  match x.state with
  | .normal | .reverse | .unknown =>
    if x.held then e.enterFailed v t .proofLost
    else match p with
      | some q => e.settleAt v t q
      | none => (e.setTurnout t fun x => { x with state := .unknown }).turnoutChanged v t
  | .queued => e.proofWhileQueued v t
  | .moving => e.feedbackWhileMoving v t p
  | .failed => match p with
    | some q => if x.held && q != x.commanded then e else e.settleAt v t q
    | none => e

/-- R36: whether a change from one reading to another is a feedback change. -/
def readingChanges (k : Feedback) (was is : Bool × Bool) : Bool := match k with
  | .twoContact => was != is
  | .reverseContact => was.2 != is.2
  | .none => false

/-- R46, R47: the filtered contacts of turnout `t` become (normal, reverse). Both shown fail it, a FAILED one again (log
entry 10). -/
def Ev.feedbackChange (v : Env) (t : Nat) (normal reverse : Bool) (e : Ev) : Ev := match v.cfg.turnout t with
  | none => e
  | some c =>
    let x := e.u.turnout t
    let was := (x.normalIn.level, x.reverseIn.level)
    let settle (f : ContactFilter) (l : Bool) : ContactFilter := if f.level = l then f else ⟨l, none⟩
    let e := e.setTurnout t fun x =>
      { x with normalIn := settle x.normalIn normal, reverseIn := settle x.reverseIn reverse }
    if readingChanges c.feedback was (normal, reverse) then
      let p := proves c.feedback normal reverse x.proven
      let e := e.setTurnout t fun x => { x with proven := p }
      if contradicts c.feedback normal reverse then e.enterFailed v t .contactsBoth
      else e.feedbackReaction v t p
    else e

/-- R36: a contact's filter when its input changes to `level`. -/
def ContactFilter.input (level : Bool) (f : ContactFilter) : ContactFilter :=
  { f with timer := if level = f.level then none else f.timer.or (some 0) }

/-- R36: a contact input of turnout `t` changes. -/
def Ev.contactInput (v : Env) (t : Nat) (c : Contact) (level : Bool) (e : Ev) : Ev :=
  if v.running && (v.cfg.turnout t).any (fun x => x.feedback != .none) then
    e.setTurnout t fun x => match c with
      | .normal => { x with normalIn := x.normalIn.input level }
      | .reverse => { x with reverseIn := x.reverseIn.input level }
  else e

/-! ## Timers (R41, R43, R44) -/

/-- R43: the proof at the end of a solenoid pulse. -/
def Ev.judgePulse (v : Env) (t : Nat) (e : Ev) : Ev := match v.cfg.turnout t, (e.u.turnout t).drive with
  | some c, some ⟨pos, .pulse⟩ =>
    match c.feedback with
    | .none => (e.setTurnout t fun x => { x with proven := some pos }).driveEnd v t true
    | .twoContact | .reverseContact =>
      if e.u.proven c.feedback t = some pos then e.driveEnd v t true
      else e.setTurnout t fun x => { x with drive := some ⟨pos, .window 0⟩ }
  | _, _ => e

/-- R41, R43: the pulse time ends. -/
def Ev.pulseEnd (v : Env) (e : Ev) : Ev := match e.u.tdu.cdu with
  | .pulsing t _ => (e.setCdu (.recharging 0)).judgePulse v t
  | .ready | .recharging _ => e

/-- R41, R42: the recharge timer reaches the recharge time. -/
def Ev.rechargeExpiry (v : Env) (e : Ev) : Ev := match e.u.tdu.cdu with
  | .recharging _ => (e.setCdu .ready).arbiter v
  | .ready | .pulsing _ _ => e

/-- R43: the confirm window of turnout `t` runs out. -/
def Ev.windowExpiry (v : Env) (t : Nat) (e : Ev) : Ev := match (e.u.turnout t).drive with
  | some ⟨_, .window _⟩ => e.driveEnd v t false
  | _ => e

/-- R44: the motor timer of turnout `t` expires: proof for NONE, no proof otherwise. -/
def Ev.motorExpiry (v : Env) (t : Nat) (e : Ev) : Ev := match v.cfg.turnout t, (e.u.turnout t).drive with
  | some c, some ⟨pos, .motor _⟩ =>
    match c.feedback with
    | .none => (e.setTurnout t fun x => { x with proven := some pos }).driveEnd v t true
    | .twoContact | .reverseContact => e.driveEnd v t false
  | _, _ => e

/-! ## TURNOUT REQUEST (R48) -/

/-- Section 11.7: a position field read. -/
def posOfValue (n : Nat) : Option Pos := if n = 0 then some .normal else if n = 1 then some .reverse else none

/-- R48: a TURNOUT REQUEST taken. -/
def Ev.turnoutRequest (v : Env) (f : Frame) (e : Ev) : Ev :=
  let t := payloadAt f.payload 0
  let say (c : Code) := e.answer v f.src .turnoutRequest t c
  if !v.running then say .notRunning
  else if 32 ≤ t then say .badItem
  else match v.cfg.turnout t, posOfValue (payloadAt f.payload 1) with
    | some c, some p =>
      if (e.u.turnout t).held then say .conflict
      else if (e.u.block c.owning).occupied then say .occupied
      else if e.u.provenIn t p then say .done
      else e.throw v t p (some f.src)
    | _, _ => say .badItem

end Sys2Proof.Machine
end

