-- ==== Sys2Proof/Machine/Watches.lean ====
section
/-! DEFINITION. The Watch Unit (chapter 7): entries and ranges, possessions, and the notices of one event. -/

namespace Sys2Proof.Machine

/-! ## Ranges and possessions -/

/-- R114: a block is in the range of an entry. -/
def Watch.inRange (w : Watch) (b : Nat) : Bool :=
  if w.first ≤ w.last then decide (w.first ≤ b ∧ b ≤ w.last) else decide (w.first ≤ b ∨ b ≤ w.last)

/-- R113: an entry of kind POSSESSION. -/
def Watch.possession (w : Watch) : Bool := w.kind != .watch

/-- R114: a block lies in a possession. -/
def Units.inPossession (u : Units) (b : Nat) : Bool :=
  u.watches.any fun w => match w with
    | some w => w.possession && w.inRange b
    | none => false

/-- R122: the deck block is barred to a source: a station, or none for a button. -/
def Units.deckBarred (u : Units) (b : Nat) (source : Option Nat) : Bool :=
  u.watches.any fun w => match w with
    | some w => w.kind == .active && w.inRange b && source != some w.setter
    | none => false

/-- R120: no block of an entry's range is covered. -/
def Units.rangeClear (u : Units) (w : Watch) : Bool :=
  (List.range 48).all fun b => !(w.inRange b && (u.block b).holder.covers)

/-- R123: every ACTIVE possession over the deck steps back to PENDING when a move starts. -/
def Ev.stepBack (b : Nat) (e : Ev) : Ev :=
  { e with u.watches := e.u.watches.map fun w => match w with
      | some w => if w.kind = .active ∧ w.inRange b = true then some { w with kind := .pending } else some w
      | none => none }

/-- R124: the end of a possession calls for the scan and for the examination of the move queue. -/
def Ev.possessionEnds (w : Option Watch) (e : Ev) : Ev := match w with
  | some w => if w.possession then e.callScan.callExamine else e
  | none => e

/-! ## WATCH SET and WATCH CLEAR -/

/-- R115: what a WATCH SET carries: the setter, whether it is a POSSESSION, the clamped range, the named causes. -/
def watchOf (u : Units) (f : Frame) : Watch :=
  let w : Watch := ⟨f.src, .watch, min (payloadAt f.payload 2) 47, min (payloadAt f.payload 3) 47,
    byte (payloadAt f.payload 4 % 32)⟩
  if payloadAt f.payload 1 = 0 then w
  else { w with kind := if u.rangeClear w then .active else .pending }

/-- R115: the first failing check of a WATCH SET, if any. -/
def watchSetCheck (v : Env) (u : Units) (f : Frame) : Option Code :=
  let n := payloadAt f.payload 0
  if !v.running then some .notRunning
  else if 8 ≤ n ∨ 2 ≤ payloadAt f.payload 1 then some .badItem
  else match u.watch n with
    | some w => if w.setter = f.src then none else some .inUse
    | none => none

/-- R115: a WATCH SET taken. -/
def Ev.watchSet (v : Env) (f : Frame) (e : Ev) : Ev :=
  let n := payloadAt f.payload 0
  match watchSetCheck v e.u f with
  | some c => e.answer v f.src .watchSet n c
  | none =>
    let w := watchOf e.u f
    let e := ((e.possessionEnds (e.u.watch n)).setWatch n (some w)).answer v f.src .watchSet n .done
    let e := { e with newest := some n }
    if w.kind = .active then { e with granted := setInsert n e.granted } else e

/-- R116: a WATCH CLEAR taken. -/
def Ev.watchClear (v : Env) (f : Frame) (e : Ev) : Ev :=
  let n := payloadAt f.payload 0
  let say (c : Code) (e : Ev) := e.answer v f.src .watchClear n c
  if !v.running then say .notRunning e
  else if 8 ≤ n then say .badItem e
  else match e.u.watch n with
    | none => say .done e
    | some w =>
      if w.setter = f.src then say .done ((e.possessionEnds (some w)).setWatch n none)
      else say .notOwner e

/-- R117: the WATCH entries of an announcing station go; its possessions stay. -/
def Ev.dropWatches (s : Nat) (e : Ev) : Ev :=
  { e with u.watches := e.u.watches.map fun w => match w with
      | some w => if w.setter = s ∧ w.kind = .watch then none else some w
      | none => none }

/-! ## What the end of an event does -/

/-- R121: PENDING possessions whose range saw a change of holder, and is now clear, become ACTIVE (log entry 8). -/
def Ev.testPossessions (e : Ev) : Ev :=
  (List.range 8).foldl (fun e n => match e.u.watch n with
    | some w =>
      if w.kind = .pending ∧ e.holders.any w.inRange = true ∧ e.u.rangeClear w = true then
        { e.setWatch n (some { w with kind := .active }) with granted := setInsert n e.granted }
      else e
    | none => e) e

/-- R118, R119: the cause bits of a block that count for a mask: TAG stands for OCC. -/
def countedBits (causes : List (Nat × Cause)) (mask : Byte) (b : Nat) : Byte :=
  let bits := (causes.foldl (fun m x => if x.1 = b then m ||| x.2.bit else m) 0) &&& mask
  if bits &&& Cause.tag.bit = 0 then bits else bits &&& ~~~Cause.occ.bit

/-- R119: a WATCH NOTICE of entry `n`. -/
def Ev.notice (v : Env) (n : Nat) (w : Watch) (bits : Byte) (b : Nat) (e : Ev) : Ev :=
  e.send v w.setter .watchNotice (watchNoticePayload n bits b (e.u.block b) e.u.scaleMinute)

/-- R119, R121: the notices of one entry: by block, then GRANTED. An entry set by this event sees only its
GRANTED (R115). -/
def Ev.noticesOf (v : Env) (n : Nat) (e : Ev) : Ev := match e.u.watch n with
  | none => e
  | some w =>
    let e := if e.newest = some n then e else
      (List.range 48).foldl (fun e b =>
        let bits := countedBits e.causes w.mask b
        if w.inRange b && bits != 0 then e.notice v n w bits b else e) e
    if n ∈ e.granted then e.notice v n w grantedBit w.first else e

/-- R119: the notices of the event, in order of watch number. -/
def Ev.notices (v : Env) (e : Ev) : Ev := (List.range 8).foldl (fun e n => e.noticesOf v n) e

end Sys2Proof.Machine
end

