-- ==== Sys2Proof/Machine/Acceptance.lean ====
section
/-! DEFINITION. Acceptance of routes (R55 to R59) and the scan of the pending route list (R75, R76). -/

namespace Sys2Proof.Machine

/-! ## Acceptance checks -/

/-- R56: the block test. -/
def blockTest (u : Units) (b : Nat) : Option Code :=
  match (u.block b).holder with
  | .arrivalHold _ => some .held
  | .route _ | .foreignClaim _ _ | .turntable => some .conflict
  | .free =>
    if (u.block b).occupied then some .occupied
    else if u.inPossession b then some .possession
    else none

/-- R57 check 5: a path turnout that must lie in `p`. -/
def pathTurnoutTest (u : Units) (t : Nat) (p : Pos) : Option Code :=
  let x := u.turnout t
  if x.state = .failed then some .turnoutFailed
  else if x.pathHolder.isSome ∨ (0 < x.flankCount ∧ x.commanded ≠ p) then some .conflict
  else none

/-- R57 check 6: a flank turnout that must lie in `p`. -/
def flankTurnoutTest (v : Env) (u : Units) (t : Nat) (p : Pos) : Option Code :=
  let x := u.turnout t
  if x.state = .failed then some .turnoutFailed
  else if x.pathHolder.isSome then some .conflict
  else if (0 < x.flankCount ∧ x.commanded ≠ p) ∨ 4 ≤ x.flankCount then some .conflict
  else if u.provenIn t p = false ∧
      (v.cfg.turnout t).any (fun c => (u.block c.owning).occupied) = true then some .flank
  else none

/-- R58: the turntable stands as the condition needs. -/
def tableReady (u : Units) (c : Nat × BridgeEnd) : Bool :=
  u.ttc.phase == .aligned && u.ttc.alignedAt == some c

/-- R58 check 7. -/
def tableTest (u : Units) (c : Option (Nat × BridgeEnd)) : Option (Code × Item) := match c with
  | some c => if tableReady u c then none else some (.turntableNotReady, .road c.1)
  | none => none

/-- R56 to R58: the first failing check on a configured route that is IDLE, if any, checks 4 to 7. -/
def trackChecks (v : Env) (u : Units) (r : RouteCfg) : Option (Code × Item) :=
  ((r.path ++ r.overlap.toList).findSome? fun b => (blockTest u b).map fun c => (c, .block b)).or <|
  (r.turnouts.findSome? fun x => (pathTurnoutTest u x.1 x.2).map fun c => (c, .turnout x.1)).or <|
  (r.flank.findSome? fun x => (flankTurnoutTest v u x.1 x.2).map fun c => (c, .turnout x.1)).or <|
  tableTest u r.turntable

/-- R56 to R58: the acceptance checks on route `n`: the first failure, or the route's record. -/
def acceptance (v : Env) (u : Units) (n : Nat) : Except (Code × Item) RouteCfg :=
  if !v.running then .error (.notRunning, .route n)
  else if 64 ≤ n then .error (.badItem, .route n)
  else match v.cfg.route n with
    | none => .error (.badItem, .route n)
    | some r =>
      if (u.route n).state ≠ .idle then .error (.busy, .route n)
      else match trackChecks v u r with
        | some x => .error x
        | none => .ok r

/-! ## Acceptance (R59) -/

/-- R59 step 3: a turnout not proven in its required position is thrown for a route. -/
def Ev.throwForRoute (v : Env) (x : Nat × Pos) (e : Ev) : Ev :=
  if e.u.provenIn x.1 x.2 then e else e.throw v x.1 x.2 none

/-- R59 steps 1 to 3: blocks, turnouts and throws of route `n`. -/
def Ev.takeHolds (v : Env) (n : Nat) (r : RouteCfg) (e : Ev) : Ev :=
  let e := e.setHolders v (r.path ++ r.overlap.toList) (.route n)
  let e := r.turnouts.foldl (fun e x => e.holdPath n x.1) e
  let e := r.flank.foldl (fun e x => e.holdFlank x.1) e
  (r.turnouts ++ r.flank).foldl (fun e x => e.throwForRoute v x) e

/-- R59: route `n` is accepted, for a report destination and, from the list, a request. -/
def Ev.accept (v : Env) (n : Nat) (r : RouteCfg) (dest : ReportTo) (a : Option Request) (e : Ev) : Ev :=
  let e := e.setRoute n fun x => { x with
    reportTo := some dest, attached := a, overlapHeld := r.overlap.isSome
    progress := r.path.map fun _ => .notEntered }
  let e := ((e.takeHolds v n r).report v dest n .accepted).setEvaluated r.entry (some n)
  match r.foreign with
  | some p => (e.setRouteState v n r .claiming).openClaim v n r p .awaiting
  | none => e.routeThrowing v n r

/-- R55: a ROUTE REQUEST taken. -/
def Ev.routeRequest (v : Env) (f : Frame) (e : Ev) : Ev :=
  let n := payloadAt f.payload 0
  match acceptance v e.u n with
  | .error (c, item) => e.reportCode v (.station f.src) n .refused c item 0
  | .ok r => e.accept v n r (.station f.src) none

/-! ## The scan (R76) -/

/-- R76 step 1: the required tag, if any, stands on the departure block, OCCUPIED. -/
def tagReady (v : Env) (u : Units) (q : Request) : Bool := match q.tag with
  | none => true
  | some n => match departureBlock v.cfg q.route with
    | some b => (u.block b).occupied && (u.block b).tag == .known n
    | none => false

/-- R76: one request of a scan. -/
def Ev.tryRequest (v : Env) (q : Request) (e : Ev) : Ev :=
  if tagReady v e.u q then
    match acceptance v e.u q.route with
    | .error _ => e
    | .ok r => (e.setWaiting fun l => l.erase q).accept v q.route r .noticeGroup (some q)
  else e

/-- R75, R76: one scan, oldest first, over the list as it stands. -/
def Ev.scanList (v : Env) (e : Ev) : Ev := e.u.ilk.waiting.foldl (fun e q => e.tryRequest v q) e

end Sys2Proof.Machine
end

