-- ==== Sys2Proof/Machine/Claims.lean ====
section
/-! DEFINITION. The Claim Unit (chapter 5): answers and timers of the requester, arrival holds, grants, passage and
release of the owner. -/

namespace Sys2Proof.Machine

/-! ## The requester: answers -/

/-- R81: the route that awaits tag `tag` from station `src`, with its record and foreign part. -/
def awaitedRoute (v : Env) (u : Units) (src tag : Nat) : Option (Nat × RouteCfg) :=
  match v.cfg.route (tag / 4) with
  | some r =>
    if r.foreign.any (fun p => p.owner == src) && (u.claim (tag / 4)).awaited == some tag then some (tag / 4, r)
    else none
  | none => none

/-- R81: the grant repeats the one a route holds. -/
def grantRepeated (v : Env) (u : Units) (src tag : Nat) : Bool := match v.cfg.route (tag / 4) with
  | some r =>
    r.foreign.any (fun p => p.owner == src) && (u.claim (tag / 4)).status == .granted
      && (u.claim (tag / 4)).held == some tag
  | none => false

/-- R81: a claim that has been granted under `tag`. -/
def Claim.grantedUnder (tag : Nat) (c : Claim) : Claim :=
  { c with status := .granted, held := some tag, awaited := none, answer := none }

/-- R81, R82: a GRANT taken. -/
def Ev.claimGrant (v : Env) (f : Frame) (e : Ev) : Ev :=
  let tag := payloadAt f.payload 0
  match awaitedRoute v e.u f.src tag with
  | some (n, r) =>
    match (e.u.claim n).status with
    | .awaiting => (e.setClaimState v n (Claim.grantedUnder tag)).routeThrowing v n r
    | .reclaiming => e.setClaimState v n (Claim.grantedUnder tag)
    | .none | .granted | .waitingOwner | .lost => e.releaseClaim v f.src tag
  | none => if grantRepeated v e.u f.src tag then e else e.releaseClaim v f.src tag

/-- R83, R84, R87: the claim of route `n` becomes LOST, which the FAULT notice tells. -/
def Ev.claimLost (v : Env) (n : Nat) (e : Ev) : Ev :=
  (e.setClaimState v n fun c => { c.closed with status := .lost }).link (Link.addLostClaim n)

/-- R83: a REFUSE taken. -/
def Ev.claimRefuse (v : Env) (f : Frame) (e : Ev) : Ev :=
  match awaitedRoute v e.u f.src (payloadAt f.payload 0) with
  | some (n, r) =>
    match (e.u.claim n).status with
    | .awaiting =>
      (e.setClaimState v n Claim.closed).routeFail v n r .foreignRefused (.ownersBlock (payloadAt f.payload 3))
        (payloadAt f.payload 2)
    | .reclaiming => e.claimLost v n
    | .none | .granted | .waitingOwner | .lost => e
  | none => e

/-! ## The requester: timers, and the owner's restart -/

/-- R84: the answer timer of route `n` reaches 400 ms. -/
def Ev.answerTimeout (v : Env) (n : Nat) (e : Ev) : Ev :=
  match v.cfg.route n with
  | none => e
  | some r => match r.foreign, (e.u.claim n).answer, (e.u.claim n).awaited with
    | some p, some _, some tag =>
      let e := e.releaseClaim v p.owner tag
      match (e.u.claim n).status with
      | .awaiting => (e.setClaimState v n Claim.closed).routeFail v n r .claimTimeout (.station p.owner) 0
      | .reclaiming => e.claimLost v n
      | .none | .granted | .waitingOwner | .lost => e
    | _, _, _ => e

/-- R87: the owner wait timer of route `n` reaches 20 s. -/
def Ev.ownerWaitExpiry (v : Env) (n : Nat) (e : Ev) : Ev :=
  if (e.u.claim n).wait.isSome then e.claimLost v n else e

/-- R86: a claim that waits for its owner. -/
def Claim.waiting (c : Claim) : Claim := { c.closed with status := .waitingOwner, wait := some 0 }

/-- R86: the ANNOUNCE of its owner reaches route `n`. -/
def Ev.ownerAnnounced (v : Env) (n : Nat) (r : RouteCfg) (p : ForeignPart) (e : Ev) : Ev :=
  let c := e.u.claim n
  match c.status with
  | .none => e
  | .awaiting =>
    let e := match c.awaited with
      | some tag => e.releaseClaim v p.owner tag
      | none => e
    (e.setClaimState v n Claim.closed).routeFail v n r .ownerRestarted (.station p.owner) 0
  | .granted => if (e.u.route n).state = .inUse then e else e.setClaimState v n Claim.waiting
  | .waitingOwner | .reclaiming | .lost => e.setClaimState v n Claim.waiting

/-- R86: an ANNOUNCE from station `s` reaches the routes whose owner is `s`, lowest number first (log entry 42). -/
def Ev.announcedOwner (v : Env) (s : Nat) (e : Ev) : Ev :=
  (List.range 64).foldl (fun e n => match v.cfg.route n with
    | some r => match r.foreign with
      | some p => if p.owner = s then e.ownerAnnounced v n r p else e
      | none => e
    | none => e) e

/-- R87: a report from station `s` lets the routes that wait for it claim afresh, lowest number first (log entry 42). -/
def Ev.reclaim (v : Env) (s : Nat) (e : Ev) : Ev :=
  (List.range 64).foldl (fun e n => match v.cfg.route n with
    | some r => match r.foreign with
      | some p =>
        if p.owner = s ∧ (e.u.claim n).status = .waitingOwner then e.openClaim v n r p .reclaiming else e
      | none => e
    | none => e) e

/-! ## The owner: arrival holds (R88, R89) -/

/-- R185: the blocks that a claim's count names. -/
def claimedBlocks (count first second : Nat) : List Nat :=
  if count = 1 then [first] else if count = 2 then [first, second] else []

/-- R88: a block number that an arrival hold may mark. -/
def claimable (v : Env) (b : Nat) : Bool := decide (b < 48) && v.cfg.published b

/-- R185: the early hand-off is made for the nine bytes read. -/
def earlyHandOff (v : Env) (bytes : List Byte) : Bool :=
  let src := payloadAt bytes 1
  v.running && bytes.length == 9 && v.sys.number == some (payloadAt bytes 0)
    && decide (1 ≤ src ∧ src ≤ 62) && v.sys.number != some src
    && payloadAt bytes 2 == FrameKind.claimRequest.code && payloadAt bytes 3 == 5

/-- R88: the blocks that an arriving claim holds: claimable, FREE, and each once. -/
def arrivalBlocks (v : Env) (u : Units) (bs : List Nat) : List Nat :=
  bs.eraseDups.filter fun b => claimable v b && (u.block b).holder == .free

/-- R89, R91: the blocks of an arrival list entry that are still held for its source return to FREE. -/
def Ev.freeArrival (v : Env) (s : Nat) (bs : List Nat) (e : Ev) : Ev :=
  bs.foldl (fun e b => if (e.u.block b).holder = .arrivalHold s then e.setHolder v b .free else e) e

/-- R89: the frame in reception is lost. -/
def Ev.receptionLost (v : Env) (e : Ev) : Ev := match e.u.clu.reception with
  | some a => { e.freeArrival v a.station a.blocks with u.clu.reception := none }
  | none => e

/-- R88, R185: the block list of a frame in reception has been received. An entry of a
reception that never ended is lost first: there is one entry for the frame in reception. -/
def Ev.blockListReceived (v : Env) (bytes : List Byte) (e : Ev) : Ev :=
  if earlyHandOff v bytes then
    let e := e.receptionLost v
    let s := payloadAt bytes 1
    let bs := arrivalBlocks v e.u (claimedBlocks (payloadAt bytes 6) (payloadAt bytes 7) (payloadAt bytes 8))
    { e.setHolders v bs (.arrivalHold s) with u.clu.reception := some ⟨s, bs⟩ }
  else e

/-! ## The owner: requests (R90, R91) -/

/-- R90: the claim block test for requester `s`. -/
def claimBlockTest (u : Units) (s b : Nat) : Option Code :=
  let judge := if (u.block b).occupied then some Code.occupied
    else if u.inPossession b then some .possession else none
  match (u.block b).holder with
  | .arrivalHold q => if q = s then judge else some .held
  | .free => judge
  | .route _ | .foreignClaim _ _ | .turntable => some .conflict

/-- R90: the first failing check of a CLAIM REQUEST, with the block it names, if any. -/
def claimCheck (v : Env) (u : Units) (f : Frame) : Option (Code × Nat) :=
  let count := payloadAt f.payload 2
  let first := payloadAt f.payload 3
  let bs := claimedBlocks count first (payloadAt f.payload 4)
  if !v.running then some (.notRunning, first)
  else if bs = [] ∨ ¬ bs.Nodup ∨ Dir.ofValue (payloadAt f.payload 1) = .unknown then some (.badItem, first)
  else match bs.find? fun b => !claimable v b with
    | some b => some (.badItem, b)
    | none => bs.findSome? fun b => (claimBlockTest u f.src b).map fun c => (c, b)

/-- R91: a CLAIM ANSWER. -/
def Ev.claimAnswer (v : Env) (dest tag result code block : Nat) (e : Ev) : Ev :=
  e.send v dest .claimAnswer [byte tag, byte result, byte code, byte block]

/-- R90, R91: a CLAIM REQUEST taken, with the blocks of its arrival list entry. -/
def Ev.claimRequest (v : Env) (f : Frame) (held : List Nat) (e : Ev) : Ev :=
  let tag := payloadAt f.payload 0
  if v.sys.number ≠ some f.dest then e
  else match claimCheck v e.u f with
    | some (c, b) => (e.freeArrival v f.src held).claimAnswer v f.src tag 1 c.value b
    | none =>
      let bs := claimedBlocks (payloadAt f.payload 2) (payloadAt f.payload 3) (payloadAt f.payload 4)
      let e := e.setHolders v bs (.foreignClaim f.src tag)
      let e := e.setTable fun l =>
        l ++ [⟨f.src, tag, .ofValue (payloadAt f.payload 1), bs, bs.map fun _ => .notEntered, false⟩]
      e.claimAnswer v f.src tag 0 0 0

/-! ## The owner: passage and release (R92 to R94) -/

/-- R92: a record with no block left to hold. -/
def ClaimRecord.done (x : ClaimRecord) : Bool := x.progress.all fun p => p == .released

/-- R92: the blocks that a record still holds. -/
def ClaimRecord.heldBlocks (x : ClaimRecord) : List Nat :=
  ((x.blocks.zip x.progress).filter fun y => y.2 != .released).map Prod.fst

/-- R92: block `b` returns to FREE from the claim of a record. -/
def Ev.freeOfClaim (v : Env) (x : ClaimRecord) (b : Nat) (e : Ev) : Ev :=
  if (e.u.block b).holder = .foreignClaim x.requester x.tag then e.setHolder v b .free else e

/-- R92: a record on an OCCUPIED event of its block `b`. -/
def ClaimRecord.meetsOccupied (b : Nat) (x : ClaimRecord) : ClaimRecord := match x.blocks.idxOf? b with
  | some i =>
    if x.progress.getD i .released = .notEntered then { x with progress := x.progress.set i .entered } else x
  | none => x

/-- R92: the sequence condition of a record's block `i`. -/
def ClaimRecord.sequenceHolds (u : Units) (x : ClaimRecord) (i : Nat) : Bool := match x.blocks, i with
  | [_, second], 0 => (u.block second).occupied
  | [first, _], _ => !(u.block first).occupied
  | _, _ => true

/-- R92: the progress that a record's block `i` takes on its CLEAR event. -/
def ClaimRecord.clearedProgress (u : Units) (x : ClaimRecord) (i : Nat) : Progress :=
  match x.progress.getD i .released, x.release with
  | .entered, false => if x.sequenceHolds u i then .released else .stuck
  | .entered, true | .stuck, true => .released
  | p, _ => p

/-- R92: the Claim Unit's action on an OCCUPIED event. -/
def Ev.claimsOccupied (b : Nat) (e : Ev) : Ev := e.setTable fun l => l.map (ClaimRecord.meetsOccupied b)

/-- R92: a record's progress after the CLEAR event of its block `b`. -/
def ClaimRecord.meetsClear (u : Units) (b : Nat) (x : ClaimRecord) : ClaimRecord := match x.blocks.idxOf? b with
  | some i => { x with progress := x.progress.set i (x.clearedProgress u i) }
  | none => x

/-- R92: the Claim Unit's action on a CLEAR event: progress, blocks given back, finished records removed. -/
def Ev.claimsClear (v : Env) (b : Nat) (e : Ev) : Ev :=
  let u := e.u
  let freed := u.clu.table.filter fun x => b ∈ x.heldBlocks && b ∉ (x.meetsClear u b).heldBlocks
  let e := e.setTable fun l => (l.map (ClaimRecord.meetsClear u b)).filter fun x => !x.done
  freed.foldl (fun e x => e.freeOfClaim v x b) e

/-- R93: a record whose release is requested: its CLEAR blocks are RELEASED. -/
def ClaimRecord.released (u : Units) (x : ClaimRecord) : ClaimRecord :=
  { x with release := true, progress := (x.blocks.zip x.progress).map fun y =>
      if (u.block y.1).occupied then y.2 else .released }

/-- R93: a CLAIM RELEASE taken: the record it names, if any, the oldest of several (log entry 37), gives its CLEAR blocks
back. -/
def Ev.claimRelease (v : Env) (f : Frame) (e : Ev) : Ev :=
  let u := e.u
  match u.clu.table.findIdx? fun x => x.requester == f.src && x.tag == payloadAt f.payload 0 with
  | none => e
  | some i => match u.clu.table[i]? with
    | none => e
    | some x =>
      let e := e.setTable fun l => (l.modify i (ClaimRecord.released u)).filter fun x => !x.done
      (x.heldBlocks.filter fun b => !(u.block b).occupied).foldl (fun e b => e.freeOfClaim v x b) e

/-- R94: every claim of station `s` is dropped. -/
def Ev.dropClaims (v : Env) (s : Nat) (e : Ev) : Ev :=
  let dropped := e.u.clu.table.filter fun x => x.requester == s
  let e := e.setTable fun l => l.filter fun x => x.requester != s
  dropped.foldl (fun e x => x.heldBlocks.foldl (fun e b => e.freeOfClaim v x b) e) e

/-- R94: a CLAIM PURGE taken. -/
def Ev.claimPurge (v : Env) (f : Frame) (e : Ev) : Ev :=
  let s := payloadAt f.payload 0
  let say (c : Code) (e : Ev) := e.answer v f.src .claimPurge s c
  if !v.running then say .notRunning e
  else if s = 0 ∨ 62 < s then say .badItem e
  else say .done (e.dropClaims v s)

end Sys2Proof.Machine
end

