-- ==== Sys2Proof/Machine/Turntable.lean ====
section
/-! DEFINITION. The Turntable Controller (chapter 8), and the station stop state's effects on it (R111). -/

namespace Sys2Proof

/-! ## Geometry and planning arithmetic -/

namespace TurntableCfg

/-- R125: H, half a revolution. -/
def half (g : TurntableCfg) : Nat := g.steps / 2

/-- R126: the configured road `r`. -/
def road (g : TurntableCfg) (r : Nat) : Option RoadCfg := g.roads.getD r none

/-- R136: the position at which end `e` stands at road `r`. -/
def target (g : TurntableCfg) (r : RoadCfg) : BridgeEnd → Nat
  | .a => r.pos
  | .b => (r.pos + g.half) % g.steps

/-- R137: the distance from `c` to `t`, clockwise. -/
def distance (g : TurntableCfg) (c t : Nat) : Nat := (t + g.steps - c) % g.steps

/-- R139: the interval of level `k`, in µs. -/
def interval (g : TurntableCfg) (k : Nat) : Nat := g.i0 - k * (g.i0 - g.i7) / 7

/-- R139: the level of step `j` in a run of `n` steps. -/
def level (g : TurntableCfg) (n j : Nat) : Nat := min 7 (min (j / g.perLevel) ((n - 1 - j) / g.perLevel))

/-- R139: the time of a run of `n` steps, in µs. -/
def runTime (g : TurntableCfg) (n : Nat) : Nat := ((List.range n).map fun j => g.interval (g.level n j)).sum

/-- R140: the polarity at `c` is REVERSED. -/
def reversedAt (g : TurntableCfg) (c : Nat) : Bool := !decide ((c + g.steps - g.polarity) % g.steps < g.half)

/-- R144: the error at an index rise at count `c`. -/
def slipError (g : TurntableCfg) (c : Nat) : Int :=
  (((c + g.steps - g.home + g.half) % g.steps : Nat) : Int) - (g.half : Int)

/-- R142: the steps that homing makes before it fails. -/
def homingLimit (g : TurntableCfg) : Nat := g.steps + g.steps / 8

/-- R126, R134: the ROAD blocks of the roads that face either end of a bridge at `c` (log entry 22). -/
def facingBlocks (g : TurntableCfg) (c : Nat) : List Nat :=
  g.roads.filterMap fun r => match r with
    | some r => if r.pos = c ∨ r.pos = (c + g.half) % g.steps then some r.block else none
    | none => none

end TurntableCfg

end Sys2Proof

namespace Sys2Proof.Machine

/-- R137: the preferred direction for distance `d`. -/
def preferredTurn (g : TurntableCfg) (last : Turn) (d : Nat) : Turn :=
  if d < g.half then .cw else if g.half < d then .ccw else last

/-- R137: a direction is feasible against the winding limit. -/
def feasible (g : TurntableCfg) (u : Int) (d : Nat) : Turn → Bool
  | .cw => decide (u + d ≤ g.limit)
  | .ccw => decide (-(g.limit : Int) ≤ u - ((g.steps - d : Nat) : Int) - g.backlash)

/-- The other direction. -/
def Turn.other : Turn → Turn
  | .cw => .ccw
  | .ccw => .cw

/-- R137: the direction of the main run. -/
def chosenTurn (g : TurntableCfg) (u : Int) (last : Turn) (d : Nat) : Turn :=
  let p := preferredTurn g last d
  if g.limit = 0 ∨ feasible g u d p = true then p else p.other

/-- R137, R138: the plan from position `c` and winding `u` to `t`. A distance of 0 has no runs. -/
def planMove (g : TurntableCfg) (c : Nat) (u : Int) (last : Turn) (t : Nat) : Plan :=
  let d := g.distance c t
  if d = 0 then ⟨.cw, 0, 0⟩
  else match chosenTurn g u last d with
    | .cw => ⟨.cw, d, 0⟩
    | .ccw => ⟨.ccw, g.steps - d + g.backlash, g.backlash⟩

/-! ## Phases, queue and reports -/

/-- R128: the moving phases. -/
def Phase.inMove : Phase → Bool
  | .unlocking | .homing | .moving | .settling | .locking => true
  | .unhomed | .aligned | .unaligned | .fault => false

/-- R133: the phases in which the head is examined. -/
def Phase.resting : Phase → Bool
  | .unhomed | .aligned | .unaligned => true
  | .unlocking | .homing | .moving | .settling | .locking | .fault => false

/-- R169: turntable ready is kept from the phase and the queue. -/
def Ev.keepReady (v : Env) (e : Ev) : Ev :=
  { e with u.biu.ready := v.running && e.u.ttc.phase == .aligned && e.u.ttc.queue.isEmpty }

/-- R128, R133: a change of phase, handed on. -/
def Ev.setPhase (v : Env) (p : Phase) (e : Ev) : Ev :=
  if e.u.ttc.phase = p then e else
    let e := ((e.ttc fun t => { t with phase := p }).keepReady v).callCompose
    let e := if p = .aligned then e.callScan else e
    if p.resting then e.callExamine else e

/-- R131, R133: a change of the move queue, handed on. -/
def Ev.setMoves (v : Env) (f : List MoveRequest → List MoveRequest) (e : Ev) : Ev :=
  ((e.ttc fun t => { t with queue := f t.queue }).keepReady v).callExamine

/-- R132: the outcome of a request is reported to its station, or handed to its button, which QUEUED is not. -/
def Ev.tellMove (v : Env) (s : MoveSource) (o : MoveOutcome) (e : Ev) : Ev := match s, o with
  | .station n, o => e.send v n .turntableReport o.payload
  | .button _, .queued => e
  | .button k, _ => e.endBusy v k

/-- R127, R144: the deck becomes unhomed, and u is no longer kept: it is a free value (log entry 15). -/
def Ev.unhome (e : Ev) : Ev :=
  if e.u.ttc.homed then
    (e.ttc fun t => { t with homed := false, winding := (Config.unkeptWinding e.u.free).toInt }).drawn
  else e

/-! ## The end of a move -/

/-- R149: a fault of kind `k` ends the current move. The requests that it clears are told oldest first (log entry 47). -/
def Ev.tableFault (v : Env) (g : TurntableCfg) (k : FaultKind) (e : Ev) : Ev :=
  let e := e.ttc fun t => { t with
    stepping := none, lockEngage := true, deckPower := false, unlockTime := none, lockTime := none, alignedAt := none }
  let e := (e.unhome.setPhase v .fault).setHolder v g.deck .free
  let e := match e.u.ttc.current with
    | some m => e.tellMove v m.source (.fault k)
    | none => e
  let e := e.ttc fun t => { t with current := none }
  let e := e.u.ttc.queue.foldl (fun e q => e.tellMove v q.source (.fault k)) e
  ((e.setMoves v fun _ => []).link (Link.setTurntableFault k)).writeFault k .turntable

/-- R147: an abort ends. -/
def Ev.abortEnd (v : Env) (g : TurntableCfg) (m : Move) (e : Ev) : Ev :=
  if m.slipped then e.tableFault v g .slip else
    let e := e.ttc fun t => { t with
      stepping := none, alignedAt := none, deckPower := false, unlockTime := none, current := none }
    (e.setPhase v .unaligned).tellMove v m.source (.aborted .stopped)

/-- R140, R143: the end of the last run of the current move: LOCKING, which a confirm that shows engaged already does not
complete (log entry 34). -/
def Ev.lastRunEnds (v : Env) (g : TurntableCfg) (m : Move) (e : Ev) : Ev :=
  (e.ttc fun t => { t with
    stepping := none, reversed := g.reversedAt m.target, lockEngage := true, lockTime := some 0
    current := some { m with run := none } }).setPhase v .locking

/-- R138, R143: a run begins. -/
def Ev.beginRun (v : Env) (m : Move) (turn : Turn) (len : Nat) (p : Phase) (e : Ev) : Ev :=
  (e.ttc fun t => { t with
    stepping := some turn, lastTurn := turn
    current := some { m with run := some ⟨turn, len, 0, none⟩ } }).setPhase v p

/-- R141, R142: the plan is run from its beginning. -/
def Ev.beginPlan (v : Env) (g : TurntableCfg) (m : Move) (e : Ev) : Ev :=
  let t := e.u.ttc
  let p := m.plan.getD (planMove g t.pos t.winding t.lastTurn m.target)
  let m := { m with plan := some p }
  if p.main = 0 then e.lastRunEnds v g m else e.beginRun v m p.turn p.main .moving

/-- R141: the withdrawal of the lock is confirmed. -/
def Ev.unlocked (v : Env) (g : TurntableCfg) (e : Ev) : Ev := match e.u.ttc.current with
  | none => e
  | some m =>
    let e := e.ttc fun t => { t with unlockTime := none }
    if e.u.ttc.homed then e.beginPlan v g m
    else (e.ttc fun t => { t with stepping := some .cw, lastTurn := .cw }).setPhase v .homing

/-! ## Starting a move (R133 to R136) -/

/-- R136: the road and end that a target names, against the aligned record. -/
def resolveTarget (aligned : Option (Nat × BridgeEnd)) : MoveTarget → Option (Nat × BridgeEnd)
  | .road r e => some (r, e)
  | .swap => aligned.map fun x => (x.1, match x.2 with
    | .a => .b
    | .b => .a)

/-- R122: the source of a request as a possession's setter is compared with. -/
def MoveSource.setter : MoveSource → Option Nat
  | .station n => some n
  | .button _ => none

/-- R134: the start conditions for a head from source `s`. -/
def startConditions (v : Env) (u : Units) (g : TurntableCfg) (s : MoveSource) : Bool :=
  let phase := u.ttc.phase
  let holder := (u.block g.deck).holder
  phase.resting && !u.ase.stop.on
    && (holder == .free || phase == .unaligned && holder == .turntable)
    && !u.deckBarred g.deck s.setter
    && (phase != .aligned || (g.facingBlocks u.ttc.pos).all fun b => !(u.block b).occupied)
    && (List.range 64).all fun n => match v.cfg.route n with
      | some r => r.turntable.isNone || (u.route n).state == .idle
      | none => true

/-- R135, R136: the head, resolved to road `r` and end `side`, becomes the current move and starts. -/
def Ev.startMove (v : Env) (g : TurntableCfg) (s : MoveSource) (r : Nat) (side : BridgeEnd) (e : Ev) : Ev :=
  let t := e.u.ttc
  let target := match g.road r with
    | some x => g.target x side
    | none => t.pos
  let m : Move := {
    source := s, road := r, bridge := side, target := target
    halfTurn := t.alignedAt.any fun x => x.1 == r && x.2 != side
    plan := if t.homed then some (planMove g t.pos t.winding t.lastTurn target) else none
    run := none, homing := 0, aborting := false, slipped := false }
  let e := (e.setHolder v g.deck .turntable).stepBack g.deck
  let e := (e.ttc fun t => { t with
    current := some m, deckPower := false, lockEngage := false, unlockTime := some 0 }).setPhase v .unlocking
  if e.u.ttc.confirm.level then e else e.unlocked v g

/-- R133: the head is examined, and the next one after a head that leaves at once; `fuel` is more than the queue
holds. -/
def Ev.examineMoves (v : Env) (g : TurntableCfg) : Nat → Ev → Ev
  | 0, e => e
  | fuel + 1, e =>
    let t := e.u.ttc
    if t.phase.resting && t.current.isNone then
      match t.queue with
      | [] => e
      | q :: _ =>
        match resolveTarget t.alignedAt q.target with
        | none => Ev.examineMoves v g fuel ((e.setMoves v List.tail).tellMove v q.source (.refused .notAligned))
        | some (r, side) =>
          if t.phase = .aligned ∧ t.alignedAt = some (r, side) then
            Ev.examineMoves v g fuel ((e.setMoves v List.tail).tellMove v q.source (.aligned r side))
          else if startConditions v e.u g q.source then (e.setMoves v List.tail).startMove v g q.source r side
          else e
    else e

/-- R133: the examination of the move queue, while RUNNING and with a turntable. -/
def Ev.examineTable (v : Env) (e : Ev) : Ev := match v.running, v.cfg.turntable with
  | true, some g => Ev.examineMoves v g 6 e
  | _, _ => e

/-! ## Completion, lock confirm (R129, R141, R145) -/

/-- R145: the move completes. The head is examined at the end of the event. -/
def Ev.completeMove (v : Env) (g : TurntableCfg) (e : Ev) : Ev := match e.u.ttc.current with
  | none => e
  | some m =>
    let e := (e.ttc fun t => { t with lockTime := none, alignedAt := some (m.road, m.bridge) }).setPhase v .aligned
    let e := if m.halfTurn then e.reverseDeck v g.deck else e
    let e := (e.ttc fun t => { t with deckPower := true }).setHolder v g.deck .free
    (e.ttc fun t => { t with current := none }).callExamine.tellMove v m.source (.aligned m.road m.bridge)

/-- R129: the filtered lock confirm becomes engaged. -/
def Ev.confirmEngaged (v : Env) (g : TurntableCfg) (e : Ev) : Ev :=
  let e := e.ttc fun t => { t with confirm := ⟨true, none⟩ }
  match e.u.ttc.phase with
  | .aligned => e.ttc fun t => { t with deckPower := true }
  | .locking => e.completeMove v g
  | .unhomed | .unaligned | .unlocking | .homing | .moving | .settling | .fault => e

/-- R129, R149: the filtered lock confirm becomes withdrawn. -/
def Ev.confirmWithdrawn (v : Env) (g : TurntableCfg) (e : Ev) : Ev :=
  let e := e.ttc fun t => { t with confirm := ⟨false, none⟩ }
  match e.u.ttc.phase with
  | .unhomed => e.ttc fun t => { t with deckPower := false }
  | .aligned =>
    let e := e.ttc fun t => { t with deckPower := false }
    (e.link (Link.setTurntableFault .lockLost)).writeFault .lockLost .turntable
  | .unlocking => e.unlocked v g
  | .unaligned | .homing | .moving | .settling | .locking | .fault => e

/-- R141, R149: the unlock confirm timer reaches 1 s. -/
def Ev.unlockExpiry (v : Env) (g : TurntableCfg) (e : Ev) : Ev :=
  if e.u.ttc.unlockTime.isSome then e.tableFault v g .unlockTimeout else e

/-- R145, R149: the lock confirm timer reaches 1 s. -/
def Ev.lockExpiry (v : Env) (g : TurntableCfg) (e : Ev) : Ev :=
  if e.u.ttc.lockTime.isSome then e.tableFault v g .lockTimeout else e

/-! ## Abort (R146) -/

/-- R146: the length of the ramp-down of a run, from level `k`. -/
def rampLength (g : TurntableCfg) (x : Run) (k : Nat) : Nat := min (k * g.perLevel) (x.len - x.made)

/-- R146: the level of the last step made in a run; with none made it is 0 (log entry 19). -/
def lastLevel (g : TurntableCfg) (x : Run) : Nat := match x.made with
  | 0 => 0
  | j + 1 => g.level x.len j

/-- R146: the current move ramps down from the last step of run `x`, or ends at once. -/
def Ev.rampDown (v : Env) (g : TurntableCfg) (m : Move) (x : Run) (e : Ev) : Ev :=
  let k := lastLevel g x
  let n := rampLength g x k
  if n = 0 then e.abortEnd v g { m with aborting := true }
  else e.ttc fun t => { t with
    current := some { m with aborting := true, run := some { x with ramp := some (k, n, 0) } } }

/-- R146: the stop state has turned on. -/
def Ev.abortMove (v : Env) (e : Ev) : Ev := match v.cfg.turntable, e.u.ttc.current with
  | some g, some m =>
    if m.aborting then e else
    match e.u.ttc.phase with
    | .unlocking | .homing => e.abortEnd v g { m with aborting := true }
    | .moving | .settling => match m.run with
      | some x => e.rampDown v g m x
      | none => e.abortEnd v g { m with aborting := true }
    | .unhomed | .aligned | .unaligned | .locking | .fault => e
  | _, _ => e

/-! ## Steps (R142 to R144, R146) -/

/-- R127: the position one step on. -/
def stepPos (g : TurntableCfg) (c : Nat) : Turn → Nat
  | .cw => (c + 1) % g.steps
  | .ccw => (c + g.steps - 1) % g.steps

/-- R127: the winding one step on. -/
def stepWinding (u : Int) : Turn → Int
  | .cw => u + 1
  | .ccw => u - 1

/-- R127: one step is made. The winding of an unhomed deck is not kept (log entry 15). -/
def Ev.makeStep (g : TurntableCfg) (turn : Turn) (e : Ev) : Ev :=
  let e := e.ttc fun t => { t with pos := stepPos g t.pos turn }
  if e.u.ttc.homed then e.ttc fun t => { t with winding := stepWinding t.winding turn }
  else (e.ttc fun t => { t with winding := (Config.unkeptWinding e.u.free).toInt }).drawn

/-- R142: a step of homing, `rise` being an index rise after it. -/
def Ev.homingStep (v : Env) (g : TurntableCfg) (m : Move) (rise : Bool) (e : Ev) : Ev :=
  let e := e.makeStep g .cw
  let m := { m with homing := m.homing + 1 }
  if rise then
    let e := e.ttc fun t => { t with
      pos := g.home, winding := (g.home : Int), homed := true, stepping := none, current := some m }
    e.beginPlan v g m
  else
    let e := e.ttc fun t => { t with current := some m }
    if g.homingLimit ≤ m.homing then e.tableFault v g .homeFailed else e

/-- R143: what follows the last step of a run. -/
def Ev.runEnds (v : Env) (g : TurntableCfg) (m : Move) (e : Ev) : Ev :=
  match e.u.ttc.phase, m.plan with
  | .moving, some p => if 0 < p.back then e.beginRun v m .cw p.back .settling else e.lastRunEnds v g m
  | _, _ => e.lastRunEnds v g m

/-- R146: what follows a step of run `x`, which is already ramping down or not. -/
def Ev.afterStep (v : Env) (g : TurntableCfg) (m : Move) (x : Run) (slip : Bool) (e : Ev) : Ev :=
  match x.ramp with
  | some (_, n, i) => if n ≤ i then e.abortEnd v g m else e
  | none =>
    if slip then e.rampDown v g m x
    else if x.len ≤ x.made then e.runEnds v g m
    else e

/-- R143: the run of a move with one more step made. -/
def Run.stepped (x : Run) : Run :=
  { x with made := x.made + 1, ramp := x.ramp.map fun r => (r.1, r.2.1, r.2.2 + 1) }

/-- R144: the index rise of a homed deck finds a slip. -/
def slips (g : TurntableCfg) (t : Turntable) (rise : Bool) : Bool :=
  rise && t.homed && decide (g.slip < (g.slipError t.pos).natAbs)

/-- R143, R144: a step of run `x`. -/
def Ev.runStep (v : Env) (g : TurntableCfg) (m : Move) (x : Run) (rise : Bool) (e : Ev) : Ev :=
  let e := e.makeStep g x.turn
  let slip := slips g e.u.ttc rise
  let x := x.stepped
  let m := { m with run := some x, slipped := m.slipped || slip }
  let e := e.ttc fun t => { t with current := some m }
  let e := if slip then e.unhome else e
  e.afterStep v g m x slip

/-- R142: no step of the current move has been made. -/
def Turntable.untouched (t : Turntable) : Bool := t.current.any fun m =>
  t.phase != .settling && m.homing == 0 && m.run.all fun x => x.made == 0

/-- R142: an index rise: the home sensor active after a step, and inactive at its reading before. That reading is the
one of the step before, and at the first step of a move the sample before it (R129, log entry 18). -/
def indexRise (v : Env) (t : Turntable) (home : HomeSensor) : Bool :=
  home.after && !(if t.untouched then home.before else v.pins.home)

/-- R142, R143: a step interval ends, with the home sensor at `home` before and after the step. -/
def Ev.stepExpiry (v : Env) (g : TurntableCfg) (home : HomeSensor) (e : Ev) : Ev :=
  let rise := indexRise v e.u.ttc home
  match e.u.ttc.phase, e.u.ttc.current with
  | .homing, some m => e.homingStep v g m rise
  | .moving, some m | .settling, some m => match m.run with
    | some x => e.runStep v g m x rise
    | none => e
  | _, _ => e

/-! ## TURNTABLE REQUEST (R130, R132, R150) -/

/-- R130: the target that a MOVE or SWAP names, or the first failing check of 3 and 4. -/
def readTarget (g : TurntableCfg) (p : List Byte) : Except Code MoveTarget :=
  let kind := payloadAt p 0
  if kind = 1 then .ok .swap
  else if kind ≠ 0 then .error .badItem
  else match BridgeEnd.ofValue (payloadAt p 2) with
    | none => .error .badItem
    | some side => if (g.road (payloadAt p 1)).isSome then .ok (.road (payloadAt p 1) side) else .error .badRoad

/-- R150: a request that passes takes the turntable out of FAULT. -/
def Ev.leaveFault (v : Env) (e : Ev) : Ev := if e.u.ttc.phase = .fault then e.setPhase v .unhomed else e

/-- R130: a request joins the tail of the queue. -/
def Ev.queueMove (v : Env) (q : MoveRequest) (e : Ev) : Ev := e.setMoves v fun l => l ++ [q]

/-- R130: the checks that come before the kind: the turntable, or the code of the first failure. -/
def requestTable (v : Env) : Except Code TurntableCfg :=
  if !v.running then .error .notRunning
  else match v.cfg.turntable with
    | some g => .ok g
    | none => .error .noTurntable

/-- R130: a TURNTABLE REQUEST for a move taken. -/
def Ev.moveRequest (v : Env) (f : Frame) (e : Ev) : Ev :=
  let s := MoveSource.station f.src
  match requestTable v with
  | .error c => e.tellMove v s (.refused c)
  | .ok g => match readTarget g f.payload with
    | .error c => e.tellMove v s (.refused c)
    | .ok t =>
      let e := e.leaveFault v
      if 4 ≤ e.u.ttc.queue.length then e.tellMove v s (.refused .full)
      else (e.queueMove v ⟨s, t⟩).tellMove v s .queued

/-- R132: a CANCEL_ALL taken: the removed requests are told, oldest first, and then the sender is answered with their
number, an order that is the model's (log entry 47). -/
def Ev.cancelMoves (v : Env) (f : Frame) (e : Ev) : Ev :=
  let s := MoveSource.station f.src
  match requestTable v with
  | .error c => e.tellMove v s (.refused c)
  | .ok _ =>
    let e := e.leaveFault v
    let removed := e.u.ttc.queue
    let e := if removed.isEmpty then e else e.setMoves v fun _ => []
    let e := removed.foldl (fun e q => if q.source = s then e else e.tellMove v q.source (.cancelled 255)) e
    e.tellMove v s (.cancelled removed.length)

/-! ## The stop state (R108 to R111) -/

/-- R111: the stop state becomes `x`: a change is handed to the board and the buttons, and turning on or off also
to the signals and the turntable. -/
def Ev.setStop (v : Env) (x : StopState) (e : Ev) : Ev :=
  let was := e.u.ase.stop
  if x = was then e else
    let e := { e with u.ase.stop := x }.callCompose
    if x.on = was.on then e else
      let e := e.reevaluateSignals v
      let e := if x.on then e.abortMove v else e.callExamine
      e.testBars v

/-- R109: a ZONE STOP taken. -/
def Ev.zoneStop (v : Env) (f : Frame) (e : Ev) : Ev := e.setStop v (e.u.ase.stop.stopped f.dest)

/-- R110: a ZONE RESUME taken. -/
def Ev.zoneResume (v : Env) (f : Frame) (e : Ev) : Ev := e.setStop v (e.u.ase.stop.resumed f.dest)

end Sys2Proof.Machine
end

