-- ==== Sys2Proof/Machine/Clock.lean ====
section
/-! DEFINITION. The Scale Clock (sections 9.1 and 9.2). -/

namespace Sys2Proof.Machine

/-! ## Rollovers (R152, R153) -/

/-- R152: the minute advances to `m`, and is handed to the Timetable Unit and the board. -/
def Ev.rollTo (v : Env) (m : Nat) (e : Ev) : Ev :=
  ((e.clock fun c => { c with minute := m }).timetableRollover v m).callCompose

/-- R152: a rollover. -/
def Ev.rollover (v : Env) (e : Ev) : Ev := e.rollTo v ((e.u.clock.minute + 1) % 1440)

/-- R153: a CLOCK BEACON to all stations. -/
def Ev.beacon (v : Env) (e : Ev) : Ev :=
  let c := e.u.clock
  e.send v 63 .clockBeacon ([byte c.epoch] ++ bytes16 c.minute ++ bytes16 c.ratio)

/-- R152: the accumulator at a rollover: the remainder. A rollover before the model's count reaches 600,000 leaves
a remainder that is free below q (log entry 14). -/
def Ev.takeRemainder (e : Ev) : Ev :=
  let c := e.u.clock
  if 600000 ≤ c.acc + c.ratio then e.clock fun c => { c with acc := c.acc + c.ratio - 600000 }
  else (e.clock fun c => { c with acc := Config.rolloverRemainder e.u.free % c.ratio }).drawn

/-- R152, R153: the accumulator reaches 600,000. -/
def Ev.scaleRollover (v : Env) (e : Ev) : Ev :=
  if v.running && e.u.clock.state == .running then
    let e := e.takeRemainder.rollover v
    if v.cfg.station.beacon then e.beacon v else e
  else e

/-! ## Settings (R154, R155) -/

/-- R154: epoch `e` is newer than the station's own epoch `o`. -/
def newer (e o : Nat) : Bool :=
  let d := (e + 256 - o) % 256
  decide (1 ≤ d ∧ d ≤ 127)

/-- R151, R171, R175: a change of the clock state is handed to the buttons and the board. -/
def Ev.clockChanged (v : Env) (e : Ev) : Ev := (e.testBars v).callCompose

/-- R154: the ratio, clamped to 10 to 240. -/
def clampRatio (q : Nat) : Nat := max 10 (min q 240)

/-- R154: the adoption of a setting. -/
def Ev.adopt (v : Env) (epoch minute ratio : Nat) (run : Bool) (e : Ev) : Ev :=
  let e := e.clock fun _ => ⟨if run then .running else .stopped, minute % 1440, 0, clampRatio ratio, epoch⟩
  (e.newEpoch v).clockChanged v

/-- R154: a setting of this epoch is adopted. -/
def adopts (c : Clock) (epoch : Nat) : Bool := c.state == .invalid || newer epoch c.epoch

/-- R154: a CLOCK SET taken while RUNNING. -/
def Ev.clockSet (v : Env) (f : Frame) (e : Ev) : Ev :=
  let p := f.payload
  let epoch := payloadAt p 0
  if adopts e.u.clock epoch then
    e.adopt v epoch (word16 (p.getD 1 0) (p.getD 2 0)) (word16 (p.getD 3 0) (p.getD 4 0)) ((p.getD 5 0).getLsbD 0)
  else e

/-- R155: a CLOCK CONTROL that acts makes the clock go from one state to the other. -/
def Ev.clockControl (v : Env) (f : Frame) (was is : ClockState) (e : Ev) : Ev :=
  if e.u.clock.state = was ∧ payloadAt f.payload 0 = e.u.clock.epoch then
    (e.clock fun c => { c with state := is }).clockChanged v
  else e

/-! ## Beacons (R156 to R158) -/

/-- R157, R158: A becomes 0. -/
def Ev.zeroAccumulator (e : Ev) : Ev := e.clock fun c => { c with acc := 0 }

/-- R157: the clock steps forward `k` minutes. -/
def Ev.stepForward (v : Env) (k : Nat) (e : Ev) : Ev :=
  ((List.range k).foldl (fun e _ => e.rollover v) e).zeroAccumulator

/-- R158: the clock jumps forward `k` minutes. -/
def Ev.jumpForward (v : Env) (k : Nat) (e : Ev) : Ev :=
  let m := e.u.clock.minute
  let e := (List.range (k - 1)).foldl (fun e i => e.skipMinute v ((m + 1 + i) % 1440)) e
  (e.rollTo v ((m + k) % 1440)).zeroAccumulator

/-- R156: a beacon of the station's own epoch, `k` minutes ahead. -/
def Ev.follow (v : Env) (k : Nat) (e : Ev) : Ev :=
  if k = 0 then e
  else if k ≤ 15 then e.stepForward v k
  else if k ≤ 719 then e.jumpForward v k
  else e

/-- R156: a CLOCK BEACON taken while RUNNING. -/
def Ev.clockBeacon (v : Env) (f : Frame) (e : Ev) : Ev :=
  let p := f.payload
  let c := e.u.clock
  let epoch := payloadAt p 0
  let minute := word16 (p.getD 1 0) (p.getD 2 0) % 1440
  if adopts c epoch then e.adopt v epoch minute (word16 (p.getD 3 0) (p.getD 4 0)) true
  else if epoch = c.epoch ∧ c.state = .running then e.follow v ((minute + 1440 - c.minute) % 1440)
  else e

end Sys2Proof.Machine
end

