-- ==== Sys2Proof/Machine/Board.lean ====
section
/-! DEFINITION. The Board Driver (sections 10.2 and 10.3): candidates, the five row texts, recomposition and the
display line. Texts are byte values of characters. -/

namespace Sys2Proof.Machine

/-! ## Characters -/

/-- The characters of `Late `. -/
def textLate : List Byte :=
  [0x4C, 0x61, 0x74, 0x65, 0x20]

/-- The characters of `On time`. -/
def textOnTime : List Byte :=
  [0x4F, 0x6E, 0x20, 0x74, 0x69, 0x6D, 0x65]

/-- The characters of `Boarding`. -/
def textBoarding : List Byte :=
  [0x42, 0x6F, 0x61, 0x72, 0x64, 0x69, 0x6E, 0x67]

/-- The characters of `Cancelled`. -/
def textCancelled : List Byte :=
  [0x43, 0x61, 0x6E, 0x63, 0x65, 0x6C, 0x6C, 0x65, 0x64]

/-- The characters of `Trains held - please wait`. -/
def textHeld : List Byte :=
  [0x54, 0x72, 0x61, 0x69, 0x6E, 0x73, 0x20, 0x68, 0x65, 0x6C, 0x64, 0x20, 0x2D, 0x20, 0x70, 0x6C, 0x65, 0x61, 0x73, 0x65, 0x20, 0x77, 0x61, 0x69, 0x74]

/-- The characters of `Turntable turning train `. -/
def textTurningTrain : List Byte :=
  [0x54, 0x75, 0x72, 0x6E, 0x74, 0x61, 0x62, 0x6C, 0x65, 0x20, 0x74, 0x75, 0x72, 0x6E, 0x69, 0x6E, 0x67, 0x20, 0x74, 0x72, 0x61, 0x69, 0x6E, 0x20]

/-- The characters of `Turntable turning`. -/
def textTurning : List Byte :=
  [0x54, 0x75, 0x72, 0x6E, 0x74, 0x61, 0x62, 0x6C, 0x65, 0x20, 0x74, 0x75, 0x72, 0x6E, 0x69, 0x6E, 0x67]

/-- The characters of `Layout clock not set`. -/
def textNotSet : List Byte :=
  [0x4C, 0x61, 0x79, 0x6F, 0x75, 0x74, 0x20, 0x63, 0x6C, 0x6F, 0x63, 0x6B, 0x20, 0x6E, 0x6F, 0x74, 0x20, 0x73, 0x65, 0x74]

/-- The characters of `Layout clock stopped`. -/
def textClockStopped : List Byte :=
  [0x4C, 0x61, 0x79, 0x6F, 0x75, 0x74, 0x20, 0x63, 0x6C, 0x6F, 0x63, 0x6B, 0x20, 0x73, 0x74, 0x6F, 0x70, 0x70, 0x65, 0x64]

/-- The characters of `Layout time `. -/
def textLayoutTime : List Byte :=
  [0x4C, 0x61, 0x79, 0x6F, 0x75, 0x74, 0x20, 0x74, 0x69, 0x6D, 0x65, 0x20]

/-- The characters of `--:--`. -/
def textNoTime : List Byte :=
  [0x2D, 0x2D, 0x3A, 0x2D, 0x2D]

/-- The character of a decimal digit. -/
def digit (n : Nat) : Byte := byte (48 + n % 10)

/-- A number below 1000 in decimal without leading zeros. -/
def decimal (n : Nat) : List Byte :=
  if n < 10 then [digit n]
  else if n < 100 then [digit (n / 10), digit n]
  else [digit (n / 100), digit (n / 10), digit n]

/-- A scale minute as hh:mm. -/
def clockText (m : Nat) : List Byte := [digit (m / 600), digit (m / 60), 0x3A, digit (m % 60 / 10), digit (m % 60)]

/-- A text left-aligned in `n` characters, padded with spaces. -/
def padTo (n : Nat) (t : List Byte) : List Byte := (t ++ List.replicate n 0x20).take n

/-! ## Candidates (R176) -/

/-- R164: an entry is late. -/
def Entry.late (x : Entry) : Bool := (x.status == .due || x.status == .ready) && x.passed

/-- R176: an entry that is not late is coming, at minute `m`. A CANCELLED entry of a fixed hour is a candidate by
the table's horizon alone, on the next day too; a passed one of ANY hour is a point the rule leaves in doubt (log
entry 36). -/
def Entry.coming (m : Nat) (x : Entry) : Bool :=
  decide (x.cfg.until m ≤ 120) && match x.status with
    | .waiting => x.cfg.kind != .onDemand
    | .due | .ready => !x.late
    | .cancelled => x.cfg.hour.isSome || !x.passed || Config.passedCancelledShows
    | .departed | .missed => false

/-- R176: the place of a candidate in the order: late entries before coming ones, greatest delay or fewest minutes
first. -/
def Entry.place (m : Nat) (x : Entry) : Option Nat :=
  if x.late then some (1440 - x.cfg.delay m)
  else if x.coming m then some (2000 + x.cfg.until m)
  else none

/-- A candidate set before those of a later place; equal places keep their order. -/
def insertPlace (x : Nat × Entry) : List (Nat × Entry) → List (Nat × Entry)
  | [] => [x]
  | y :: ys => if x.1 < y.1 then x :: y :: ys else y :: insertPlace x ys

/-- R176: the candidates in order, ties to the lower entry number; none while the clock is INVALID. -/
def Units.candidates (u : Units) : List Entry :=
  if u.clock.state = .invalid then []
  else
    let places := u.entries.filterMap fun x => x.bind fun x => (x.place u.clock.minute).map fun p => (p, x)
    (places.foldl (fun l x => insertPlace x l) []).map Prod.snd

/-! ## Row texts (R177, R178) -/

/-- R177: the departure time of a row. -/
def Entry.rowTime (m : Nat) (x : Entry) : Nat :=
  if x.late then (m + 1440 - x.cfg.delay m) % 1440 else (m + x.cfg.until m) % 1440

/-- R177: the status field. -/
def Entry.statusText (m : Nat) (x : Entry) : List Byte :=
  if x.late then textLate ++ decimal (min (x.cfg.delay m) 99)
  else match x.status with
    | .waiting | .due => textOnTime
    | .ready => textBoarding
    | .cancelled => textCancelled
    | .departed | .missed => []

/-- R177: a departure row. -/
def Entry.row (c : Config) (m : Nat) (x : Entry) : List Byte :=
  clockText (x.rowTime m) ++ [0x20]
    ++ padTo 14 (if x.cfg.dest < 32 then c.texts.getD x.cfg.dest [] else []) ++ [0x20]
    ++ [if x.cfg.platform ≤ 9 then digit x.cfg.platform else 0x3F] ++ [0x20]
    ++ padTo 9 (x.statusText m)

/-- R178: the known tag that the message row names during a move. -/
def turningTag (v : Env) (u : Units) : Option Nat :=
  let t := match u.trk.carry, v.deck with
    | some c, _ => c.tag
    | none, some d => (u.block d).tag
    | none, none => .none
  match t with
  | .known n => some n
  | .none | .unknown => none

/-- R178: the message row, the first that applies. -/
def messageRow (v : Env) (u : Units) : List Byte :=
  if u.ase.stop.on then textHeld
  else if v.cfg.turntable.isSome && u.ttc.phase.inMove then match turningTag v u with
    | some n => textTurningTrain ++ decimal n
    | none => textTurning
  else match u.clock.state with
    | .invalid => textNotSet
    | .stopped => textClockStopped
    | .running => textLayoutTime ++ clockText u.clock.minute

/-- R178: the clock row. -/
def clockRow (u : Units) : List Byte :=
  (if u.clock.state = .invalid then textNoTime else clockText u.clock.minute)
    ++ [if u.ase.stop.on then 0x2A else 0x20]

/-- R175: the texts of rows 1 to 5. -/
def composeRows (v : Env) (u : Units) : List (List Byte) :=
  let c := u.candidates.map (Entry.row v.cfg u.clock.minute)
  [c.getD 0 [], c.getD 1 [], c.getD 2 [], messageRow v u, clockRow u].map (padTo 32)

/-! ## Recomposition and the display line (R175, R180) -/

/-- R175: a row takes its new text, and is dirty where that differs from the sent image. -/
def Row.compose (x : Row) (text : List Byte) : Row :=
  { x with image := text, dirty := x.dirty || x.sent != some text }

/-- R175: the five rows are recomposed. -/
def Ev.recompose (v : Env) (e : Ev) : Ev :=
  { e with u.bdr.rows := List.zipWith Row.compose e.u.bdr.rows (composeRows v e.u) }

/-- R180: a row begins to be sent. -/
def Row.send (x : Row) : Row := { x with sent := some x.image, dirty := false }

/-- R175, R180: while the line is idle, the lowest dirty row is begun, from LOADING onward. -/
def Board.beginSend (st : Station) (d : Board) : Board :=
  if st = .powerUp ∨ d.line.isSome then d
  else match d.rows.findIdx? fun x => x.dirty with
    | some i => { d with rows := d.rows.modify i Row.send, line := some ⟨i, (d.rows.getD i .initial).image⟩ }
    | none => d

/-- R180 within an event. -/
def Ev.sendRows (v : Env) (e : Ev) : Ev := { e with u.bdr := e.u.bdr.beginSend v.sys.station }

/-- R180: the end byte of a row frame has gone. -/
def Ev.rowSent (e : Ev) : Ev := { e with u.bdr.line := none }

/-- R180: the refresh timer expires: every row is dirty, and the timer counts afresh. -/
def Ev.refreshRows (e : Ev) : Ev :=
  if e.u.bdr.refresh.isSome then
    { e with u.bdr.rows := e.u.bdr.rows.map (fun x => { x with dirty := true }), u.bdr.refresh := some 0 }
  else e

/-- R179: the frame of the row being sent, as bytes on the display line. -/
def Board.lineFrame (d : Board) : Option (List Byte) := d.line.map fun x =>
  [byte (0x31 + x.row)] ++ x.text ++ [0x0D]

end Sys2Proof.Machine
end

