-- ==== Sys2Proof/Machine/Mirrors.lean ====
section
/-! DEFINITION. The Mirror Table (R12 to R18) and the marking of all published items (R11). -/

namespace Sys2Proof.Machine

/-- The Mirror Table takes reports, and its timers run, while the station is ANNOUNCING or RUNNING (R12). -/
def Sys.mirrors (y : Sys) : Bool := y.station == .announcing || y.station == .running
/-- R12 within an event. -/
def Env.mirrors (v : Env) : Bool := v.sys.mirrors

/-! ## Changes (R13) -/

/-- R13, R71, R103: block mirror `i` changes; approach control acts, and an approach hold whose approach block has
become FRESH and CLEAR ends, of several the lowest route first (log entry 42). -/
def Ev.changeBMirror (v : Env) (i : Nat) (f : BlockMirror → BlockMirror) (e : Ev) : Ev :=
  let was := e.u.refOccupied (.mirror i)
  let e := (e.setBMirror i f).approachChanged v (.mirror i)
  if was && !e.u.refOccupied (.mirror i) then
    (List.range 64).foldl (fun e n => e.approachCleared v (.mirror i) n) e
  else e

/-- R13, R102: signal mirror `i` changes; the signals whose route ends at it wait for re-evaluation. -/
def Ev.changeSMirror (v : Env) (i : Nat) (f : SignalMirror → SignalMirror) (e : Ev) : Ev :=
  (e.setSMirror i f).reachBehind v (.mirror i)

/-! ## Reports (R14, R15, R18) -/

/-- R14, R18: the freshness and timer that a report gives: FRESH from zero, unless it preceded a loss. -/
def reportFreshness (precedes : Bool) (f : Freshness) (t : Timer) : Freshness × Timer :=
  if precedes then (f, t) else (.fresh, some 0)

/-- R14, R18: a block mirror takes an item of a report. -/
def BlockMirror.take (precedes occupied : Bool) (t : Tag) (d : Dir) (m : BlockMirror) : BlockMirror :=
  let f := reportFreshness precedes m.freshness m.lapse
  ⟨f.1, f.2, occupied, if occupied then t else .none, if occupied then d else .unknown⟩

/-- R15, R18: a signal mirror takes an item of a report. -/
def SignalMirror.take (precedes : Bool) (rank : Nat) (top dark : Bool) (m : SignalMirror) : SignalMirror :=
  let f := reportFreshness precedes m.freshness m.lapse
  ⟨f.1, f.2, rank, top, dark⟩

/-- R14: one item of an OCCUPANCY REPORT of station `s`. -/
def Ev.takeBlockItem (v : Env) (s : Nat) (precedes : Bool) (x : Nat × Bool × Tag × Dir) (e : Ev) : Ev :=
  match v.cfg.bmirrors.idxOf? (some ⟨s, x.1⟩) with
  | some i => e.changeBMirror v i (BlockMirror.take precedes x.2.1 x.2.2.1 x.2.2.2)
  | none => e

/-- R15: one item of an ASPECT REPORT of station `s`. -/
def Ev.takeSignalItem (v : Env) (s : Nat) (precedes : Bool) (x : Nat × Nat × Bool × Bool) (e : Ev) : Ev :=
  match v.cfg.smirrors.idxOf? (some ⟨s, x.1⟩) with
  | some i => e.changeSMirror v i (SignalMirror.take precedes x.2.1 x.2.2.1 x.2.2.2)
  | none => e

/-- R14, R87: an OCCUPANCY REPORT taken: its items first, then the claims made afresh (log entry 43). -/
def Ev.occupancyReport (v : Env) (x : RxFrame) (e : Ev) : Ev :=
  let e := (blockItems x.frame.payload).foldl (fun e y => e.takeBlockItem v x.frame.src x.precedes y) e
  if v.running then e.reclaim v x.frame.src else e

/-- R15, R87: an ASPECT REPORT taken: its items first, then the claims made afresh (log entry 43). -/
def Ev.aspectReport (v : Env) (x : RxFrame) (e : Ev) : Ev :=
  let e := (signalItems x.frame.payload).foldl (fun e y => e.takeSignalItem v x.frame.src x.precedes y) e
  if v.running then e.reclaim v x.frame.src else e

/-! ## Lapse, ANNOUNCE and loss (R16 to R18) -/

/-- R16: the STALE form of a block mirror. -/
def BlockMirror.stale (m : BlockMirror) : BlockMirror := { m with freshness := .stale, lapse := none }
/-- R16: the STALE form of a signal mirror. -/
def SignalMirror.stale (m : SignalMirror) : SignalMirror := { m with freshness := .stale, lapse := none }

/-- R16: the lapse timer of a mirror reaches 20 s. -/
def Ev.mirrorLapse (v : Env) (m : MirrorId) (e : Ev) : Ev := match m with
  | .block i => if (e.u.bmirror i).lapse.isSome then e.changeBMirror v i BlockMirror.stale else e
  | .signal i => if (e.u.smirror i).lapse.isSome then e.changeSMirror v i SignalMirror.stale else e

/-- R17, R18: the configured mirrors whose owner passes the test become STALE. -/
def Ev.staleMirrors (v : Env) (owner : Nat → Bool) (e : Ev) : Ev :=
  let e := (List.range 16).foldl (fun e i =>
    if (v.cfg.bmirror i).any (fun m => owner m.owner) then e.changeBMirror v i BlockMirror.stale else e) e
  (List.range 8).foldl (fun e i =>
    if (v.cfg.smirror i).any (fun m => owner m.owner) then e.changeSMirror v i SignalMirror.stale else e) e

/-- R17, R11, R86, R94, R117: an ANNOUNCE taken: mirrors, marks, claims of both sides and watches, in this order (log
entry 7). -/
def Ev.announce (v : Env) (f : Frame) (e : Ev) : Ev :=
  let e := e.staleMirrors v fun s => s == f.src
  if v.running then
    (((e.publishAll v).announcedOwner v f.src).dropClaims v f.src).dropWatches f.src
  else e

/-- R11, R194: a REFRESH QUERY taken: marks while RUNNING. -/
def Ev.refreshQuery (v : Env) (e : Ev) : Ev := e.publishAll v

/-- R11: the republish timer expires. -/
def Ev.republish (v : Env) (e : Ev) : Ev :=
  if e.u.bkt.republish.isSome then { e.publishAll v with u.bkt.republish := some 0 } else e

end Sys2Proof.Machine
end

