-- ==== Sys2Proof/Machine/Reception.lean ====
section
/-! DEFINITION. Reception (R183 to R187), the transmitter and its arbiter (R188 to R192), and STATUS QUERY (R195). -/

namespace Sys2Proof.Machine

/-! ## Reception -/

/-- R181: the receiver works in this station state. -/
def Env.listens (v : Env) : Bool := v.sys.station != .powerUp && v.sys.station != .loading

/-- R183 check 4: a destination is this station's. -/
def Env.isMine (v : Env) (dest : Nat) : Bool :=
  v.sys.number == some dest || dest == 63 || (decide (64 ≤ dest) && v.cfg.station.groupMask.getLsbD (dest - 64))

/-- R187 step 2: the reports that wait are marked as preceding the loss. -/
def RxFrame.markLoss (x : RxFrame) : RxFrame :=
  if x.frame.kind = .occupancyReport ∨ x.frame.kind = .aspectReport then { x with precedes := true } else x

/-- R187 step 3: a REFRESH QUERY to all stations, unless one waits. -/
def Ev.askRefresh (v : Env) (e : Ev) : Ev :=
  if e.u.lnk.ordinary.any fun f => f.kind == .refreshQuery then e else e.send v 63 .refreshQuery []

/-- R187: the receive queue is full. -/
def Ev.receiveOverflow (v : Env) (e : Ev) : Ev :=
  let e := e.link Link.raiseMissed
  if v.sys.station = .configFault then e
  else
    let e := e.staleMirrors v fun _ => true
    let e := e.link fun l => { l with rx := l.rx.map RxFrame.markLoss }
    (e.askRefresh v).link (Link.pend .link)

/-- R89, R183 check 7: a frame takes its place at the tail of the receive queue, with its arrival list entry. -/
def Ev.place (f : Frame) (e : Ev) : Ev :=
  let a := e.u.clu.reception.map (·.blocks)
  let e := e.link fun l => { l with rx := l.rx ++ [⟨f, false, a⟩] }
  { e with u.clu.reception := none }

/-- R183: what the checks of a frame that has ended come to. -/
inductive Verdict where
  | badFraming
  | badCrc
  | clash
  | notForUs
  | full
  | placed (f : Frame)
deriving DecidableEq, Repr

/-- R183: the checks, in order, on the bytes of a frame that has ended. A station with no number takes no frame
(R197, log entry 33). -/
def judge (v : Env) (waiting : Nat) (bytes : List Byte) (broken : Bool) : Verdict :=
  match receive bytes broken with
  | .badFraming => .badFraming
  | .badCrc => .badCrc
  | .whole dest src code payload =>
    if v.sys.number = none then .notForUs
    else if v.sys.number = some src then .clash
    else if !v.isMine dest then .notForUs
    else match FrameKind.ofCode code with
      | none => .notForUs
      | some k =>
        if !k.takes payload.length then .notForUs
        else if 8 ≤ waiting then .full
        else .placed ⟨dest, src, k, payload⟩

/-- R183: the action of a verdict, the clash apart. -/
def Ev.received (v : Env) (x : Verdict) (e : Ev) : Ev := match x with
  | .badFraming => (e.receptionLost v).link Link.raiseFraming
  | .badCrc => (e.receptionLost v).link Link.raiseCrc
  | .clash => e
  | .notForUs => e.receptionLost v
  | .full => (e.receptionLost v).receiveOverflow v
  | .placed f => e.place f

/-! ## The arbiter (R191, R192) -/

/-- R191: an OCCUPANCY REPORT of the lowest marked blocks, up to 8. -/
def buildBlocks (n : Nat) (u : Units) : InHand :=
  let bs := u.lnk.markBlocks.take 8
  ⟨⟨63, n, .occupancyReport, bs.flatMap fun b => blockItem b (u.block b)⟩, .blocks bs, 1, none, false⟩

/-- R191: an ASPECT REPORT of the lowest marked signals, up to 8. -/
def buildSignals (n : Nat) (u : Units) : InHand :=
  let ns := u.lnk.markSignals.take 8
  ⟨⟨63, n, .aspectReport, ns.flatMap fun k => signalItem k (u.signal k)⟩, .signals ns, 1, none, false⟩

/-- R192: a STATION NOTICE from a slot, with what returns if it is given up. -/
def buildNotice (v : Env) (n : Nat) (l : Link) (k : Notice) : InHand :=
  let frame (p : List Byte) : Frame := ⟨v.noticeGroup, n, .stationNotice, p⟩
  match k with
  | .fault => ⟨frame l.faults.payload, .faultNotice l.faults, 1, none, false⟩
  | .tracking => ⟨frame l.tracking.payload, .trackingNotice l.tracking, 1, none, false⟩
  | .link => ⟨frame l.counters.noticePayload, .linkNotice, 1, none, false⟩

/-- R192: the slot is empty and leaves the order. -/
def Link.emptySlot (k : Notice) (l : Link) : Link :=
  let l := { l with order := l.order.filter fun x => x != k }
  match k with
  | .fault => { l with faults := .empty }
  | .tracking => { l with tracking := .empty }
  | .link => l

/-- R188: a frame becomes the frame in hand, and its start bit drives the line. -/
def Link.takeInHand (x : InHand) (l : Link) : Link := { l with inHand := some x, idle := .driven }

/-- R191: the arbiter takes the first source that has something to send; in CONFIG_FAULT only the queue may
(R198, log entry 28). -/
def arbitrate (v : Env) (n : Nat) (u : Units) : Link :=
  let l := u.lnk
  let publishes := v.sys.station != .configFault
  if publishes && !l.markBlocks.isEmpty then
    ({ l with markBlocks := l.markBlocks.drop 8 }).takeInHand (buildBlocks n u)
  else if publishes && !l.markSignals.isEmpty then
    ({ l with markSignals := l.markSignals.drop 8 }).takeInHand (buildSignals n u)
  else match l.ordinary with
    | f :: rest => ({ l with ordinary := rest }).takeInHand ⟨f, .ordinary, 1, none, false⟩
    | [] => match publishes, l.order with
      | true, k :: _ => (l.emptySlot k).takeInHand (buildNotice v n l k)
      | _, _ => l

/-- R188: the transmitter sends in this station state. -/
def Env.transmits (v : Env) : Bool := v.listens

/-- R188: with no frame in hand and the line idle for a gap, what may be sent is sent. -/
def offer (v : Env) (u : Units) : Link :=
  let l := u.lnk
  match v.sys.number with
  | none => l
  | some n =>
    if !v.transmits || l.inHand.isSome then l
    else match l.idle, l.urgent with
      | .urgentGap, f :: rest | .ordinaryGap, f :: rest =>
        ({ l with urgent := rest }).takeInHand ⟨f, .urgent, 1, none, false⟩
      | .ordinaryGap, [] => arbitrate v n u
      | _, _ => l

/-- R188 within an event. -/
def Ev.offerFrames (v : Env) (e : Ev) : Ev := { e with u.lnk := offer v e.u }

/-! ## Gaps, sending and collisions (R188, R189) -/

/-- R188: the line's idle time reaches the urgent gap. -/
def Ev.urgentGap (e : Ev) : Ev := e.link fun l => if l.idle = .below then { l with idle := .urgentGap } else l
/-- R188: the line's idle time reaches the ordinary gap; a driven line has none. -/
def Ev.ordinaryGap (e : Ev) : Ev := e.link fun l => if l.idle = .driven then l else { l with idle := .ordinaryGap }

/-- R188: the last CRC byte of the frame in hand has gone out. -/
def Ev.frameSent (e : Ev) : Ev := match e.u.lnk.inHand with
  | some x => if x.backoff.isNone then e.link fun l => { l with inHand := none, idle := .below } else e
  | none => e

/-- R189: what becomes of the contents of a frame given up. -/
def Link.giveBack (o : Origin) (l : Link) : Link := match o with
  | .blocks items => { l with markBlocks := setUnion items l.markBlocks }
  | .signals items => { l with markSignals := setUnion items l.markSignals }
  | .faultNotice c => l.returnFaults c
  | .trackingNotice c => l.returnTracking c
  | .linkNotice => l.pend .link
  | .urgent | .ordinary => l

/-- R189: the number of slots drawn after collision `n`: below 2^m, m the smaller of n and 5 (log entry 13). -/
def backoffSlots (free n : Nat) : Nat := Config.backoffDraw free % 2 ^ min n 5

/-- R188, R189: the frame in hand meets a mismatch. At a give-up the LINK slot becomes pending before a notice's contents
return to their slot, which decides the pending order when both were empty: the model's choice (log entry 50). -/
def Ev.collision (e : Ev) : Ev := match e.u.lnk.inHand with
  | none => e
  | some x =>
    if x.backoff.isSome then e
    else if x.last then e.link fun l => { l with inHand := none }
    else if 10 ≤ x.attempts then
      e.link fun l => ({ l with inHand := none }).raiseGiveUp.giveBack x.origin
    else
      (e.link fun l => { l with inHand := some { x with backoff := some (backoffSlots e.u.free x.attempts) } }).drawn

/-- R189: the line has been idle for the gap and the backoff: the frame is tried again, unchanged. While another
frame drives the line there is no such moment. -/
def Ev.backoffRetry (e : Ev) : Ev := match e.u.lnk.inHand with
  | some x =>
    if x.backoff.isSome ∧ e.u.lnk.idle ≠ .driven then
      e.link (Link.takeInHand { x with attempts := x.attempts + 1, backoff := none })
    else e
  | none => e

/-! ## STATUS QUERY (R195) -/

/-- Section 11.7: the station states. -/
def Station.value : Station → Nat
  | .powerUp => 0 | .loading => 1 | .configFault => 2 | .announcing => 3 | .running => 4

/-- Section 11.7: the clock states. -/
def ClockState.value : ClockState → Nat
  | .invalid => 0 | .stopped => 1 | .running => 2

/-- Section 11.7: the phases. -/
def Phase.value : Phase → Nat
  | .unhomed => 0 | .aligned => 1 | .unaligned => 2 | .unlocking => 3 | .homing => 4 | .moving => 5
  | .settling => 6 | .locking => 7 | .fault => 8

/-- Section 11.7: the progress of a claimed block. -/
def Progress.value : Progress → Nat
  | .notEntered => 0 | .entered => 1 | .released => 2 | .stuck => 3

/-- Section 11.7: the kinds of a watch entry. -/
def WatchKind.value : WatchKind → Nat
  | .watch => 0 | .pending => 1 | .active => 2

/-- Page 0. -/
def page0 (v : Env) : List Byte :=
  [0, byte v.sys.station.value] ++ bytes16 v.sys.crc.toNat
    ++ [byte v.sys.cause.value, if v.sys.station = .configFault then 1 else 0]
    ++ (List.range 8).map (fun k => (v.cfg.station.groupMask.extractLsb' (8 * k) 8))
    ++ [byte v.cfg.station.noticeGroup, if v.sys.turntableFlag then 1 else 0]

/-- Page 1. -/
def page1 (c : Counters) : List Byte := [1, byte c.crc, byte c.framing, byte c.missed, byte c.giveUp, byte c.overflow]

/-- Page 2. -/
def page2 (r : FaultRecord) : List Byte :=
  [2, byte r.kind.value] ++ r.item.bytes ++ minuteBytes r.minute ++ [byte r.count]

/-- Page 3. -/
def page3 (v : Env) (c : Clock) : List Byte :=
  [3, byte c.state.value] ++ bytes16 c.minute ++ bytes16 c.ratio
    ++ [byte c.epoch, if v.cfg.station.beacon then 1 else 0]

/-- Page 4: one record of the claim table. -/
def claimBytes (x : ClaimRecord) : List Byte :=
  [byte x.requester, byte x.tag, byte x.dir.value, byte x.blocks.length, byte (x.blocks.getD 0 0),
    byte (x.blocks.getD 1 0),
    byte ((x.progress.getD 0 .notEntered).value + 4 * (x.progress.getD 1 .notEntered).value)]

/-- Page 4. -/
def page4 (t : List ClaimRecord) (first : Nat) : List Byte :=
  [4, byte t.length] ++ ((t.drop first).take 4).flatMap claimBytes

/-- Page 5: one entry. -/
def watchBytes : Option Watch → List Byte
  | some w => [byte w.setter, byte w.kind.value, byte w.first, byte w.last, w.mask]
  | none => [0, 0, 0, 0, 0]

/-- Page 5: the four entries from W4 for a first index of 4, and otherwise from W0. -/
def page5 (ws : List (Option Watch)) (first : Nat) : List Byte :=
  let k := if first = 4 then 4 else 0
  [5, byte k] ++ ((ws.drop k).take 4).flatMap watchBytes

/-- Page 6. -/
def page6 (v : Env) (t : Turntable) : List Byte :=
  let aligned := match t.alignedAt with
    | some (r, e) => [byte r, byte e.value]
    | none => [0xFF, 0]
  let u := (BitVec.ofInt 32 t.winding).toNat
  [6, if v.cfg.turntable.isSome then byte t.phase.value else 0xFF] ++ aligned
    ++ [if t.homed then 1 else 0] ++ bytes16 t.pos ++ bytes16 (u / 65536) ++ bytes16 u ++ [byte t.queue.length]

/-- R195: the payload of the reply for a page. -/
def statusPage (v : Env) (u : Units) (page first : Nat) : List Byte := match page with
  | 0 => page0 v
  | 1 => page1 u.lnk.counters
  | 2 => page2 u.record
  | 3 => page3 v u.clock
  | 4 => page4 u.clu.table first
  | 5 => page5 u.watches first
  | _ => page6 v u.ttc

/-- R195: a STATUS REPLY, and the clear that a query of page 1 may ask for. The clear comes after the loss of a
reply that finds the queue full (log entry 38). -/
def Ev.statusReply (v : Env) (f : Frame) (e : Ev) : Ev :=
  let page := payloadAt f.payload 0
  let e := e.send v f.src .statusReply (statusPage v e.u page (payloadAt f.payload 1))
  if page = 1 ∧ (f.payload.getD 2 0).getLsbD 0 = true then e.link Link.clearCounters else e

/-- R195, R198: a STATUS QUERY taken. -/
def Ev.statusQuery (v : Env) (f : Frame) (e : Ev) : Ev :=
  let page := payloadAt f.payload 0
  if v.sys.number ≠ some f.dest then e
  else if v.sys.station = .configFault then
    if page ≤ 3 then e.statusReply v f
    else if page ≤ 6 then e.answer v f.src .statusQuery page .notRunning
    else e
  else if page ≤ 6 then e.statusReply v f
  else e.answer v f.src .statusQuery page .badItem

end Sys2Proof.Machine
end

