-- ==== Sys2Proof/Machine/Panel.lean ====
section
/-! DEFINITION. The Button Input Unit's presses, filters, guard and lamps (R170 to R174), the Detector Input Unit
(R1), and the events that detectors raise (R6). -/

namespace Sys2Proof.Machine

/-! ## Presses (R172 to R174) -/

/-- R171: a button becomes BUSY, its lamp flashing from on. -/
def Button.busy (x : Button) : Button := { x with state := .busy, flash := some (0, true) }

/-- R172: a press of an ARMED DEPART button that serves entry `i`. -/
def Ev.pressDepart (v : Env) (k i : Nat) (e : Ev) : Ev := match e.u.judgeDemand i k with
  | .taken => (e.setButton k Button.busy).demand v i k
  | .full | .refused => e

/-- R173: a press of an ARMED TURNTABLE_SHOW button. -/
def Ev.pressShow (v : Env) (k : Nat) (e : Ev) : Ev :=
  let deck := v.deck.any fun d => (e.u.block d).occupied
  if e.u.biu.ready && deck then (e.setButton k Button.busy).queueMove v ⟨.button k, .swap⟩ else e

/-- R174: a press of an ARMED STOP_PLUNGER button. -/
def Ev.pressStop (v : Env) (e : Ev) : Ev := e.setStop v { e.u.ase.stop with plunger := true }

/-- R171: a press event of button `k`. -/
def Ev.press (v : Env) (k : Nat) (e : Ev) : Ev :=
  let c := v.cfg.button k
  match (e.u.button k).state, c.kind with
  | .armed, .depart => e.pressDepart v k c.entry
  | .armed, .turntableShow => e.pressShow v k
  | .armed, .stopPlunger => e.pressStop v
  | _, _ => e

/-! ## Filters and timers (R170, R171) -/

/-- R170: a button's filter at a sample. -/
def Button.sample (level : Bool) (x : Button) : Button := match x.filter, level with
  | .released, true => { x with filter := .pressing, timer := some 0 }
  | .pressing, false => { x with filter := .released, timer := none }
  | .pressed, false => { x with filter := .releasing, timer := some 0 }
  | .releasing, true => { x with filter := .pressed, timer := none }
  | _, _ => x

/-- R170: the input of a used button is sampled. -/
def Ev.buttonInput (v : Env) (k : Nat) (level : Bool) (e : Ev) : Ev :=
  if (v.cfg.button k).kind = .unused then e else e.setButton k (Button.sample level)

/-- R170: the press filter reaches 20 ms. -/
def Ev.pressExpiry (v : Env) (k : Nat) (e : Ev) : Ev :=
  if (e.u.button k).filter = .pressing then
    (e.setButton k fun x => { x with filter := .pressed, timer := none }).press v k
  else e

/-- R170: the release filter reaches 20 ms. -/
def Ev.releaseExpiry (k : Nat) (e : Ev) : Ev :=
  if (e.u.button k).filter = .releasing then
    e.setButton k fun x => { x with filter := .released, timer := none }
  else e

/-- R171: the guard timer of button `k` reaches its guard time. -/
def Ev.guardExpiry (k : Nat) (e : Ev) : Ev :=
  if (e.u.button k).guard.isSome then e.setButton k (Button.afterGuard e.u.barred) else e

/-- R171: a half-period of button `k`'s flash ends. -/
def Ev.flashExpiry (k : Nat) (e : Ev) : Ev := match (e.u.button k).flash with
  | some (_, on) => e.setButton k fun x => { x with flash := some (0, !on) }
  | none => e

/-! ## Occupancy events (R6) -/

/-- R6: an OCCUPIED event of block `b`, handed to each unit. -/
def Ev.occupied (v : Env) (b : Nat) (e : Ev) : Ev :=
  let e := ((e.setOccupied v b true).trackOccupied v b).claimsOccupied b
  ((e.routesOccupied v b).occupancyReaches v b).approachChanged v (.here b)

/-- R6: a CLEAR event of block `b`, handed to each unit. -/
def Ev.cleared (v : Env) (b : Nat) (e : Ev) : Ev :=
  let dropped := (e.u.block b).tag
  let e := ((e.setOccupied v b false).trackClear v b).claimsClear v b
  let e := ((e.routesClear v b).arbiterAtClear v b).departures v b dropped
  (e.occupancyReaches v b).approachChanged v (.here b)

/-! ## Detector filters (R1) -/

/-- R1: a filter at a sample. -/
def DetectorFilter.sample (level : Bool) (x : DetectorFilter) : DetectorFilter := match x.state, level with
  | .clear, true => ⟨.rising, some 0⟩
  | .rising, false => ⟨.clear, none⟩
  | .occupied, false => ⟨.falling, some 0⟩
  | .falling, true => ⟨.occupied, none⟩
  | _, _ => x

/-- Changes the filter of detector `n` alone. -/
def Ev.setFilter (n : Nat) (f : DetectorFilter → DetectorFilter) (e : Ev) : Ev :=
  { e with u.filters := e.u.filters.modify n f }

/-- R1, R4: the input of a configured block is sampled. -/
def Ev.detectorInput (v : Env) (n : Nat) (level : Bool) (e : Ev) : Ev :=
  if (v.cfg.block n).kind = .absent then e else e.setFilter n (DetectorFilter.sample level)

/-- R1: the rise filter has counted its time. -/
def Ev.riseExpiry (v : Env) (n : Nat) (e : Ev) : Ev :=
  if (e.u.filter n).state = .rising then (e.setFilter n fun _ => ⟨.occupied, none⟩).occupied v n else e

/-- R1: the drop filter has counted its time. -/
def Ev.dropExpiry (v : Env) (n : Nat) (e : Ev) : Ev :=
  if (e.u.filter n).state = .falling then (e.setFilter n fun _ => ⟨.clear, none⟩).cleared v n else e

end Sys2Proof.Machine
end

