-- ==== Sys2Proof/Machine/Settle.lean ====
section
/-! DEFINITION. The end of an event (log entry 7): what its changes have called for is done once, in one order. -/

namespace Sys2Proof.Machine

/-- R133: the head of the move queue, if the event may have let it start. -/
def Ev.settleMoves (v : Env) (e : Ev) : Ev := if e.examine then e.examineTable v else e

/-- R75: the event's one scan. -/
def Ev.settleScan (v : Env) (e : Ev) : Ev := if e.scan && v.running then e.scanList v else e

/-- R102: the chain of signals; the bound is never met by a chain that settles (log entry 26). -/
def Ev.settleSignals (v : Env) (e : Ev) : Ev := Ev.evaluateAll v 2304 e

/-- R175: the event's one recomposition. -/
def Ev.settleBoard (v : Env) (e : Ev) : Ev := (if e.compose && v.running then e.recompose v else e).sendRows v

/-- The end of an event: moves, scan, possessions, signals, deck carry, notices, board, transmitter. -/
def settle (v : Env) (e : Ev) : Units :=
  let e := ((e.settleMoves v).settleScan v).testPossessions
  let e := ((e.settleSignals v).carryTimer v).notices v
  ((e.settleBoard v).offerFrames v).u

/-- What an event of state `s` reads. -/
def State.env (s : State) : Env := ⟨s.sys, s.pins⟩

/-- One whole event: its changes and its end. Only the units' state changes. -/
def State.event (s : State) (f : Env → Ev → Ev) : State :=
  { s with units := settle s.env (f s.env (.start s.units)) }

/-- An event that comes about only while the station is RUNNING (log entry 3). -/
def State.whenRunning (s : State) (f : Env → Ev → Ev) : State := if s.env.running then s.event f else s

/-- An event that comes about only while the station is ANNOUNCING or RUNNING. -/
def State.whenStarted (s : State) (f : Env → Ev → Ev) : State := if s.env.mirrors then s.event f else s

end Sys2Proof.Machine
end

