-- ==== Sys2Proof/Machine/Image.lean ====
section
/-! DEFINITION. The configuration image's checks (R197): header, CRC, and the range and reference requirements of
every chapter, section by section and record by record. -/

namespace Sys2Proof

/-- R197 check 1: the memory answers every read. -/
def Image.answers (i : Image) : Bool := i.unread.isNone

/-- R197: check 1 on the header, bytes 0 to 25 (section 12.2): no read of it failed. -/
def Image.headerRead (i : Image) : Bool := i.unread.all fun k => decide (26 ≤ k)

end Sys2Proof

namespace Sys2Proof.Machine

/-! ## Header and CRC (checks 2 and 3) -/

/-- Section 12.2: a two-byte header field that begins at byte `k`. -/
def headerField (i : Image) (k : Nat) : Nat := word16 (i.bytes.getD k 0) (i.bytes.getD (k + 1) 0)

/-- Section 12.2: the station number in the header. -/
def headerNumber (i : Image) : Nat := payloadAt i.bytes 1

/-- R197: the header byte named for the two-byte field at byte `k` (log entry 17). -/
def namedByte (k : Nat) : Nat := if Config.headerNamesLowByte k then k + 1 else k

/-- R197 check 2: an offset is valid; 0 only for the turntable section. -/
def offsetOk (i : Image) (k : Nat) : Bool :=
  let o := headerField i k
  (k == 18 && o == 0) || decide (26 ≤ o ∧ o < headerField i 2)

/-- R197 check 2: the bytes at which the ten offsets begin. -/
def offsetBytes : List Nat := [6, 8, 10, 12, 14, 16, 18, 20, 22, 24]

/-- R197 check 2: the header byte of the first failure, if any. -/
def headerFault (i : Image) : Option Nat :=
  if payloadAt i.bytes 0 ≠ 1 then some 0
  else if headerField i 2 < 26 ∨ 8192 < headerField i 2 then some (namedByte 2)
  else if headerNumber i < 1 ∨ 62 < headerNumber i then some 1
  else (offsetBytes.find? fun k => !offsetOk i k).map namedByte

/-- R197 check 3: the bytes that the CRC covers. -/
def crcBytes (i : Image) : List Byte :=
  let bs := (i.bytes ++ List.replicate 8192 0).take (headerField i 2)
  bs.take 4 ++ bs.drop 6

/-! ## Values in range -/

/-- A value is 0, for the default, or in its range and step. -/
def inSteps (lo hi step n : Nat) : Bool := decide (lo ≤ n ∧ n ≤ hi) && n % step == 0

/-- R2: an own filter time, if any, is in range. -/
def ownTimeOk (lo hi step : Nat) (t : Option Nat) : Bool := match t with
  | some n => inSteps lo hi step n
  | none => true

/-- A local block number that is not ABSENT. -/
def localBlock (c : Config) (b : Nat) : Bool := decide (b < 48) && (c.block b).kind != .absent

/-- R8, R95: a block reference names a local block that is not ABSENT, or a configured mirror. -/
def refOk (c : Config) : BlockRef → Bool
  | .here b => localBlock c b
  | .mirror i => decide (i < 16) && (c.bmirror i).isSome

/-- R197: of two records of a list that may not stand together, the one named (log entry 17). -/
def clashes {α : Type} (bad : α → α → Bool) (l : List α) (n : Nat) : Bool := match l[n]? with
  | none => false
  | some x => (l.zipIdx).any fun y =>
      (y.2 != n) && bad x y.1 && if Config.clashNamesLower then decide (n < y.2) else decide (y.2 < n)

/-! ## Records -/

/-- R2, R35, R41, R153: the station section. -/
def stationOk (s : StationCfg) : Bool :=
  (s.rise == 0 || inSteps 10 250 1 s.rise) && (s.drop == 0 || inSteps 100 2550 10 s.drop)
    && inSteps 50 1000 10 s.recharge && (s.confirm == 0 || inSteps 100 2000 10 s.confirm)
    && decide (s.noticeGroup < 64)

/-- R7: a ROAD block's road names it back. -/
def roadNamesBack (c : Config) (b : Nat) (r : Option Nat) : Bool := match r, c.turntable with
  | some r, some g => match g.road r with
    | some x => decide (r < 24) && x.block == b
    | none => false
  | _, _ => false

/-- R7, R8: two blocks that may not stand together: two DECK blocks, or two ROAD blocks naming one road. -/
def blocksClash (x y : BlockCfg) : Bool :=
  (x.kind == .deck && y.kind == .deck) || (x.kind == .road && y.kind == .road && x.road == y.road)

/-- R2, R5, R7, R8, R10: the record of block `b`. Its own times, if any, are in range whatever its kind (R2). -/
def blockOk (c : Config) (b : Nat) (x : BlockCfg) : Bool :=
  ownTimeOk 10 250 1 x.rise && ownTimeOk 100 2550 10 x.drop &&
  if x.kind = .absent then !x.published
  else
    decide (1 ≤ x.neighbours.length ∧ x.neighbours.length ≤ 3)
      && x.neighbours.all (fun r => r != .here b && refOk c r)
      && (x.kind != .deck || c.turntable.isSome)
      && (x.kind != .road || roadNamesBack c b x.road)
      && !clashes blocksClash c.blocks b

/-- R12: a mirror's owner and item. -/
def mirrorOk (own items : Nat) (m : MirrorCfg) : Bool :=
  decide (1 ≤ m.owner ∧ m.owner ≤ 62 ∧ m.item < items) && m.owner != own

/-- R12: two entries naming the same owner item. -/
def mirrorsClash (x y : Option MirrorCfg) : Bool := x.isSome && x == y

/-- R35: a turnout record. -/
def turnoutOk (c : Config) (x : TurnoutCfg) : Bool :=
  localBlock c x.owning && match x.drive with
    | .solenoid => inSteps 20 250 1 x.pulse
    | .motor => inSteps 1000 10000 100 x.timeout

/-- R95: signal `n` is the entry signal of a SLOW route. -/
def entersSlow (c : Config) (n : Nat) : Bool := c.routes.any fun r => match r with
  | some r => r.entry == n && r.speed == .slow
  | none => false

/-- R95: a signal record. -/
def signalOk (c : Config) (n : Nat) (x : SignalCfg) : Bool :=
  inSteps 1 3 1 x.topRank && inSteps 5 120 1 x.releaseTime && inSteps 1 30 1 x.controlTime
    && match x.approach with
      | some r => refOk c r
      | none => !entersSlow c n

/-- R52: two routes from one entry signal with different first path blocks. -/
def routesClash (x y : Option RouteCfg) : Bool := match x, y with
  | some x, some y => x.entry == y.entry && x.path.head? != y.path.head?
  | _, _ => false

/-- R52: an exit signal. -/
def exitOk (c : Config) (entry : Nat) : Option SignalRef → Bool
  | none => true
  | some (.here n) => decide (n < 24) && (c.signal n).isSome && n != entry
  | some (.mirror i) => decide (i < 8) && (c.smirror i).isSome

/-- R52: a foreign part. -/
def foreignOk (own : Nat) (p : ForeignPart) : Bool :=
  decide (1 ≤ p.owner ∧ p.owner ≤ 62 ∧ 1 ≤ p.blocks.length ∧ p.blocks.length ≤ 2 ∧ p.blocks.Nodup)
    && p.owner != own && p.blocks.all fun b => decide (b < 48)

/-- R52: a turntable condition, and the deck block in path and overlap. -/
def conditionOk (c : Config) (r : RouteCfg) : Bool := match c.turntable with
  | none => r.turntable.isNone
  | some g =>
    r.overlap != some g.deck && match r.turntable with
      | some (road, _) => decide (road < 24) && (g.road road).isSome && decide (g.deck ∈ r.path)
      | none => decide (g.deck ∉ r.path)

/-- R51, R52: a route record. -/
def routeOk (c : Config) (own n : Nat) (r : RouteCfg) : Bool :=
  decide (r.entry < 24) && (c.signal r.entry).isSome && r.dir != .unknown
    && decide (1 ≤ r.path.length ∧ r.path.length ≤ 8 ∧ r.path.Nodup) && r.path.all (localBlock c)
    && (match r.overlap with
      | some b => localBlock c b && decide (b ∉ r.path)
      | none => true)
    && decide (r.turnouts.length ≤ 8 ∧ r.flank.length ≤ 4 ∧ ((r.turnouts ++ r.flank).map Prod.fst).Nodup)
    && (r.turnouts ++ r.flank).all (fun x => decide (x.1 < 32) && (c.turnout x.1).isSome)
    && exitOk c r.entry r.exit && r.foreign.all (foreignOk own) && conditionOk c r
    && !clashes routesClash c.routes n

/-- R125: the turntable's geometry. -/
def geometryOk (c : Config) (g : TurntableCfg) : Bool :=
  inSteps 2000 60000 2 g.steps && decide (g.backlash ≤ 255 ∧ g.slip ≤ 255)
    && (g.limit == 0 || decide (g.steps + g.backlash ≤ g.limit ∧ g.limit ≤ 3 * g.steps))
    && decide (g.home < g.steps ∧ g.polarity < g.steps)
    && decide (500 ≤ g.i0 ∧ g.i0 ≤ 20000 ∧ 100 ≤ g.i7 ∧ g.i7 ≤ g.i0 ∧ 1 ≤ g.perLevel ∧ g.perLevel ≤ 255)
    && decide (g.deck < 48) && (c.block g.deck).kind == .deck
    && decide (g.roads.length ≤ 24) && g.roads.any Option.isSome

/-- R126: road `r` of the road table. -/
def roadOk (c : Config) (g : TurntableCfg) (r : Nat) (x : RoadCfg) : Bool :=
  decide (x.pos < g.steps ∧ x.block < 48) && (c.block x.block).kind == .road && (c.block x.block).road == some r

/-- R159, R166: a timetable record (a lead above 15 is out of its range: log entry 29). -/
def entryOk (c : Config) (x : EntryCfg) : Bool :=
  (match x.hour with
    | some h => decide (h < 24)
    | none => true)
    && decide (x.minute < 60 ∧ x.lead ≤ 15 ∧ x.dest ≤ 255 ∧ x.platform ≤ 15)
    && (x.kind == .show || departable c x.route)
    && match x.tag with
      | some t => inSteps 1 999 1 t
      | none => true

/-- R169: a button record. -/
def buttonOk (c : Config) (x : ButtonCfg) : Bool :=
  decide (x.guard ≤ 255) && match x.kind with
    | .depart => decide (x.entry < 48) && (c.timetable.getD x.entry none).any fun y => y.kind == .onDemand
    | .turntableShow => c.turntable.isSome
    | .stopPlunger | .unused => true

/-! ## Sections (check 4) -/

/-- The number of the first record of a list that fails its test, an unused one passing. -/
def firstFault {α : Type} (bound : Nat) (ok : Nat → α → Bool) (l : List α) : Option Nat :=
  (l.zipIdx.find? fun x => !(decide (x.2 < bound) && ok x.2 x.1)).map Prod.snd

/-- A test of a record that may be unused. -/
def ifUsed {α : Type} (ok : Nat → α → Bool) (n : Nat) : Option α → Bool
  | some x => ok n x
  | none => true

/-- R197 check 4 on the mirror section. R197 does not order its two kinds of record; block mirrors before signal mirrors
is the model's choice (log entry 44). -/
def mirrorFault (own : Nat) (c : Config) : Option Byte :=
  ((firstFault 16 (fun n m => ifUsed (fun _ m => mirrorOk own 48 m) n m
      && !clashes mirrorsClash c.bmirrors n) c.bmirrors).map byte).or
    ((firstFault 8 (fun n m => ifUsed (fun _ m => mirrorOk own 24 m) n m
      && !clashes mirrorsClash c.smirrors n) c.smirrors).map Config.signalMirrorRecordNumber)

/-- R197 check 4 on the turntable section: geometry, then roads. -/
def tableFault (c : Config) : Option Byte := match c.turntable with
  | none => none
  | some g =>
    if !geometryOk c g then some Config.geometryRecordNumber
    else (firstFault 24 (ifUsed (roadOk c g)) g.roads).map byte

/-- R197 check 4: the record number of the first failure of each section, in header order. -/
def sectionFaults (own : Nat) (c : Config) : List (Option Byte) :=
  [if stationOk c.station then none else some Config.stationRecordNumber,
   (firstFault 48 (blockOk c) c.blocks).map byte,
   mirrorFault own c,
   (firstFault 32 (ifUsed fun _ x => turnoutOk c x) c.turnouts).map byte,
   (firstFault 24 (ifUsed (signalOk c)) c.signals).map byte,
   (firstFault 64 (ifUsed (routeOk c own)) c.routes).map byte,
   tableFault c,
   (firstFault 48 (ifUsed fun _ x => entryOk c x) c.timetable).map byte,
   (firstFault 32 (fun _ _ => true) c.texts).map byte,
   (firstFault 16 (fun _ x => buttonOk c x) c.buttons).map byte]

/-- R197 check 4: the section and record number of the first failure, if any. -/
def rangeFault (own : Nat) (c : Config) : Option (Nat × Byte) :=
  (sectionFaults own c).zipIdx.findSome? fun x => x.1.map fun n => (x.2, n)

/-! ## The judgement -/

/-- Section 12.2: the records of an image; with no turntable section there is no turntable (log entry 32). -/
def imageConfig (i : Image) : Config :=
  if headerField i 18 = 0 then { i.records with turntable := none } else i.records

/-- R197: the fault kind and item of the first failing check, if any. -/
def imageFault (i : Image) : Option (FaultKind × Item) :=
  if !i.answers then some (.imageRead, .none)
  else match headerFault i with
    | some k => some (.imageHeader, .headerByte k)
    | none =>
      if (crc (crcBytes i)).toNat ≠ headerField i 4 then some (.imageCrc, .none)
      else (rangeFault (headerNumber i) (imageConfig i)).map fun x => (.imageRange, .imageRecord x.1 x.2)

/-- R197: a character outside 0x20 to 0x7E becomes "?". -/
def correctedChar (b : Byte) : Byte := if 0x20 ≤ b.toNat ∧ b.toNat ≤ 0x7E then b else 0x3F

/-- R197: the configuration that an accepted image gives: its records, the texts corrected. -/
def acceptedConfig (i : Image) : Config :=
  let c := imageConfig i
  { c with texts := c.texts.map fun t => t.map correctedChar }

end Sys2Proof.Machine
end

