-- ==== Sys2Proof/Machine/Startup.lean ====
section
/-! DEFINITION. Start-up, restart, configuration fault and entry into RUNNING (chapter 12), and the taking of a
frame from the receive queue (R186). -/

namespace Sys2Proof.Machine

/-! ## Leaving RUNNING or ANNOUNCING -/

/-- R188: a frame whose first bit has gone out runs to its end without a retry; any other is dropped. -/
def lastFrame : Option InHand → Option InHand
  | some x => if x.backoff.isNone then some { x with last := true } else none
  | none => none

/-- R186 to R193: the Link Controller at a restart. -/
def Link.restarted (l : Link) : Link := { Link.initial with inHand := lastFrame l.inHand, idle := l.idle }

/-- R175: the Board Driver at a restart: a row frame that is being sent runs to its end byte. -/
def Board.restarted (d : Board) : Board where
  rows    := List.replicate 5 .initial
  refresh := none
  line    := d.line

/-- R159: the entries of an image, each WAITING with Passed no. -/
def entriesOf (c : Config) : List (Option Entry) :=
  (List.range 48).map fun i => (c.timetable.getD i none).map (Entry.fresh c)

/-- R53, R159: the records that a configuration gives runtime state: routes and timetable entries. -/
def Units.configured (c : Config) (u : Units) : Units :=
  { u with ilk.routes := routesOf c, entries := entriesOf c }

/-- Section 8 of 00_scope.md, R196: every unit's values at a restart: the clock keeps its time (R151), the fault
record stays (R201), the polarity output stays (R127). -/
def Units.restarted (c : Config) (u : Units) : Units :=
  { Units.initial with
    ilk := ⟨routesOf c, []⟩, ttc := .initial u.ttc.reversed, clock := { u.clock with acc := 0 }, entries := entriesOf c
    bdr := u.bdr.restarted, lnk := u.lnk.restarted, record := u.record, free := u.free }

/-- R188: the line as the transmitter sees it when it begins to watch (log entry 24). -/
def Link.watching (l : Link) : Link := { l with idle := if l.inHand.isSome then .driven else .below }

/-- R198, R199: the station's ANNOUNCE, with the fault flag. -/
def Ev.sendAnnounce (v : Env) (fault : Bool) (e : Ev) : Ev := match v.sys.number with
  | some n => e.send v 63 .announce (announcePayload n v.sys.crc v.sys.cause fault)
  | none => e

/-- A change of station state to `y`, with the units' values given and then what the event does. -/
def State.become (s : State) (y : Sys) (u : Units) (f : Env → Ev → Ev) : State :=
  { s with sys := y, units := settle ⟨y, s.pins⟩ (f ⟨y, s.pins⟩ (.start u)) }

/-! ## Power-on, reset pin, supply (R196) -/

/-- R196: POWER_UP with a cause: every unit at its power-on values. -/
def State.powerUp (s : State) (cause : RestartCause) : State :=
  { s with
    sys := { State.reset.sys with cause := cause }
    units := { Units.initial with free := s.units.free } }

/-- R196: the supply has settled: LOADING. -/
def State.supplySettled (s : State) : State :=
  if s.sys.station = .powerUp then s.become { s.sys with station := .loading } s.units fun _ e => e else s

/-! ## The image (R197 to R199) -/

/-- R197, R199: an accepted image: ANNOUNCING. -/
def State.accepted (s : State) (i : Image) : State :=
  let c := acceptedConfig i
  let y : Sys := { s.sys with
    station := .announcing, number := some (headerNumber i), crc := BitVec.ofNat 16 (headerField i 4)
    settle := some 0, turntableFlag := c.turntable.isSome, cfg := c }
  s.become y { s.units.configured c with lnk := s.units.lnk.watching } fun v e => e.sendAnnounce v false

/-- R197: the number of a station whose image is refused: the header's, if the header was read, although a later read or
check failed. -/
def refusedNumber (i : Image) : Option Nat :=
  if i.headerRead ∧ 1 ≤ headerNumber i ∧ headerNumber i ≤ 62 then some (headerNumber i) else none

/-- R195, R198: what a station with a refused image reports of it beside its number is not stated: free values
(log entry 16). -/
def refusedSys (y : Sys) (i : Image) (free : Nat) : Sys :=
  { y with
    station := .configFault, number := refusedNumber i, settle := none
    crc := if i.headerRead then BitVec.ofNat 16 (headerField i 4) else Config.unreadCrc free
    turntableFlag := Config.refusedTurntable free
    cfg := { Config.empty with station := { Config.empty.station with
      groupMask := Config.refusedGroupMask free, noticeGroup := (Config.refusedNoticeGroup free).toNat
      beacon := Config.refusedBeacon free } } }

/-- R197, R198: a refused image: the fault record, CONFIG_FAULT, one ANNOUNCE with the fault flag. -/
def State.refused (s : State) (i : Image) (k : FaultKind) (item : Item) : State :=
  let u := s.units
  let y := refusedSys s.sys i u.free
  s.become y { u.configured y.cfg with lnk := u.lnk.watching } fun v e =>
    (e.drawn.writeFault k item).sendAnnounce v true

/-- R197: the image read completes. -/
def State.imageRead (s : State) (i : Image) : State :=
  if s.sys.station = .loading then
    match imageFault i with
    | none => s.accepted i
    | some (k, item) => s.refused i k item
  else s

/-! ## Restart and address clash (R184, R198, R200) -/

/-- R200: a RESTART is taken in these states, addressed to this station alone. -/
def takesRestart (y : Sys) (f : Frame) : Bool :=
  y.number == some f.dest && (y.station == .announcing || y.station == .running || y.station == .configFault)

/-- R200: the station goes to LOADING. -/
def State.restart (s : State) : State :=
  s.become { s.sys with station := .loading, cause := .restart, settle := none } (s.units.restarted s.sys.cfg)
    fun _ e => e

/-- R12: the mirrors keep their values but at a restart. -/
def Units.keepMirrors (was u : Units) : Units :=
  { u with bkt := { u.bkt with bmirrors := was.bkt.bmirrors, smirrors := was.bkt.smirrors } }

/-- R184, R198: an address clash takes the station to CONFIG_FAULT, every unit as at a restart but the mirrors (log
entry 11); the link counters and the accumulator, which are 0 'at restart' (R193, R151), too (log entry 48). -/
def State.addressClash (s : State) : State :=
  let u := s.units.keepMirrors (s.units.restarted s.sys.cfg)
  s.become { s.sys with station := .configFault, settle := none } { u with lnk := u.lnk.watching } fun v e =>
    match v.sys.number with
    | some n => (e.writeFault .addressClash (.station n)).sendAnnounce v true
    | none => e

/-- R183, R184: a frame ends on the line; the idle time counts from its last stop bit. -/
def State.frameEnd (s : State) (bytes : List Byte) (broken : Bool) : State :=
  let v := s.env
  if !v.listens then s
  else match judge v s.units.lnk.rx.length bytes broken with
    | .clash =>
      if s.sys.station = .configFault then s.event fun _ e => e.link fun l => { l with idle := .below }
      else s.addressClash
    | x => s.event fun v e => (e.received v x).link fun l => { l with idle := .below }

/-! ## Entry into RUNNING (R199) -/

/-- R3, R5: the filter and the record that the start reading of a configured block's detector gives. -/
def Ev.readDetector (b : Nat) (active : Bool) (e : Ev) : Ev :=
  (e.setFilter b fun _ => ⟨if active then .occupied else .clear, none⟩).setBlock b fun x =>
    { x with occupied := active, tag := if active then .unknown else .none, dir := .unknown }

/-- R3, R5: the detectors of the configured blocks are read once. -/
def Ev.readDetectors (v : Env) (e : Ev) : Ev :=
  (List.range 48).foldl (fun e b =>
    if (v.cfg.block b).kind = .absent then e else e.readDetector b (v.pins.detectors.getD b false)) e

/-- R37: a turnout's start values from its contacts; NONE gives UNKNOWN. -/
def Turnout.start (k : Feedback) (normal reverse : Bool) (x : Turnout) : Turnout :=
  let p := proves k normal reverse none
  { x with
    state := restingState p, proven := p, commanded := p.getD .normal
    normalIn := ⟨normal, none⟩, reverseIn := ⟨reverse, none⟩ }

/-- R37, R46: the contacts of each configured turnout are read once, in rising number, so that of several turnouts that
show both contacts the highest stays in the fault record (R201, log entry 46). -/
def Ev.readContacts (v : Env) (e : Ev) : Ev :=
  (List.range 32).foldl (fun e t => match v.cfg.turnout t with
    | none => e
    | some c =>
      let n := v.pins.normals.getD t false
      let r := v.pins.reverses.getD t false
      let e := e.setTurnout t (Turnout.start c.feedback n r)
      if contradicts c.feedback n r then e.enterFailed v t .contactsBoth else e) e

/-- R96, R106: the proving filter of each configured signal starts (log entry 20). -/
def Ev.startProving (v : Env) (e : Ev) : Ev :=
  (List.range 24).foldl (fun e n =>
    if (v.cfg.signal n).isSome then
      e.setSignal n fun g => { g with proving := provingStart g.rank g.dark (v.pins.redLamps.getD n false) }
    else e) e

/-- R127: the lock confirm is read once; deck power is on if it shows engaged. -/
def Ev.readLock (v : Env) (e : Ev) : Ev :=
  if v.cfg.turntable.isSome then
    e.ttc fun t => { t with confirm := ⟨v.pins.lock, none⟩, deckPower := v.pins.lock }
  else e

/-- R169: a used button's start values. -/
def Button.start (k : ButtonKind) (barred active : Bool) (x : Button) : Button := match k with
  | .unused => x
  | .stopPlunger => { x with state := .armed, filter := if active then .pressed else .released }
  | .depart | .turntableShow => { x with
      state := if barred then .disabled else .armed, filter := if active then .pressed else .released }

/-- R169: each used button's input is read once. -/
def Ev.readButtons (v : Env) (e : Ev) : Ev :=
  ((List.range 16).foldl (fun e k =>
    e.setButton k (Button.start (v.cfg.button k).kind e.u.barred (v.pins.buttons.getD k false))) e).keepReady v

/-- R11, R180: the republish and refresh timers start. -/
def Ev.startTimers (e : Ev) : Ev := { e with u.bkt.republish := some 0, u.bdr.refresh := some 0 }

/-- R199: every unit takes its start state. -/
def Ev.enterRunning (v : Env) (e : Ev) : Ev :=
  let e := ((e.readDetectors v).readContacts v).startProving v
  (((e.readLock v).readButtons v).startTimers.publishAll v).callCompose

/-- R199: the settle timer reaches 1 s. -/
def State.settled (s : State) : State :=
  if s.sys.station = .announcing ∧ s.sys.settle.isSome = true then
    s.become { s.sys with station := .running, settle := none } s.units Ev.enterRunning
  else s

/-! ## Taking a frame (R186) -/

/-- R186: the frame at the head of the receive queue, if it is one that the command takes, leaves the queue and is
acted on; otherwise the command has no occasion (log entries 3 and 4). -/
def State.takeFrame (s : State) (takes : Frame → Bool) (act : RxFrame → State → State) : State :=
  match s.units.lnk.rx with
  | x :: rest => if takes x.frame then act x { s with units.lnk.rx := rest } else s
  | [] => s

/-- R186: a frame whose owner acts while the station is ANNOUNCING or RUNNING, and is passed over otherwise. -/
def State.takeStarted (s : State) (takes : Frame → Bool) (f : Env → RxFrame → Ev → Ev) : State :=
  s.takeFrame takes fun x s => s.whenStarted fun v e => f v x e

/-- R186: a frame whose owner acts while the station is RUNNING, and is passed over otherwise. -/
def State.takeRunning (s : State) (takes : Frame → Bool) (f : Env → RxFrame → Ev → Ev) : State :=
  s.takeFrame takes fun x s => s.whenRunning fun v e => f v x e

/-- An event that comes about only while RUNNING, in a station with a turntable. -/
def State.whenTable (s : State) (f : Env → TurntableCfg → Ev → Ev) : State := match s.sys.cfg.turntable with
  | some g => s.whenRunning fun v e => f v g e
  | none => s

/-- The outside sets input lines. -/
def State.setPins (s : State) (f : Pins → Pins) : State := { s with pins := f s.pins }

/-! ## The frame that a command takes -/

/-- A frame of kind `k`. -/
def ofKind (k : FrameKind) (f : Frame) : Bool := f.kind == k
/-- Section 11.7: a CLAIM ANSWER with GRANT. -/
def isGrant (f : Frame) : Bool := f.kind == .claimAnswer && payloadAt f.payload 1 == 0
/-- Section 11.7: a CLAIM ANSWER with another result. -/
def isOtherAnswer (f : Frame) : Bool := f.kind == .claimAnswer && payloadAt f.payload 1 != 0
/-- Section 11.7: a TURNTABLE REQUEST of kind SWAP. -/
def isSwapRequest (f : Frame) : Bool := f.kind == .turntableRequest && payloadAt f.payload 0 == 1
/-- Section 11.7: a TURNTABLE REQUEST of kind CANCEL_ALL. -/
def isCancelAll (f : Frame) : Bool := f.kind == .turntableRequest && payloadAt f.payload 0 == 2
/-- Section 11.7: a TURNTABLE REQUEST of kind MOVE, or of a kind that R130 refuses. -/
def isMoveRequest (f : Frame) : Bool := f.kind == .turntableRequest && !isSwapRequest f && !isCancelAll f
/-- Section 11.7: a CLOCK CONTROL with RUN. -/
def isClockRun (f : Frame) : Bool := f.kind == .clockControl && (f.payload.getD 1 0).getLsbD 0
/-- Section 11.7: a CLOCK CONTROL with STOP. -/
def isClockStop (f : Frame) : Bool := f.kind == .clockControl && !(f.payload.getD 1 0).getLsbD 0

end Sys2Proof.Machine
end

