-- ==== Sys2Proof/Machine/ClockCommands.lean ====
section
/-! DEFINITION. Meanings: the scale clock and the timetable (chapter 9). -/

namespace Sys2Proof.Machine

/-- R152: SCALE_ROLLOVER. -/
def execScaleRollover (s : State) : Host.Outcome State Fault Refusal :=
  .next (s.whenRunning fun v e => e.scaleRollover v)

/-- R154: CLOCK_SET. -/
def execClockSet (s : State) : Host.Outcome State Fault Refusal :=
  .next (s.takeRunning (ofKind .clockSet) fun v x e => e.clockSet v x.frame)

/-- R155: CLOCK_CONTROL_RUN. -/
def execClockControlRun (s : State) : Host.Outcome State Fault Refusal :=
  .next (s.takeRunning isClockRun fun v x e => e.clockControl v x.frame .stopped .running)

/-- R155: CLOCK_CONTROL_STOP. -/
def execClockControlStop (s : State) : Host.Outcome State Fault Refusal :=
  .next (s.takeRunning isClockStop fun v x e => e.clockControl v x.frame .running .stopped)

/-- R156: CLOCK_BEACON. -/
def execClockBeacon (s : State) : Host.Outcome State Fault Refusal :=
  .next (s.takeRunning (ofKind .clockBeacon) fun v x e => e.clockBeacon v x.frame)

/-- R166: TIMETABLE_LOAD. -/
def execTimetableLoad (s : State) : Host.Outcome State Fault Refusal :=
  .next (s.takeStarted (ofKind .timetableLoad) fun v x e => e.timetableLoad v x.frame)

/-- R167: TIMETABLE_CANCEL. -/
def execTimetableCancel (s : State) : Host.Outcome State Fault Refusal :=
  .next (s.takeStarted (ofKind .timetableCancel) fun v x e => e.timetableCancel v x.frame)

end Sys2Proof.Machine
end

