-- ==== Sys2Proof/Machine/LinkCommands.lean ====
section
/-! DEFINITION. Meanings: the layout link (chapter 11). -/

namespace Sys2Proof.Machine

/-- R183: FRAME_END. -/
def execFrameEnd (bytes : List Byte) (broken : Bool) (s : State) : Host.Outcome State Fault Refusal :=
  .next (s.frameEnd bytes broken)

/-- R195, R198: STATUS_QUERY. -/
def execStatusQuery (s : State) : Host.Outcome State Fault Refusal :=
  .next (s.takeFrame (ofKind .statusQuery) fun x s =>
    if s.env.listens then s.event fun v e => e.statusQuery v x.frame else s)

/-- R188: URGENT_GAP_REACHED. -/
def execUrgentGapReached (s : State) : Host.Outcome State Fault Refusal :=
  .next (if s.env.listens then s.event fun _ e => e.urgentGap else s)

/-- R188, R191: ORDINARY_GAP_REACHED. -/
def execOrdinaryGapReached (s : State) : Host.Outcome State Fault Refusal :=
  .next (if s.env.listens then s.event fun _ e => e.ordinaryGap else s)

/-- R188: FRAME_SENT. -/
def execFrameSent (s : State) : Host.Outcome State Fault Refusal :=
  .next (s.event fun _ e => e.frameSent)

/-- R189: COLLISION. -/
def execCollision (s : State) : Host.Outcome State Fault Refusal :=
  .next (s.event fun _ e => e.collision)

/-- R189: BACKOFF_RETRY. -/
def execBackoffRetry (s : State) : Host.Outcome State Fault Refusal :=
  .next (s.event fun _ e => e.backoffRetry)

/-- R181, R188: LINE_START_BIT. -/
def execLineStartBit (s : State) : Host.Outcome State Fault Refusal :=
  .next (if s.env.listens then s.event fun _ e => e.link fun l => { l with idle := .driven } else s)

end Sys2Proof.Machine
end

