-- ==== Sys2Proof/Machine/PanelCommands.lean ====
section
/-! DEFINITION. Meanings: buttons and the board (chapter 10). -/

namespace Sys2Proof.Machine

/-- R170: BUTTON_PRESS. -/
def execButtonPress (k : Nat) (s : State) : Host.Outcome State Fault Refusal :=
  .next (s.whenRunning fun v e => e.pressExpiry v k)

/-- R170: BUTTON_RELEASE_FILTER. -/
def execButtonReleaseFilter (k : Nat) (s : State) : Host.Outcome State Fault Refusal :=
  .next (s.whenRunning fun _ e => e.releaseExpiry k)

/-- R170: BUTTON_INPUT_CHANGE. -/
def execButtonInputChange (k : Nat) (level : Bool) (s : State) : Host.Outcome State Fault Refusal :=
  .next ((s.setPins fun p => { p with buttons := p.buttons.set k level }).whenRunning fun v e => e.buttonInput v k level)

/-- R171: GUARD_EXPIRY. -/
def execGuardExpiry (k : Nat) (s : State) : Host.Outcome State Fault Refusal :=
  .next (s.whenRunning fun _ e => e.guardExpiry k)

/-- R171: LAMP_FLASH_EXPIRY. -/
def execLampFlashExpiry (k : Nat) (s : State) : Host.Outcome State Fault Refusal :=
  .next (s.whenRunning fun _ e => e.flashExpiry k)

/-- R180: BOARD_ROW_SENT. -/
def execBoardRowSent (s : State) : Host.Outcome State Fault Refusal :=
  .next (s.event fun _ e => e.rowSent)

/-- R180: BOARD_REFRESH_EXPIRY. -/
def execBoardRefreshExpiry (s : State) : Host.Outcome State Fault Refusal :=
  .next (s.whenRunning fun _ e => e.refreshRows)

end Sys2Proof.Machine
end

