-- ==== Sys2Proof/Machine/RouteCommands.lean ====
section
/-! DEFINITION. Meanings: routes and claims (chapters 4 and 5). -/

namespace Sys2Proof.Machine

/-- R55: ROUTE_REQUEST. -/
def execRouteRequest (s : State) : Host.Outcome State Fault Refusal :=
  .next (s.takeStarted (ofKind .routeRequest) fun v x e => e.routeRequest v x.frame)

/-- R69: ROUTE_CANCEL. -/
def execRouteCancel (s : State) : Host.Outcome State Fault Refusal :=
  .next (s.takeStarted (ofKind .routeCancel) fun v x e => e.routeCancel v x.frame)

/-- R71: APPROACH_RELEASE_EXPIRY. -/
def execApproachReleaseExpiry (n : Nat) (s : State) : Host.Outcome State Fault Refusal :=
  .next (s.whenRunning fun v e => e.approachExpiry v n)

/-- R81, R82: CLAIM_ANSWER_GRANT (log entry 12). -/
def execClaimAnswerGrant (s : State) : Host.Outcome State Fault Refusal :=
  .next (s.takeStarted isGrant fun v x e => e.claimGrant v x.frame)

/-- R83: CLAIM_ANSWER_REFUSE: a REFUSE, or an answer that is neither and is passed over. -/
def execClaimAnswerRefuse (s : State) : Host.Outcome State Fault Refusal :=
  .next (s.takeStarted isOtherAnswer fun v x e => if payloadAt x.frame.payload 1 = 1 then e.claimRefuse v x.frame else e)

/-- R84: CLAIM_ANSWER_TIMEOUT. -/
def execClaimAnswerTimeout (n : Nat) (s : State) : Host.Outcome State Fault Refusal :=
  .next (s.whenRunning fun v e => e.answerTimeout v n)

/-- R87: OWNER_WAIT_EXPIRY. -/
def execOwnerWaitExpiry (n : Nat) (s : State) : Host.Outcome State Fault Refusal :=
  .next (s.whenRunning fun v e => e.ownerWaitExpiry v n)

/-- R88, R185: CLAIM_BLOCK_LIST_RECEIVED. -/
def execClaimBlockListReceived (bytes : List Byte) (s : State) : Host.Outcome State Fault Refusal :=
  .next (s.whenRunning fun v e => e.blockListReceived v bytes)

/-- R90, R91: CLAIM_REQUEST_TAKEN. -/
def execClaimRequestTaken (s : State) : Host.Outcome State Fault Refusal :=
  .next (s.takeStarted (ofKind .claimRequest) fun v x e => e.claimRequest v x.frame (x.arrival.getD []))

/-- R93: CLAIM_RELEASE. -/
def execClaimRelease (s : State) : Host.Outcome State Fault Refusal :=
  .next (s.takeStarted (ofKind .claimRelease) fun v x e => e.claimRelease v x.frame)

/-- R94: CLAIM_PURGE. -/
def execClaimPurge (s : State) : Host.Outcome State Fault Refusal :=
  .next (s.takeStarted (ofKind .claimPurge) fun v x e => e.claimPurge v x.frame)

end Sys2Proof.Machine
end

