-- ==== Sys2Proof/Machine/SignalCommands.lean ====
section
/-! DEFINITION. Meanings: signals, the stop state, watches (chapters 6 and 7). -/

namespace Sys2Proof.Machine

/-- R103: APPROACH_CONTROL_EXPIRY. -/
def execApproachControlExpiry (n : Nat) (s : State) : Host.Outcome State Fault Refusal :=
  .next (s.whenRunning fun _ e => e.releaseControl n)

/-- R106, R107: LAMP_PROVING_EXPIRY. -/
def execLampProvingExpiry (n : Nat) (s : State) : Host.Outcome State Fault Refusal :=
  .next (s.whenRunning fun v e => e.lampProven v n)

/-- R106: RED_LAMP_INPUT_CHANGE. -/
def execRedLampInputChange (n : Nat) (level : Bool) (s : State) : Host.Outcome State Fault Refusal :=
  .next ((s.setPins fun p => { p with redLamps := p.redLamps.set n level }).whenRunning fun v e => e.lampInput v n level)

/-- R109: ZONE_STOP. -/
def execZoneStop (s : State) : Host.Outcome State Fault Refusal :=
  .next (s.takeStarted (ofKind .zoneStop) fun v x e => e.zoneStop v x.frame)

/-- R110: ZONE_RESUME. -/
def execZoneResume (s : State) : Host.Outcome State Fault Refusal :=
  .next (s.takeStarted (ofKind .zoneResume) fun v x e => e.zoneResume v x.frame)

/-- R115: WATCH_SET. -/
def execWatchSet (s : State) : Host.Outcome State Fault Refusal :=
  .next (s.takeStarted (ofKind .watchSet) fun v x e => e.watchSet v x.frame)

/-- R116: WATCH_CLEAR. -/
def execWatchClear (s : State) : Host.Outcome State Fault Refusal :=
  .next (s.takeStarted (ofKind .watchClear) fun v x e => e.watchClear v x.frame)

end Sys2Proof.Machine
end

