-- ==== Sys2Proof/Machine/StationCommands.lean ====
section
/-! DEFINITION. Meanings: start-up, the image and RESTART (chapter 12). -/

namespace Sys2Proof.Machine

/-- R196: POWER_ON. -/
def execPowerOn (s : State) : Host.Outcome State Fault Refusal :=
  .next (s.powerUp .powerOn)

/-- R196: RESET_PIN. -/
def execResetPin (s : State) : Host.Outcome State Fault Refusal :=
  .next (s.powerUp .resetPin)

/-- R196: SUPPLY_SETTLED. -/
def execSupplySettled (s : State) : Host.Outcome State Fault Refusal :=
  .next (s.supplySettled)

/-- R197: IMAGE_READ_COMPLETE. -/
def execImageReadComplete (image : Image) (s : State) : Host.Outcome State Fault Refusal :=
  .next (s.imageRead image)

/-- R199: SETTLE_TIMER_EXPIRY. -/
def execSettleTimerExpiry (s : State) : Host.Outcome State Fault Refusal :=
  .next (s.settled)

/-- R200: RESTART. One that is not for this station alone is passed over. -/
def execRestart (s : State) : Host.Outcome State Fault Refusal :=
  .next (s.takeFrame (ofKind .restart) fun x s => if takesRestart s.sys x.frame then s.restart else s)

end Sys2Proof.Machine
end

