-- ==== Sys2Proof/Machine/TrackCommands.lean ====
section
/-! DEFINITION. Meanings: detectors, tracking, the Mirror Table and the marks (chapters 1 and 2). -/

namespace Sys2Proof.Machine

/-- R1, R6: DETECTOR_RISE_EXPIRY. -/
def execDetectorRiseExpiry (n : Nat) (s : State) : Host.Outcome State Fault Refusal :=
  .next (s.whenRunning fun v e => e.riseExpiry v n)

/-- R1, R6: DETECTOR_DROP_EXPIRY. -/
def execDetectorDropExpiry (n : Nat) (s : State) : Host.Outcome State Fault Refusal :=
  .next (s.whenRunning fun v e => e.dropExpiry v n)

/-- R1: DETECTOR_INPUT_CHANGE: the input line is at the level, and is sampled while RUNNING. -/
def execDetectorInputChange (n : Nat) (level : Bool) (s : State) : Host.Outcome State Fault Refusal :=
  .next ((s.setPins fun p => { p with detectors := p.detectors.set n level }).whenRunning fun v e => e.detectorInput v n level)

/-- R11: REPUBLISH_TIMER_EXPIRY. -/
def execRepublishTimerExpiry (s : State) : Host.Outcome State Fault Refusal :=
  .next (s.whenRunning fun v e => e.republish v)

/-- R16: MIRROR_LAPSE. -/
def execMirrorLapse (m : MirrorId) (s : State) : Host.Outcome State Fault Refusal :=
  .next (s.whenStarted fun v e => e.mirrorLapse v m)

/-- R33: DECK_CARRY_LAPSE. -/
def execDeckCarryLapse (s : State) : Host.Outcome State Fault Refusal :=
  .next (s.whenRunning fun v e => e.carryLapse v)

/-- R28: TAG_SET. -/
def execTagSet (s : State) : Host.Outcome State Fault Refusal :=
  .next (s.takeStarted (ofKind .tagSet) fun v x e => e.tagSet v x.frame)

/-- R14: OCCUPANCY_REPORT_TAKEN. -/
def execOccupancyReportTaken (s : State) : Host.Outcome State Fault Refusal :=
  .next (s.takeStarted (ofKind .occupancyReport) fun v x e => e.occupancyReport v x)

/-- R15: ASPECT_REPORT_TAKEN. -/
def execAspectReportTaken (s : State) : Host.Outcome State Fault Refusal :=
  .next (s.takeStarted (ofKind .aspectReport) fun v x e => e.aspectReport v x)

/-- R17, R186: ANNOUNCE_TAKEN. -/
def execAnnounceTaken (s : State) : Host.Outcome State Fault Refusal :=
  .next (s.takeStarted (ofKind .announce) fun v x e => e.announce v x.frame)

/-- R194: REFRESH_QUERY. -/
def execRefreshQuery (s : State) : Host.Outcome State Fault Refusal :=
  .next (s.takeRunning (ofKind .refreshQuery) fun v _ e => e.refreshQuery v)

end Sys2Proof.Machine
end

