-- ==== Sys2Proof/Machine/TurnoutCommands.lean ====
section
/-! DEFINITION. Meanings: turnouts (chapter 3). -/

namespace Sys2Proof.Machine

/-- R36: the input lines of the contacts of turnout `t` whose filtered level changes (log entry 31). -/
def Pins.showContacts (x : Turnout) (t : Nat) (normal reverse : Bool) (p : Pins) : Pins :=
  { p with
    normals := if x.normalIn.level = normal then p.normals else p.normals.set t normal
    reverses := if x.reverseIn.level = reverse then p.reverses else p.reverses.set t reverse }

/-- R47: TURNOUT_FEEDBACK_CHANGE. -/
def execTurnoutFeedbackChange (t : Nat) (normal reverse : Bool) (s : State) : Host.Outcome State Fault Refusal :=
  .next (if s.env.running then
      (s.setPins (Pins.showContacts (s.units.turnout t) t normal reverse)).event fun v e =>
        e.feedbackChange v t normal reverse
    else s)

/-- R36: TURNOUT_CONTACT_INPUT_CHANGE. -/
def execTurnoutContactInputChange (t : Nat) (c : Contact) (level : Bool) (s : State) : Host.Outcome State Fault Refusal :=
  .next ((s.setPins fun p => match c with
    | .normal => { p with normals := p.normals.set t level }
    | .reverse => { p with reverses := p.reverses.set t level }).whenRunning fun v e => e.contactInput v t c level)

/-- R48: TURNOUT_REQUEST. -/
def execTurnoutRequest (s : State) : Host.Outcome State Fault Refusal :=
  .next (s.takeStarted (ofKind .turnoutRequest) fun v x e => e.turnoutRequest v x.frame)

/-- R43: SOLENOID_PULSE_END. -/
def execSolenoidPulseEnd (s : State) : Host.Outcome State Fault Refusal :=
  .next (s.whenRunning fun v e => e.pulseEnd v)

/-- R41: CDU_RECHARGE_EXPIRY. -/
def execCduRechargeExpiry (s : State) : Host.Outcome State Fault Refusal :=
  .next (s.whenRunning fun v e => e.rechargeExpiry v)

/-- R43: CONFIRM_WINDOW_EXPIRY. -/
def execConfirmWindowExpiry (t : Nat) (s : State) : Host.Outcome State Fault Refusal :=
  .next (s.whenRunning fun v e => e.windowExpiry v t)

/-- R44: MOTOR_TIMEOUT_EXPIRY. -/
def execMotorTimeoutExpiry (t : Nat) (s : State) : Host.Outcome State Fault Refusal :=
  .next (s.whenRunning fun v e => e.motorExpiry v t)

end Sys2Proof.Machine
end

