-- ==== Sys2Proof/Machine/TurntableCommands.lean ====
section
/-! DEFINITION. Meanings: the turntable (chapter 8). -/

namespace Sys2Proof.Machine

/-- R130: TURNTABLE_MOVE. -/
def execTurntableMove (s : State) : Host.Outcome State Fault Refusal :=
  .next (s.takeStarted isMoveRequest fun v x e => e.moveRequest v x.frame)

/-- R130: TURNTABLE_SWAP. -/
def execTurntableSwap (s : State) : Host.Outcome State Fault Refusal :=
  .next (s.takeStarted isSwapRequest fun v x e => e.moveRequest v x.frame)

/-- R132: TURNTABLE_CANCEL_ALL. -/
def execTurntableCancelAll (s : State) : Host.Outcome State Fault Refusal :=
  .next (s.takeStarted isCancelAll fun v x e => e.cancelMoves v x.frame)

/-- R129: the filtered lock confirm of a RUNNING station with a turntable is at `level`. -/
def State.lockShows (s : State) (level : Bool) : Bool :=
  s.env.running && s.sys.cfg.turntable.isSome && s.units.ttc.confirm.level == level

/-- R129: LOCK_CONFIRM_WITHDRAWN, the input line being inactive (log entry 31). -/
def execLockConfirmWithdrawn (s : State) : Host.Outcome State Fault Refusal :=
  .next (if s.lockShows true then
      (s.setPins fun p => { p with lock := false }).whenTable fun v g e => e.confirmWithdrawn v g
    else s)

/-- R129: LOCK_CONFIRM_ENGAGED, the input line being active (log entry 31). -/
def execLockConfirmEngaged (s : State) : Host.Outcome State Fault Refusal :=
  .next (if s.lockShows false then
      (s.setPins fun p => { p with lock := true }).whenTable fun v g e => e.confirmEngaged v g
    else s)

/-- R129: LOCK_CONFIRM_INPUT_CHANGE. -/
def execLockConfirmInputChange (level : Bool) (s : State) : Host.Outcome State Fault Refusal :=
  .next ((s.setPins fun p => { p with lock := level }).whenTable fun _ _ e =>
    e.ttc fun t => { t with confirm := t.confirm.input level })

/-- R141: UNLOCK_CONFIRM_EXPIRY. -/
def execUnlockConfirmExpiry (s : State) : Host.Outcome State Fault Refusal :=
  .next (s.whenTable fun v g e => e.unlockExpiry v g)

/-- R142, R143: STEP_INTERVAL_EXPIRY; the home line is at the level after the step (log entry 18). -/
def execStepIntervalExpiry (home : HomeSensor) (s : State) : Host.Outcome State Fault Refusal :=
  .next ((s.whenTable fun v g e => e.stepExpiry v g home).setPins fun p => { p with home := home.after })

/-- R145: LOCK_CONFIRM_EXPIRY. -/
def execLockConfirmExpiry (s : State) : Host.Outcome State Fault Refusal :=
  .next (s.whenTable fun v g e => e.lockExpiry v g)

end Sys2Proof.Machine
end

