-- ==== Sys2Proof/Machine/Dispatch.lean ====
section
/-! DEFINITION. The dispatch: one arm per command of spec/opcode_table.json, in the table's order. -/

namespace Sys2Proof.Machine

/-- The effect of a command on everything but the queue. -/
def exec (i : Instr) (s : State) : Host.Outcome State Fault Refusal :=
  match i with
  | .powerOn => Sys2Proof.Machine.execPowerOn s
  | .resetPin => Sys2Proof.Machine.execResetPin s
  | .supplySettled => Sys2Proof.Machine.execSupplySettled s
  | .imageReadComplete image => Sys2Proof.Machine.execImageReadComplete image s
  | .settleTimerExpiry => Sys2Proof.Machine.execSettleTimerExpiry s
  | .restart => Sys2Proof.Machine.execRestart s
  | .detectorRiseExpiry n => Sys2Proof.Machine.execDetectorRiseExpiry n s
  | .detectorDropExpiry n => Sys2Proof.Machine.execDetectorDropExpiry n s
  | .republishTimerExpiry => Sys2Proof.Machine.execRepublishTimerExpiry s
  | .mirrorLapse m => Sys2Proof.Machine.execMirrorLapse m s
  | .deckCarryLapse => Sys2Proof.Machine.execDeckCarryLapse s
  | .tagSet => Sys2Proof.Machine.execTagSet s
  | .turnoutFeedbackChange t normal reverse => Sys2Proof.Machine.execTurnoutFeedbackChange t normal reverse s
  | .turnoutRequest => Sys2Proof.Machine.execTurnoutRequest s
  | .solenoidPulseEnd => Sys2Proof.Machine.execSolenoidPulseEnd s
  | .cduRechargeExpiry => Sys2Proof.Machine.execCduRechargeExpiry s
  | .confirmWindowExpiry t => Sys2Proof.Machine.execConfirmWindowExpiry t s
  | .motorTimeoutExpiry t => Sys2Proof.Machine.execMotorTimeoutExpiry t s
  | .routeRequest => Sys2Proof.Machine.execRouteRequest s
  | .routeCancel => Sys2Proof.Machine.execRouteCancel s
  | .approachReleaseExpiry n => Sys2Proof.Machine.execApproachReleaseExpiry n s
  | .claimAnswerGrant => Sys2Proof.Machine.execClaimAnswerGrant s
  | .claimAnswerRefuse => Sys2Proof.Machine.execClaimAnswerRefuse s
  | .claimAnswerTimeout n => Sys2Proof.Machine.execClaimAnswerTimeout n s
  | .ownerWaitExpiry n => Sys2Proof.Machine.execOwnerWaitExpiry n s
  | .claimBlockListReceived bytes => Sys2Proof.Machine.execClaimBlockListReceived bytes s
  | .claimRequestTaken => Sys2Proof.Machine.execClaimRequestTaken s
  | .claimRelease => Sys2Proof.Machine.execClaimRelease s
  | .claimPurge => Sys2Proof.Machine.execClaimPurge s
  | .approachControlExpiry n => Sys2Proof.Machine.execApproachControlExpiry n s
  | .lampProvingExpiry n => Sys2Proof.Machine.execLampProvingExpiry n s
  | .zoneStop => Sys2Proof.Machine.execZoneStop s
  | .zoneResume => Sys2Proof.Machine.execZoneResume s
  | .watchSet => Sys2Proof.Machine.execWatchSet s
  | .watchClear => Sys2Proof.Machine.execWatchClear s
  | .turntableMove => Sys2Proof.Machine.execTurntableMove s
  | .turntableSwap => Sys2Proof.Machine.execTurntableSwap s
  | .turntableCancelAll => Sys2Proof.Machine.execTurntableCancelAll s
  | .lockConfirmWithdrawn => Sys2Proof.Machine.execLockConfirmWithdrawn s
  | .lockConfirmEngaged => Sys2Proof.Machine.execLockConfirmEngaged s
  | .unlockConfirmExpiry => Sys2Proof.Machine.execUnlockConfirmExpiry s
  | .stepIntervalExpiry home => Sys2Proof.Machine.execStepIntervalExpiry home s
  | .lockConfirmExpiry => Sys2Proof.Machine.execLockConfirmExpiry s
  | .scaleRollover => Sys2Proof.Machine.execScaleRollover s
  | .clockSet => Sys2Proof.Machine.execClockSet s
  | .clockControlRun => Sys2Proof.Machine.execClockControlRun s
  | .clockControlStop => Sys2Proof.Machine.execClockControlStop s
  | .clockBeacon => Sys2Proof.Machine.execClockBeacon s
  | .timetableLoad => Sys2Proof.Machine.execTimetableLoad s
  | .timetableCancel => Sys2Proof.Machine.execTimetableCancel s
  | .buttonPress k => Sys2Proof.Machine.execButtonPress k s
  | .buttonReleaseFilter k => Sys2Proof.Machine.execButtonReleaseFilter k s
  | .guardExpiry k => Sys2Proof.Machine.execGuardExpiry k s
  | .lampFlashExpiry k => Sys2Proof.Machine.execLampFlashExpiry k s
  | .boardRowSent => Sys2Proof.Machine.execBoardRowSent s
  | .boardRefreshExpiry => Sys2Proof.Machine.execBoardRefreshExpiry s
  | .frameEnd bytes broken => Sys2Proof.Machine.execFrameEnd bytes broken s
  | .occupancyReportTaken => Sys2Proof.Machine.execOccupancyReportTaken s
  | .aspectReportTaken => Sys2Proof.Machine.execAspectReportTaken s
  | .announceTaken => Sys2Proof.Machine.execAnnounceTaken s
  | .refreshQuery => Sys2Proof.Machine.execRefreshQuery s
  | .statusQuery => Sys2Proof.Machine.execStatusQuery s
  | .urgentGapReached => Sys2Proof.Machine.execUrgentGapReached s
  | .ordinaryGapReached => Sys2Proof.Machine.execOrdinaryGapReached s
  | .frameSent => Sys2Proof.Machine.execFrameSent s
  | .collision => Sys2Proof.Machine.execCollision s
  | .backoffRetry => Sys2Proof.Machine.execBackoffRetry s
  | .detectorInputChange n level => Sys2Proof.Machine.execDetectorInputChange n level s
  | .turnoutContactInputChange t contact level => Sys2Proof.Machine.execTurnoutContactInputChange t contact level s
  | .redLampInputChange n level => Sys2Proof.Machine.execRedLampInputChange n level s
  | .lockConfirmInputChange level => Sys2Proof.Machine.execLockConfirmInputChange level s
  | .buttonInputChange k level => Sys2Proof.Machine.execButtonInputChange k level s
  | .lineStartBit => Sys2Proof.Machine.execLineStartBit s

end Sys2Proof.Machine
end

