-- ==== Sys2Proof/Machine/Time.lean ====
section
/-! DEFINITION. What happens with no command waiting (log entry 2): a waiting frame is taken, a timer that has
reached its time acts, or one millisecond passes. Times below a millisecond are not counted (log entry 27). -/

namespace Sys2Proof.Machine

/-! ## Configured times, in ms -/

/-- R2: the rise filter time of block `b`. -/
def riseTime (c : Config) (b : Nat) : Nat :=
  (c.block b).rise.getD (if c.station.rise = 0 then 30 else c.station.rise)

/-- R2: the drop filter time of block `b`. -/
def dropTime (c : Config) (b : Nat) : Nat :=
  (c.block b).drop.getD (if c.station.drop = 0 then 500 else c.station.drop)

/-- R35: the confirm window. -/
def windowTime (c : Config) : Nat := if c.station.confirm = 0 then 500 else c.station.confirm

/-- R35: the pulse time and motor timeout of turnout `t`. -/
def turnoutTimes (c : Config) (t : Nat) : Nat × Nat := match c.turnout t with
  | some x => (x.pulse, x.timeout)
  | none => (0, 0)

/-- R95: the approach release and approach control times of signal `n`. -/
def signalTimes (c : Config) (n : Nat) : Nat × Nat := match c.signal n with
  | some x => (x.releaseTime * 1000, x.controlTime * 1000)
  | none => (0, 0)

/-! ## Timers that have reached their time -/

/-- A timer runs and has counted `n` ms. -/
def Timer.reached (t : Timer) (n : Nat) : Bool := match t with
  | some k => decide (n ≤ k)
  | none => false

/-- A command when a condition holds. -/
def dueIf (b : Bool) (c : Instr) : Option Instr := if b then some c else none

/-- The first due command over the items of a list. -/
def firstDue {α : Type} (f : Nat → α → Option Instr) (l : List α) : Option Instr :=
  l.zipIdx.findSome? fun x => f x.2 x.1

/-- R1: a detector filter. -/
def dueDetector (c : Config) (n : Nat) (x : DetectorFilter) : Option Instr := match x.state with
  | .rising => dueIf (Timer.reached x.timer (riseTime c n)) (.detectorRiseExpiry n)
  | .falling => dueIf (Timer.reached x.timer (dropTime c n)) (.detectorDropExpiry n)
  | .clear | .occupied => none

/-- R36: a contact's level when its 10 ms have passed. -/
def ContactFilter.settled (f : ContactFilter) : Bool := if Timer.reached f.timer 10 then !f.level else f.level

/-- R36, R43, R44: a turnout's contacts, confirm window and motor timer. -/
def dueTurnout (c : Config) (t : Nat) (x : Turnout) : Option Instr :=
  (dueIf (Timer.reached x.normalIn.timer 10 || Timer.reached x.reverseIn.timer 10)
    (.turnoutFeedbackChange t x.normalIn.settled x.reverseIn.settled)).or <|
  match x.drive with
  | some ⟨_, .window k⟩ => dueIf (decide (windowTime c ≤ k)) (.confirmWindowExpiry t)
  | some ⟨_, .motor k⟩ => dueIf (decide ((turnoutTimes c t).2 ≤ k)) (.motorTimeoutExpiry t)
  | some ⟨_, .pulse⟩ | none => none

/-- R41, R43: the CDU. -/
def dueCdu (c : Config) : Cdu → Option Instr
  | .ready => none
  | .pulsing t k => dueIf (decide ((turnoutTimes c t).1 ≤ k)) .solenoidPulseEnd
  | .recharging k => dueIf (decide (c.station.recharge ≤ k)) .cduRechargeExpiry

/-- R71: a route's approach release timer. -/
def dueRoute (c : Config) (n : Nat) (x : Route) : Option Instr := match c.route n with
  | some r => dueIf (Timer.reached x.approach (signalTimes c r.entry).1) (.approachReleaseExpiry n)
  | none => none

/-- R84, R87: a claim's timers. -/
def dueClaim (n : Nat) (x : Claim) : Option Instr :=
  (dueIf (Timer.reached x.answer 400) (.claimAnswerTimeout n)).or
    (dueIf (Timer.reached x.wait 20000) (.ownerWaitExpiry n))

/-- R103, R106: a signal's timers. -/
def dueSignal (c : Config) (n : Nat) (x : Signal) : Option Instr :=
  (dueIf (Timer.reached x.proving 250) (.lampProvingExpiry n)).or <| match x.control with
    | .running k => dueIf (decide ((signalTimes c n).2 ≤ k)) (.approachControlExpiry n)
    | .stopped | .released => none

/-- R129, R141, R145: the turntable's timers. -/
def dueTable (t : Turntable) : Option Instr :=
  (dueIf (Timer.reached t.confirm.timer 10)
    (if t.confirm.level then .lockConfirmWithdrawn else .lockConfirmEngaged)).or <|
  (dueIf (Timer.reached t.unlockTime 1000) .unlockConfirmExpiry).or <|
  dueIf (Timer.reached t.lockTime 1000) .lockConfirmExpiry

/-- R170, R171: a button's timers. -/
def dueButton (c : Config) (k : Nat) (x : Button) : Option Instr :=
  (match x.filter with
    | .pressing => dueIf (Timer.reached x.timer 20) (.buttonPress k)
    | .releasing => dueIf (Timer.reached x.timer 20) (.buttonReleaseFilter k)
    | .released | .pressed => none).or <|
  (dueIf (Timer.reached x.guard ((c.button k).guard * 1000)) (.guardExpiry k)).or <|
  match x.flash with
    | some (n, _) => dueIf (decide (500 ≤ n)) (.lampFlashExpiry k)
    | none => none

/-- The command of the first timer that has reached its time, in the order of log entry 35. -/
def dueCommand (y : Sys) (u : Units) : Option Instr :=
  let c := y.cfg
  (dueIf (y.station == .announcing && Timer.reached y.settle 1000) .settleTimerExpiry).or <|
  (firstDue (dueDetector c) u.filters).or <|
  (dueIf (Timer.reached u.bkt.republish 8000) .republishTimerExpiry).or <|
  (firstDue (fun i m => dueIf (y.mirrors && Timer.reached m.lapse 20000) (.mirrorLapse (.block i))) u.bkt.bmirrors).or <|
  (firstDue (fun i m => dueIf (y.mirrors && Timer.reached m.lapse 20000) (.mirrorLapse (.signal i))) u.bkt.smirrors).or <|
  (dueIf (Timer.reached u.trk.lapse 1000) .deckCarryLapse).or <|
  (firstDue (dueTurnout c) u.tdu.turnouts).or <|
  (dueCdu c u.tdu.cdu).or <|
  (firstDue (dueRoute c) u.ilk.routes).or <|
  (firstDue dueClaim u.clu.claims).or <|
  (firstDue (dueSignal c) u.ase.signals).or <|
  (dueTable u.ttc).or <|
  (firstDue (dueButton c) u.biu.buttons).or <|
  dueIf (Timer.reached u.bdr.refresh 30000) .boardRefreshExpiry

/-! ## The command that takes a frame -/

/-- R186, section 11.7: the command by which the owner of a waiting frame takes it. -/
def takingCommand (f : Frame) : Option Instr := match f.kind with
  | .occupancyReport => some .occupancyReportTaken
  | .aspectReport => some .aspectReportTaken
  | .claimRequest => some .claimRequestTaken
  | .claimAnswer => some (if isGrant f then .claimAnswerGrant else .claimAnswerRefuse)
  | .claimRelease => some .claimRelease
  | .claimPurge => some .claimPurge
  | .routeRequest => some .routeRequest
  | .routeCancel => some .routeCancel
  | .turnoutRequest => some .turnoutRequest
  | .tagSet => some .tagSet
  | .turntableRequest => some
      (if isSwapRequest f then .turntableSwap else if isCancelAll f then .turntableCancelAll else .turntableMove)
  | .clockSet => some .clockSet
  | .clockControl => some (if isClockRun f then .clockControlRun else .clockControlStop)
  | .clockBeacon => some .clockBeacon
  | .timetableLoad => some .timetableLoad
  | .timetableCancel => some .timetableCancel
  | .watchSet => some .watchSet
  | .watchClear => some .watchClear
  | .zoneStop => some .zoneStop
  | .zoneResume => some .zoneResume
  | .statusQuery => some .statusQuery
  | .refreshQuery => some .refreshQuery
  | .announce => some .announceTaken
  | .restart => some .restart
  | .routeReport | .turntableReport | .watchNotice | .stationNotice | .statusReply | .answer => none

/-- The command that is due with none waiting: the oldest frame is taken, or a timer acts. -/
def State.dueNow (s : State) : Option Instr :=
  (s.units.lnk.rx.head?.bind fun x => takingCommand x.frame).or (dueCommand s.sys s.units)

/-! ## One millisecond -/

/-- A running timer counts one more. -/
def Timer.tick (t : Timer) : Timer := t.map (· + 1)

/-- R36: a contact filter counts one more. -/
def ContactFilter.tick (f : ContactFilter) : ContactFilter := { f with timer := Timer.tick f.timer }

/-- R43, R44: a drive counts one more. -/
def Drive.tick (d : Drive) : Drive := { d with stage := match d.stage with
  | .pulse => .pulse
  | .window k => .window (k + 1)
  | .motor k => .motor (k + 1) }

/-- R36, R43, R44: a turnout's timers. -/
def Turnout.tick (x : Turnout) : Turnout :=
  { x with drive := x.drive.map Drive.tick, normalIn := x.normalIn.tick, reverseIn := x.reverseIn.tick }

/-- R41: the CDU's timer. -/
def Cdu.tick : Cdu → Cdu
  | .ready => .ready
  | .pulsing t k => .pulsing t (k + 1)
  | .recharging k => .recharging (k + 1)

/-- R103, R106: a signal's timers. -/
def Signal.tick (x : Signal) : Signal :=
  { x with
    proving := Timer.tick x.proving
    control := match x.control with
      | .running k => .running (k + 1)
      | c => c }

/-- R170, R171: a button's timers. -/
def Button.tick (x : Button) : Button :=
  { x with
    timer := Timer.tick x.timer, guard := Timer.tick x.guard
    flash := x.flash.map fun f => (f.1 + 1, f.2) }

/-- R16: the mirrors' lapse timers count one more. -/
def Units.tickMirrors (u : Units) : Units :=
  { u with bkt := { u.bkt with
      bmirrors := u.bkt.bmirrors.map fun m => { m with lapse := Timer.tick m.lapse }
      smirrors := u.bkt.smirrors.map fun m => { m with lapse := Timer.tick m.lapse } } }

/-- Every millisecond timer of the units, the accumulator and the mirrors apart, counts one more. -/
def Units.tick (u : Units) : Units :=
  { u with
    filters := u.filters.map fun x => { x with timer := Timer.tick x.timer }
    bkt := { u.bkt with republish := Timer.tick u.bkt.republish }
    trk := { u.trk with lapse := Timer.tick u.trk.lapse }
    tdu := { u.tdu with turnouts := u.tdu.turnouts.map Turnout.tick, cdu := u.tdu.cdu.tick }
    ilk := { u.ilk with routes := u.ilk.routes.map fun x => { x with approach := Timer.tick x.approach } }
    clu := { u.clu with claims := u.clu.claims.map fun x =>
      { x with answer := Timer.tick x.answer, wait := Timer.tick x.wait } }
    ase := { u.ase with signals := u.ase.signals.map Signal.tick }
    ttc := { u.ttc with
      confirm := u.ttc.confirm.tick, unlockTime := Timer.tick u.ttc.unlockTime, lockTime := Timer.tick u.ttc.lockTime }
    biu := { u.biu with buttons := u.biu.buttons.map Button.tick }
    bdr := { u.bdr with refresh := Timer.tick u.bdr.refresh } }

/-- One millisecond passes for every timer but the accumulator. In the station states in which the mirrors keep
their values (R12) their timers stand still. -/
def State.tickTimers (s : State) : State :=
  { s with
    sys := { s.sys with settle := Timer.tick s.sys.settle }
    units := if s.sys.mirrors then s.units.tick.tickMirrors else s.units.tick }

/-- R152: the millisecond's addition would make the clock roll over. -/
def State.rollsOver (s : State) : Bool :=
  s.env.running && s.units.clock.state == .running && decide (600000 ≤ s.units.clock.acc + s.units.clock.ratio)

/-- R152: the SCK adds q to A. -/
def State.count (s : State) : State :=
  if s.env.running && s.units.clock.state == .running then
    { s with units.clock.acc := s.units.clock.acc + s.units.clock.ratio }
  else s

end Sys2Proof.Machine
end

