-- ==== Sys2Proof/Machine/Step.lean ====
section
/-! DEFINITION. One step: the command at the front of the queue, or with none waiting what the part does by itself
(log entry 2). -/

namespace Sys2Proof.Machine

/-- What the part does with no command waiting: the command that is due, or one millisecond; a millisecond in which the
accumulator reaches 600,000 counts the timers and rolls the clock over (R152), before the command of a timer that this
millisecond brings to its time (log entry 35). -/
def idle (s : State) : Host.Outcome State Fault Refusal :=
  match s.dueNow with
  | some c => exec c s
  | none => if s.rollsOver then exec .scaleRollover s.tickTimers else .next s.tickTimers.count

/-- One step: the command at the front of the queue with the queue's rest, or the part by itself. -/
def step (s : State) : Host.Outcome State Fault Refusal :=
  match s.pending with
  | c :: rest => exec c { s with pending := rest }
  | [] => idle s

/-- The state with the command that a word spells put at the front of its queue (log entry 1). -/
def State.withFetchWord (s : State) (nbits w : Nat) : State :=
  match decodeTableWord nbits w with
  | some c => { s with pending := c :: s.pending }
  | none => s

end Sys2Proof.Machine
end

