-- ==== Sys2Proof/Machine/Outputs.lean ====
section
/-! DEFINITION. The output lines as functions of the state: lamps and indicators (R96, R100, R105), coils and motors
(R41, R43, R44), turntable (R128, R139), buttons (R171, R174), and the frame that is on the link. -/

namespace Sys2Proof.Machine

/-- The four lamps of a head. -/
structure Lamps where
  red    : Bool
  yellow : Bool
  second : Bool
  green  : Bool
deriving DecidableEq, Repr

/-- R105: the lamps of a head at a rank. -/
def headLamps (h : Head) (rank : Nat) : Lamps where
  red    := rank == 0
  yellow := decide (1 ≤ rank) && !greenLit h rank
  second := h == .four && rank == 2
  green  := greenLit h rank

/-- R96, R105: the lamp outputs of signal `n`. -/
def State.lamps (s : State) (n : Nat) : Lamps :=
  if s.env.running then match s.sys.cfg.signal n with
    | some c => headLamps c.head (s.units.signal n).rank
    | none => ⟨false, false, false, false⟩
  else ⟨true, false, false, false⟩

/-- R100: the route indicator of signal `n`. -/
def State.indicator (s : State) (n : Nat) : Bool :=
  let g := s.units.signal n
  decide (1 ≤ g.rank) && (g.route.bind s.sys.cfg.route).any fun r => r.speed != .full

/-- R43, R46: the solenoid coil that is energised, with its position. -/
def State.coil (s : State) : Option (Nat × Pos) := match s.units.tdu.cdu with
  | .pulsing t _ => match (s.units.turnout t).drive with
    | some ⟨p, .pulse⟩ => some (t, p)
    | _ => none
  | .ready | .recharging _ => none

/-- R44: the position that turnout `t`'s motor is driven to. -/
def State.motor (s : State) (t : Nat) : Option Pos := match (s.units.turnout t).drive with
  | some ⟨p, .motor _⟩ => some p
  | _ => none

/-- R139, R142, R146: the level of the step that comes next; homing runs at level 0. -/
def nextLevel (g : TurntableCfg) (t : Turntable) : Option Nat := match t.phase, t.current with
  | .homing, some _ => some 0
  | .moving, some m | .settling, some m => m.run.map fun x => match x.ramp with
    | some (k, _, i) => k - 1 - i / g.perLevel
    | none => g.level x.len x.made
  | _, _ => none

/-- R139: the interval before the next step, in µs. -/
def State.stepInterval (s : State) : Option Nat :=
  s.sys.cfg.turntable.bind fun g => (nextLevel g s.units.ttc).map g.interval

/-- R171, R174: the lamp of button `k`. -/
def State.buttonLamp (s : State) (k : Nat) : Bool :=
  let x := s.units.button k
  match (s.sys.cfg.button k).kind with
  | .unused => false
  | .stopPlunger => s.env.running && s.units.ase.stop.plunger
  | .depart | .turntableShow => match x.state with
    | .armed => true
    | .busy => x.flash.any Prod.snd
    | .guard | .disabled => false

/-- R179, R181: the bits of a byte as a line carries them. -/
inductive LineBit where
  | start
  | data (b : Bool)
  | stop
deriving DecidableEq, Repr

/-- R179, R181: a byte on a line: a start bit, eight data bits with the least significant first, a stop bit. -/
def lineBits (b : Byte) : List LineBit := [.start] ++ (List.range 8).map (fun k => .data (b.getLsbD k)) ++ [.stop]

/-- R181: the bit stands at the driven level: a start bit does, a stop bit does not; the level of a data bit follows
its value in a way that the rule leaves open (log entry 45). -/
def LineBit.driven : LineBit → Bool
  | .start => true
  | .data b => b == Config.oneIsDriven
  | .stop => false

/-- R182, R188: the bytes of the frame that this station is sending. -/
def State.onLine (s : State) : Option (List Byte) :=
  (s.units.lnk.inHand.filter fun x => x.backoff.isNone).map fun x => x.frame.bytes

/-- R181: the levels, `true` for driven, that the frame which this station is sending puts on the link, bit by bit. -/
def State.linkLevels (s : State) : Option (List Bool) := s.onLine.map fun bs => bs.flatMap fun b => (lineBits b).map LineBit.driven

/-- R179: the bits of the row frame that the display line carries. -/
def State.displayBits (s : State) : Option (List LineBit) := s.units.bdr.lineFrame.map fun bs => bs.flatMap lineBits

end Sys2Proof.Machine
end

