-- ==== Sys2Proof/Safety.lean ====
section
/-! DEFINITION. What a safe state of the station is, in the terms that statements use: the laws of the manual that
one state can keep or break. -/

namespace Sys2Proof.Machine

/-- Law L1 (R6): a block that is CLEAR holds no tag and has direction UNKNOWN. -/
def Units.clearHoldsNothing (u : Units) : Prop :=
  ∀ x ∈ u.bkt.blocks, x.occupied = false → x.tag = .none ∧ x.dir = .unknown

/-- R186, R190: the three queues of the link are within their bounds. -/
def Link.queuesBounded (l : Link) : Prop :=
  l.rx.length ≤ 8 ∧ l.urgent.length ≤ 4 ∧ l.ordinary.length ≤ 16

/-- R193: the five counters are within 0 to 255. -/
def Counters.bounded (c : Counters) : Prop :=
  c.crc ≤ 255 ∧ c.framing ≤ 255 ∧ c.missed ≤ 255 ∧ c.giveUp ≤ 255 ∧ c.overflow ≤ 255

/-- Law L9 (R191, R192), its clauses on the Link Controller: the publish-pending set holds each item once, and each
notice kind has one slot. -/
def Link.heldOnce (l : Link) : Prop :=
  l.markBlocks.Pairwise (· < ·) ∧ l.markSignals.Pairwise (· < ·) ∧ l.order.Nodup

/-- The bounds of the Link Controller: queues, counters and law L9. -/
def Link.sound (l : Link) : Prop := l.queuesBounded ∧ l.counters.bounded ∧ l.heldOnce

/-- The sizes of section 7 of 00_scope.md: each list of records has the length the manual gives. -/
def Units.sized (u : Units) : Prop :=
  u.filters.length = 48 ∧ u.bkt.blocks.length = 48 ∧ u.bkt.bmirrors.length = 16 ∧ u.bkt.smirrors.length = 8
    ∧ u.tdu.turnouts.length = 32 ∧ u.ilk.routes.length = 64 ∧ u.clu.claims.length = 64
    ∧ u.ase.signals.length = 24 ∧ u.watches.length = 8 ∧ u.entries.length = 48
    ∧ u.biu.buttons.length = 16 ∧ u.bdr.rows.length = 5

/-- Sizes, law L1, the Link Controller's bounds, and the fault count of R201. -/
def Units.sound (u : Units) : Prop :=
  u.sized ∧ u.clearHoldsNothing ∧ u.lnk.sound ∧ u.record.count ≤ 255

/-- R74, R131: the pending route list and the move queue are within their bounds. -/
def Units.listsBounded (u : Units) : Prop := u.ilk.waiting.length ≤ 8 ∧ u.ttc.queue.length ≤ 4

/-- R169: turntable ready is what the phase and the move queue of a RUNNING station make it. -/
def Units.readyKept (v : Env) (u : Units) : Prop :=
  u.biu.ready = (v.running && u.ttc.phase == .aligned && u.ttc.queue.isEmpty)

/-- Laws L9 and L10 on the throw queue and the drives (R35, R40 to R44, R49). -/
structure Units.drivesSound (v : Env) (u : Units) : Prop where
  /-- Law L9: the throw queue holds each turnout at most once. -/
  once    : (u.tdu.queue.map Prod.fst).Nodup
  /-- R40: the turnouts of the queue are those that are QUEUED. -/
  queued  : ∀ t, t ∈ u.tdu.queue.map Prod.fst ↔ (u.turnout t).state = .queued
  /-- R35: a drive position stands while, and only while, the turnout is MOVING. -/
  moving  : ∀ t, (u.turnout t).drive.isSome = true ↔ (u.turnout t).state = .moving
  /-- Only a configured turnout is driven. -/
  known   : ∀ t, (u.turnout t).state = .moving → (v.cfg.turnout t).isSome = true
  /-- Law L10: a turnout that is pulsed is the one that the CDU names. -/
  pulse   : ∀ t p, (u.turnout t).drive = some ⟨p, .pulse⟩ → ∃ k, u.tdu.cdu = .pulsing t k
  /-- Law L10: at most four motors are MOVING. -/
  motors  : u.motorsMoving v ≤ 4
  /-- R49: a requester waits only for a turnout that is QUEUED or MOVING. -/
  waits   : ∀ t, (u.turnout t).requester.isSome = true → (u.turnout t).state = .queued ∨ (u.turnout t).state = .moving
  /-- No turnout is QUEUED or MOVING before RUNNING (R37). -/
  resting : v.running = false → ∀ t, (u.turnout t).state ≠ .queued ∧ (u.turnout t).state ≠ .moving

/-- What the rest of the model relies on in a configuration, every accepted one having it (R52, R125, R197). -/
structure Lawful (c : Config) : Prop where
  turnouts  : ∀ n r, c.route n = some r → ∀ x ∈ r.turnouts ++ r.flank, x.1 < 32 ∧ (c.turnout x.1).isSome = true
  turntable : ∀ g, c.turntable = some g → 0 < g.steps ∧ g.deck < 48 ∧ g.home < g.steps
    ∧ (g.limit = 0 ∨ g.steps + g.backlash ≤ g.limit)

/-- The invariant of the station that every step keeps: sizes, bounds, laws L1, L9 and L10. -/
structure State.sound (s : State) : Prop where
  units  : s.units.sound
  lists  : s.units.listsBounded
  ready  : s.units.readyKept s.env
  drives : s.units.drivesSound s.env
  config : Lawful s.sys.cfg

/-- Law L4 (R98): the six conditions under which signal `n` may show a rank above 0: its route is SET, path and held
overlap CLEAR, path and flank turnouts proven, the foreign grant held, no stop, approach control released for SLOW. -/
def Units.mayShow (c : Config) (u : Units) (n : Nat) : Prop :=
  ∃ k r, (u.signal n).route = some k ∧ c.route k = some r ∧ r.entry = n
    ∧ (u.route k).state = .set
    ∧ (∀ b ∈ r.path, (u.block b).occupied = false)
    ∧ ((u.route k).overlapHeld = true → ∀ b, r.overlap = some b → (u.block b).occupied = false)
    ∧ (∀ x ∈ r.turnouts ++ r.flank, (u.turnout x.1).state = .at x.2)
    ∧ (r.foreign.isSome = true → (u.claim k).status = .granted)
    ∧ u.ase.stop.on = false
    ∧ (r.speed = .slow → (u.signal n).control = .released)

/-- Law L4 and what it rests on (R96, R97, R98, R105). -/
structure State.signalsSound (s : State) : Prop where
  /-- Law L4: a signal above rank 0 meets the six conditions. -/
  shows : ∀ n, 0 < (s.units.signal n).rank → s.units.mayShow s.sys.cfg n
  /-- R97: the evaluated route of a signal is one that it enters. -/
  entry : ∀ n k, (s.units.signal n).route = some k → ∃ r, s.sys.cfg.route k = some r ∧ r.entry = n
  /-- R105: the top flag is set while the green lamp is lit. -/
  top   : ∀ n, (s.units.signal n).top = (s.sys.cfg.signal n).any fun c => greenLit c.head (s.units.signal n).rank
  /-- R96: before RUNNING every signal is at rank 0 with no evaluated route. -/
  dark  : s.env.running = false → ∀ n, (s.units.signal n).rank = 0 ∧ (s.units.signal n).route = none

/-- R143, R146: the steps that a run has still to make. -/
def Run.left (x : Run) : Nat := match x.ramp with
  | some (_, n, i) => n - i
  | none => x.len - x.made

/-- R127: the unwound position `k` steps on. -/
def windingAfter (u : Int) (turn : Turn) (k : Nat) : Int := match turn with
  | .cw => u + k
  | .ccw => u - k

/-- Law L7: the unwound position is within the limit. -/
def within (limit : Nat) (u : Int) : Prop := u.natAbs ≤ limit

/-- Law L7: a plan made from unwound position `u` stays within the limit: at both ends of its main run, and at the
end of its return run. -/
def Plan.within (limit : Nat) (u : Int) (p : Plan) : Prop :=
  Machine.within limit (windingAfter u p.turn p.main) ∧ Machine.within limit (windingAfter u p.turn p.main + p.back)

/-- Laws L6 and L7 for a turntable `g`, and what they rest on. -/
structure Units.deckSound (g : TurntableCfg) (u : Units) : Prop where
  /-- Law L6: in the moving phases the deck block is held for the turntable. -/
  held     : u.ttc.phase.inMove = true → (u.block g.deck).holder = .turntable
  /-- R141: the unlock confirm timer runs only in UNLOCKING. -/
  unlock   : u.ttc.unlockTime.isSome = true → u.ttc.phase = .unlocking
  /-- R145: the lock confirm timer runs only in LOCKING. -/
  lock     : u.ttc.lockTime.isSome = true → u.ttc.phase = .locking
  /-- Law L7: while the deck is homed and W is not 0, the unwound position is within -W to +W. -/
  winding  : u.ttc.homed = true → g.limit ≠ 0 → within g.limit u.ttc.winding
  /-- R136: a plan is made at the start of a move only for a homed deck; homing is for one that is not. -/
  unhomed  : (u.ttc.phase = .unlocking ∧ u.ttc.homed = false ∨ u.ttc.phase = .homing) →
    ∀ m, u.ttc.current = some m → m.plan = none
  homing   : u.ttc.phase = .homing → u.ttc.homed = false
  /-- Law L7: the plan of a move that is unlocking stays within the limit. -/
  planned  : u.ttc.phase = .unlocking → u.ttc.homed = true → g.limit ≠ 0 →
    ∀ m p, u.ttc.current = some m → m.plan = some p → p.within g.limit u.ttc.winding
  /-- R143, R146: a run that is being made has a step to make. -/
  ahead    : (u.ttc.phase = .moving ∨ u.ttc.phase = .settling) →
    ∀ m x, u.ttc.current = some m → m.run = some x → 0 < x.left ∧ x.left ≤ x.len - x.made
  /-- Law L7: the run that is being made, and the return run after a main run, stay within the limit. -/
  runs     : (u.ttc.phase = .moving ∨ u.ttc.phase = .settling) → u.ttc.homed = true → g.limit ≠ 0 →
    ∀ m x, u.ttc.current = some m → m.run = some x →
      let stop := windingAfter u.ttc.winding x.turn (x.len - x.made)
      within g.limit stop
      ∧ (u.ttc.phase = .moving → ∀ p, m.plan = some p → within g.limit (stop + p.back))

/-- Law L6 (R58, R134) for the routes: while a route with a turntable condition is locked, the bridge is ALIGNED at
its road and end. A claim is awaited only by a CLAIMING route (R78). -/
structure State.tableSound (s : State) : Prop where
  deck   : ∀ g, s.sys.cfg.turntable = some g → s.units.deckSound g
  locked : ∀ n r c, s.sys.cfg.route n = some r → r.turntable = some c → (s.units.route n).state ≠ .idle →
    s.units.ttc.phase = .aligned ∧ s.units.ttc.alignedAt = some c
  claims : ∀ n r, s.sys.cfg.route n = some r → r.foreign.isSome = true → (s.units.claim n).status = .awaiting →
    (s.units.route n).state = .claiming
  /-- R53, R78, R127: before RUNNING routes are IDLE, no claim is open, and the deck is unhomed and at rest. -/
  before : s.env.running = false → (∀ n, (s.units.route n).state = .idle ∧ (s.units.claim n).status = .none)
    ∧ s.units.ttc.phase.inMove = false ∧ s.units.ttc.homed = false ∧ s.units.ttc.unlockTime = none
    ∧ s.units.ttc.lockTime = none

/-- R196: the outputs are safe: every red lamp driven, every other lamp and route indicator off, no turnout or
motor driven, the lock at ENGAGE, deck power off, button lamps off. -/
def State.outputsSafe (s : State) : Prop :=
  (∀ n, s.lamps n = ⟨true, false, false, false⟩ ∧ s.indicator n = false)
    ∧ s.coil = none ∧ (∀ t, s.motor t = none)
    ∧ s.units.ttc.lockEngage = true ∧ s.units.ttc.deckPower = false ∧ s.units.ttc.stepping = none
    ∧ ∀ k, s.buttonLamp k = false

/-- A frame of the ordinary class has been sent for: it waits in the ordinary queue or is the frame in hand, or
the queue was full (R190). -/
def Link.carries (l : Link) (f : Frame) : Prop :=
  f ∈ l.ordinary ∨ f ∈ l.urgent ∨ l.inHand.map InHand.frame = some f

/-- R10, R191: block `b` is asked to be reported: it is marked, or the frame in hand was built with it. -/
def Link.reports (l : Link) (b : Nat) : Prop :=
  b ∈ l.markBlocks ∨ ∃ x items, l.inHand = some x ∧ x.origin = .blocks items ∧ b ∈ items

/-- R112, R191: signal `n` is asked to be reported. -/
def Link.reportsSignal (l : Link) (n : Nat) : Prop :=
  n ∈ l.markSignals ∨ ∃ x items, l.inHand = some x ∧ x.origin = .signals items ∧ n ∈ items

/-! ## Parts of the state, for frames -/

/-- The parts of the units' state. A frame says which parts a command leaves as they were. -/
inductive Part where
  | filters
  | occupancy
  | holders
  | mirrors
  | republish
  | carry
  | lapse
  | turnouts
  | throws
  | cdu
  | routes
  | waiting
  | claims
  | claimTable
  | reception
  | control
  | ranks
  | stop
  | watches
  | table
  | clock
  | entries
  | buttons
  | ready
  | refresh
  | board
  | record
  | free
  | rx
  | counters
  | marks
  | slots
  | transmitter
deriving DecidableEq, Repr

/-- What a block record says of the train on it (R5). -/
def Block.train (x : Block) : Bool × Tag × Dir := (x.occupied, x.tag, x.dir)

/-- What a signal record holds apart from what it shows: evaluated route, dark flag, approach control (R96). -/
def Signal.kept (x : Signal) : Option Nat × Bool × Control := (x.route, x.dark, x.control)

/-- What a signal shows, with the proving filter that follows it (R96, R106). -/
def Signal.shown (x : Signal) : Nat × Bool × Timer := (x.rank, x.top, x.proving)

/-- Two unit states agree in a part. -/
def Part.agree (u t : Units) : Part → Prop
  | .filters => t.filters = u.filters
  | .occupancy => t.bkt.blocks.map Block.train = u.bkt.blocks.map Block.train
  | .holders => t.bkt.blocks.map Block.holder = u.bkt.blocks.map Block.holder
  | .mirrors => t.bkt.bmirrors = u.bkt.bmirrors ∧ t.bkt.smirrors = u.bkt.smirrors
  | .republish => t.bkt.republish = u.bkt.republish
  | .carry => t.trk.carry = u.trk.carry
  | .lapse => t.trk.lapse = u.trk.lapse
  | .turnouts => t.tdu.turnouts = u.tdu.turnouts
  | .throws => t.tdu.queue = u.tdu.queue
  | .cdu => t.tdu.cdu = u.tdu.cdu
  | .routes => t.ilk.routes = u.ilk.routes
  | .waiting => t.ilk.waiting = u.ilk.waiting
  | .claims => t.clu.claims = u.clu.claims
  | .claimTable => t.clu.table = u.clu.table
  | .reception => t.clu.reception = u.clu.reception
  | .control => t.ase.signals.map Signal.kept = u.ase.signals.map Signal.kept
  | .ranks => t.ase.signals.map Signal.shown = u.ase.signals.map Signal.shown
  | .stop => t.ase.stop = u.ase.stop
  | .watches => t.watches = u.watches
  | .table => t.ttc = u.ttc
  | .clock => t.clock = u.clock
  | .entries => t.entries = u.entries
  | .buttons => t.biu.buttons = u.biu.buttons
  | .ready => t.biu.ready = u.biu.ready
  | .refresh => t.bdr.refresh = u.bdr.refresh
  | .board => t.bdr.rows = u.bdr.rows ∧ t.bdr.line = u.bdr.line
  | .record => t.record = u.record
  | .free => t.free = u.free
  | .rx => t.lnk.rx = u.lnk.rx
  | .counters => t.lnk.counters = u.lnk.counters
  | .marks => t.lnk.markBlocks = u.lnk.markBlocks ∧ t.lnk.markSignals = u.lnk.markSignals
  | .slots => t.lnk.faults = u.lnk.faults ∧ t.lnk.tracking = u.lnk.tracking ∧ t.lnk.order = u.lnk.order
  | .transmitter => t.lnk.urgent = u.lnk.urgent ∧ t.lnk.ordinary = u.lnk.ordinary ∧ t.lnk.inHand = u.lnk.inHand
      ∧ t.lnk.idle = u.lnk.idle

/-- The parts that the end of any event may change by itself: the deck carry's lapse timer follows its conditions
(R33), the next dirty row goes to the board (R180), and the transmitter takes what may be sent (R188, R191). -/
def Part.ofEnd : List Part := [.lapse, .board, .marks, .slots, .transmitter]

/-- The parts that the end of an event may change when it starts no move and no route: with the
above, ranks that are shown anew and their notices, and possessions that become ACTIVE (R102, R119, R121). -/
def Part.ofCalm : List Part := [.watches, .ranks, .lapse, .board, .counters, .marks, .slots, .transmitter]

/-- The parts that change when signals show a new rank, and their watches are told (R101, R102, R119). -/
def Part.ofSignals : List Part := [.ranks, .counters]

/-- From `u` to `t` every part not listed is as it was. -/
def Units.keepsBut (ps : List Part) (u t : Units) : Prop := ∀ p, p ∉ ps → p.agree u t

/-- Nothing else waits that the event could set going: no route request and no move (R75, R133). -/
def Units.nothingWaits (u : Units) : Prop := u.ilk.waiting = [] ∧ u.ttc.queue = []

/-- R60, R61: no route that needs turnout `t` is CLAIMING or THROWING. -/
def Units.noRouteAwaits (c : Config) (u : Units) (t : Nat) : Prop :=
  ∀ n r, c.route n = some r → (r.turnouts ++ r.flank).any (fun x => x.1 == t) = true →
    (u.route n).state ≠ .claiming ∧ (u.route n).state ≠ .throwing

/-- R53, R62, R85, R97: from `u` to `t` route `n`, whose record is `r`, has gone: it is IDLE, its signal is not
evaluated for it, its blocks are FREE, its path turnouts are not held for it, and its claim, if it has a foreign part, is closed. -/
def Units.routeGone (n : Nat) (r : RouteCfg) (u t : Units) : Prop :=
  t.route n = .idleOf r
    ∧ (t.signal r.entry).route = (if (u.signal r.entry).route = some n then none else (u.signal r.entry).route)
    ∧ (∀ b, (t.block b).holder =
        if b ∈ r.path ++ r.overlap.toList ∧ (u.block b).holder = .route n then .free else (u.block b).holder)
    ∧ (∀ k, (t.turnout k).pathHolder =
        if k ∈ r.turnouts.map Prod.fst ∧ (u.turnout k).pathHolder = some n then none else (u.turnout k).pathHolder)
    ∧ (r.foreign.isSome = true → t.claim n = ⟨.none, none, none, (u.claim n).counter, none, none⟩)

/-- The byte values of a text's characters. -/
def textOf (s : String) : List Byte := s.toList.map fun c => byte c.toNat

/-- R192: turnout `t` is told in a FAULT notice: its bit is in the slot, or in the notice that is in hand. -/
def Link.tellsTurnout (l : Link) (t : Nat) : Prop :=
  t ∈ l.faults.turnouts ∨ ∃ x c, l.inHand = some x ∧ x.origin = .faultNotice c ∧ t ∈ c.turnouts

/-- R192: signal `n` is told in a FAULT notice. -/
def Link.tellsSignal (l : Link) (n : Nat) : Prop :=
  n ∈ l.faults.signals ∨ ∃ x c, l.inHand = some x ∧ x.origin = .faultNotice c ∧ n ∈ c.signals

/-- R192: route `n`'s lost claim is told in a FAULT notice. -/
def Link.tellsLostClaim (l : Link) (n : Nat) : Prop :=
  n ∈ l.faults.routes ∨ ∃ x c, l.inHand = some x ∧ x.origin = .faultNotice c ∧ n ∈ c.routes

/-- R192: fault kind `k` of the turntable is told in a FAULT notice. -/
def Link.tellsTable (l : Link) (k : FaultKind) : Prop :=
  l.faults.turntable = k ∨ ∃ x c, l.inHand = some x ∧ x.origin = .faultNotice c ∧ c.turntable = k

/-- R192: block `b` is told in the lost set of a TRACKING notice. -/
def Link.tellsLostTag (l : Link) (b : Nat) : Prop :=
  b ∈ l.tracking.lost ∨ ∃ x c, l.inHand = some x ∧ x.origin = .trackingNotice c ∧ b ∈ c.lost

/-- R192: block `b` is told in the stray set of a TRACKING notice. -/
def Link.tellsStray (l : Link) (b : Nat) : Prop :=
  b ∈ l.tracking.stray ∨ ∃ x c, l.inHand = some x ∧ x.origin = .trackingNotice c ∧ b ∈ c.stray

/-- Every part listed is the same in `u` and `t`. -/
def Units.keeps (ps : List Part) (u t : Units) : Prop := ∀ p ∈ ps, p.agree u t

/-- R186: the units once the frame at the head of the receive queue has been taken, `rest` being the others. -/
def State.taken (s : State) (rest : List RxFrame) : Units := { s.units with lnk.rx := rest }

/-- The station is RUNNING and the frame `x`, of kind `k`, is the oldest of its receive queue (R186). -/
def State.receives (s : State) (k : FrameKind) (x : RxFrame) (rest : List RxFrame) : Prop :=
  s.sys.station = .running ∧ s.units.lnk.rx = x :: rest ∧ x.frame.kind = k

/-- The station has number `n` and room in its ordinary queue (R190). -/
def State.canSend (s : State) (n : Nat) : Prop := s.sys.number = some n ∧ s.units.lnk.ordinary.length < 16

/-- The station has number `n` and room in its urgent queue (R190). -/
def State.canSendUrgent (s : State) (n : Nat) : Prop := s.sys.number = some n ∧ s.units.lnk.urgent.length < 4

/-- The commands that may change what the Configuration Loader holds: station state, number, configuration
(R184, R196 to R200). -/
def startsUp : Instr → Bool
  | .powerOn | .resetPin | .supplySettled | .imageReadComplete _ | .settleTimerExpiry | .restart | .frameEnd _ _ => true
  | _ => false

/-- The commands by which the outside sets an input line. -/
def setsPins : Instr → Bool
  | .detectorInputChange _ _ | .turnoutContactInputChange _ _ _ | .turnoutFeedbackChange _ _ _
  | .redLampInputChange _ _ | .lockConfirmInputChange _ | .lockConfirmWithdrawn | .lockConfirmEngaged
  | .stepIntervalExpiry _ | .buttonInputChange _ _ => true
  | _ => false

end Sys2Proof.Machine
end

