-- ==== Sys2Proof/Certificates/Slice0/Obligations.lean ====
section
/-! DEFINITION. The statements for the provers. `t` is always the next state; a frame lists the parts that may
change (`keepsBut`) or that do not (`keeps`), `Part.ofEnd` being what the end of any event may change by itself. -/

open Sys2Proof Sys2Proof.Machine

/-! ## The queue and the whole machine -/

/-- Section 95 of the spec: a step is a whole, indivisible command: the one at the front of the queue. -/
def Obligations.FrontOfQueueIsExecuted : Prop :=
  ∀ (c : Instr) (s : State) (rest : List Instr), s.pending = c :: rest → step s = exec c { s with pending := rest }

/-- The model's choice (log entries 2, 27, 35): with no command waiting the part acts by itself, or 1 ms passes. -/
def Obligations.EmptyQueueLetsThePartAct : Prop :=
  ∀ s : State, s.pending = [] →
    (∀ c, s.dueNow = some c → step s = exec c s)
    ∧ (s.dueNow = none → s.rollsOver = true → step s = exec .scaleRollover s.tickTimers)
    ∧ (s.dueNow = none → s.rollsOver = false → step s = .next s.tickTimers.count)

/-- The invariants hold at reset: the station's, and those of laws L4, L6 and L7. -/
def Obligations.ResetStateIsSound : Prop :=
  State.reset.sound ∧ State.reset.signalsSound ∧ State.reset.tableSound

/-- The sizes of the records, law L1, law L9 in its three clauses (each turnout once in the throw queue, each item once
in the publish-pending set, one slot for each notice kind), law L10 (at most four motors MOVING, one pulse), a
requester only for a turnout that is QUEUED or MOVING (R49), and the bounds of queues, lists and counters (R74, R131,
R186, R190, R193, R201): every step keeps them, from any state in which they hold. -/
def Obligations.EveryStepKeepsTheStateSound : Prop :=
  ∀ s t : State, s.sound → step s = .next t → t.sound

/-- Law L4 (R98): in every state that a step leaves, a signal above rank 0 meets the six conditions, its top flag is as
its lamps are (R105), and its evaluated route is one that it enters (R97). -/
def Obligations.EveryStepKeepsLawL4 : Prop :=
  ∀ s t : State, s.sound → s.signalsSound → step s = .next t → t.signalsSound

/-- Laws L6 and L7: in every state that a step leaves, the deck is held for the turntable in the moving phases, a homed
deck's unwound position is within W, as it will be at the end of the runs that are planned, and a locked route with a
turntable condition finds the bridge ALIGNED at its road and end. -/
def Obligations.EveryStepKeepsLawsL6AndL7 : Prop :=
  ∀ s t : State, s.sound → s.tableSound → step s = .next t → t.tableSound

/-- Every command in every state answers a next state: one that meets no occasion is passed over (log entry 3). Only
the commands of start-up, restart and address clash change what the Configuration Loader holds (R184, R196 to R200);
only input commands change input lines, which are the model's (log entries 6, 18, 31); no command changes the queue. -/
def Obligations.CommandsKeepConfigurationAndLines : Prop :=
  ∀ (c : Instr) (s : State), ∃ t, exec c s = .next t ∧ t.pending = s.pending
    ∧ (startsUp c = false → t.sys = s.sys) ∧ (setsPins c = false → t.pins = s.pins)

/-! ## Frames and reports: written and read back -/

/-- R182, R183, R14, R15, section 11.7: a frame as this part writes it passes checks 1 and 2 with its own fields and
kind; the items of reports are read as they were written. -/
def Obligations.FramesAndItemsAreReadBack : Prop :=
  (∀ f : Frame, 1 ≤ f.dest → f.dest ≤ 127 → 1 ≤ f.src → f.src ≤ 62 → f.payload.length ≤ 32 →
      receive f.bytes false = .whole f.dest f.src f.kind.code f.payload
      ∧ FrameKind.ofCode f.kind.code = some f.kind)
  ∧ ((∀ l : List (Nat × Block), (∀ x ∈ l, x.1 < 256 ∧ ∀ n, x.2.tag = .known n → 1 ≤ n ∧ n ≤ 999) →
      blockItems (l.flatMap fun x => blockItem x.1 x.2) = l.map fun x => (x.1, x.2.occupied, x.2.tag, x.2.dir))
    ∧ ∀ l : List (Nat × Signal), (∀ x ∈ l, x.1 < 256 ∧ x.2.rank ≤ 3) →
      signalItems (l.flatMap fun x => signalItem x.1 x.2) = l.map fun x => (x.1, x.2.rank, x.2.top, x.2.dark))

/-! ## Start-up, image, restart -/

/-- R196: power-on and the reset pin: POWER_UP, the cause, every unit at its power-on values, safe outputs; with the
supply settled the station goes to LOADING. That the input lines stand as they are is the model's choice (log entry 6),
as are the power-on values of the image CRC, the contact and lock filters and the idle line (log entries 24, 25). -/
def Obligations.PowerOnResetPinAndSupply : Prop :=
  (∀ s : State,
      (∃ t, exec .powerOn s = .next t ∧ t.sys = { State.reset.sys with cause := .powerOn }
        ∧ t.units = { Units.initial with free := s.units.free } ∧ t.outputsSafe ∧ t.pins = s.pins ∧ t.pending = s.pending)
      ∧ ∃ t, exec .resetPin s = .next t ∧ t.sys = { State.reset.sys with cause := .resetPin }
        ∧ t.units = { Units.initial with free := s.units.free } ∧ t.outputsSafe ∧ t.pins = s.pins ∧ t.pending = s.pending)
  ∧ (∀ s : State, s.sys.station = .powerUp → ∃ t, exec .supplySettled s = .next t
      ∧ t.sys = { s.sys with station := .loading } ∧ s.units.keepsBut Part.ofEnd t.units)

/-- R197, R199: an accepted image takes the station to ANNOUNCING with its configuration and an ANNOUNCE. R197, R198,
R201: a refused image writes the fault record and takes the station to CONFIG_FAULT and, if it has a number, to an
ANNOUNCE that shows the fault; the checks of an image come in order, and the first failure is the one named. That the
header's fields are judged in the order of R197's list is the model's choice (log entry 17), and that a station with a
refused image has no items configured is the model's reading of R198. The number is the header's, 1 to 62, where every
read of the header, bytes 0 to 25, was answered, whatever failed after it. -/
def Obligations.ImagesAreAcceptedOrRefused : Prop :=
  (∀ (s : State) (i : Image), s.sys.station = .loading → imageFault i = none → s.units.lnk.urgent.length < 4 →
     ∃ t, exec (.imageReadComplete i) s = .next t
       ∧ t.sys = { s.sys with
           station := .announcing, number := some (headerNumber i), crc := BitVec.ofNat 16 (headerField i 4)
           settle := some 0, turntableFlag := (acceptedConfig i).turntable.isSome, cfg := acceptedConfig i }
       ∧ t.units.entries = entriesOf (acceptedConfig i) ∧ t.units.ilk.routes = routesOf (acceptedConfig i)
       ∧ t.units.lnk.carries ⟨63, headerNumber i, .announce,
           announcePayload (headerNumber i) (BitVec.ofNat 16 (headerField i 4)) s.sys.cause false⟩
       ∧ s.units.keepsBut ([.entries, .routes] ++ Part.ofEnd) t.units)
  ∧ ((∀ (s : State) (i : Image) (k : FaultKind) (item : Item), s.sys.station = .loading → imageFault i = some (k, item) →
       let own := payloadAt i.bytes 1
       let number : Option Nat := if i.unread.all (fun a => decide (26 ≤ a)) = true ∧ 1 ≤ own ∧ own ≤ 62 then some own else none
       ∃ t, exec (.imageReadComplete i) s = .next t
         ∧ t.sys.station = .configFault ∧ t.sys.number = number ∧ t.sys.cause = s.sys.cause
         ∧ t.sys.settle = none
         ∧ t.units.record = ⟨k, item, s.units.scaleMinute, saturate s.units.record.count⟩
         ∧ t.sys.cfg.blocks = [] ∧ t.sys.cfg.turnouts = [] ∧ t.sys.cfg.signals = [] ∧ t.sys.cfg.routes = []
         ∧ t.sys.cfg.turntable = none ∧ (∀ n, t.units.route n = .initial ∧ t.units.entry n = none)
         ∧ (∀ n, number = some n → s.units.lnk.urgent.length < 4 →
             t.units.lnk.carries ⟨63, n, .announce, announcePayload n t.sys.crc s.sys.cause true⟩)
         ∧ s.units.keepsBut ([.entries, .routes, .record, .free, .counters] ++ Part.ofEnd) t.units)
   ∧ (∀ i : Image,
       (i.unread.isSome = true → imageFault i = some (.imageRead, .none))
       ∧ (i.unread = none → payloadAt i.bytes 0 ≠ 1 → imageFault i = some (.imageHeader, .headerByte 0))
       ∧ (i.unread = none → payloadAt i.bytes 0 = 1 → 26 ≤ headerField i 2 → headerField i 2 ≤ 8192 →
           (payloadAt i.bytes 1 = 0 ∨ 62 < payloadAt i.bytes 1) → imageFault i = some (.imageHeader, .headerByte 1))
       ∧ (i.unread = none → headerFault i = none → (crc (crcBytes i)).toNat ≠ headerField i 4 →
           imageFault i = some (.imageCrc, .none))
       ∧ (i.unread = none → headerFault i = none → (crc (crcBytes i)).toNat = headerField i 4 →
           imageFault i = (rangeFault (headerNumber i) (imageConfig i)).map fun x => (.imageRange, .imageRecord x.1 x.2))))

/-- R3, R5, R11, R37, R96, R127, R169, R199: the entry into RUNNING, from one reading of the inputs: every configured
block and its filter, OCCUPIED or CLEAR; every configured turnout, FAILED where both contacts are shown (R46); the
proving filter of every configured signal (that it starts there is the model's reading, log entry 20); lock confirm and
deck power; every used button; every published item is marked, the timers start, and what the station knew stays. -/
def Obligations.SettleTimerEntersRunning : Prop :=
  ∀ s : State, s.sys.station = .announcing → s.sys.settle.isSome = true → s.sound → s.signalsSound → s.tableSound →
    let c := s.sys.cfg
    ∃ t, exec .settleTimerExpiry s = .next t
      ∧ t.sys = { s.sys with station := .running, settle := none }
      ∧ (∀ b, let on := s.pins.detectors.getD b false
          if b < 48 ∧ (c.block b).kind ≠ .absent then
            t.units.filter b = ⟨if on then .occupied else .clear, none⟩
            ∧ (t.units.block b).train = (on, if on then .unknown else .none, .unknown)
          else t.units.filter b = s.units.filter b ∧ (t.units.block b).train = (s.units.block b).train)
      ∧ (∀ n, n < 32 → ∀ x, c.turnout n = some x →
          let normal := s.pins.normals.getD n false
          let reverse := s.pins.reverses.getD n false
          let both := x.feedback == .twoContact && normal && reverse
          let p : Option Pos := match x.feedback with
            | .twoContact => if both then none else if normal then some .normal else if reverse then some .reverse else none
            | .reverseContact => some (if reverse then .reverse else .normal)
            | .none => none
          t.units.turnout n = { s.units.turnout n with
            state := if both then .failed else match p with
              | some .normal => .normal
              | some .reverse => .reverse
              | none => .unknown
            proven := p, commanded := p.getD .normal, normalIn := ⟨normal, none⟩, reverseIn := ⟨reverse, none⟩ }
          ∧ (both = true → t.units.lnk.tellsTurnout n ∧ t.units.record.kind = .contactsBoth))
      ∧ (∀ n, c.turnout n = none → t.units.turnout n = s.units.turnout n)
      ∧ (∀ n, n < 24 → (c.signal n).isSome = true → t.units.signal n = { s.units.signal n with
          proving := if (s.units.signal n).dark = s.pins.redLamps.getD n false then some 0 else none })
      ∧ t.units.ttc = (if c.turntable.isSome = true then
          { s.units.ttc with confirm := ⟨s.pins.lock, none⟩, deckPower := s.pins.lock } else s.units.ttc)
      ∧ (∀ k < 16, let x := s.units.button k
          let f : PressFilter := if s.pins.buttons.getD k false then .pressed else .released
          t.units.button k = match (c.button k).kind with
            | .unused => x
            | .stopPlunger => { x with state := .armed, filter := f }
            | .depart | .turntableShow => { x with
                state := if s.units.ase.stop = .empty ∧ s.units.clock.state = .running then .armed else .disabled
                filter := f })
      ∧ (t.units.biu.ready = true ↔ s.units.ttc.phase = .aligned ∧ s.units.ttc.queue = [])
      ∧ (∀ b < 48, c.published b = true → t.units.lnk.reports b)
      ∧ (∀ n < 24, c.signalPublished n = true → t.units.lnk.reportsSignal n)
      ∧ t.units.bkt.republish = some 0 ∧ t.units.bdr.refresh = some 0
      ∧ s.units.keeps [.holders, .mirrors, .carry, .throws, .cdu, .routes, .waiting, .claims, .claimTable, .reception,
          .control, .stop, .watches, .clock, .entries, .free, .rx] t.units

/-- R200, R201, R151, R127: a RESTART for this station alone takes it to LOADING: the running state of every unit is as at
reset; clock, fault record and polarity output kept, and a frame that is being sent, or a row, runs to its end (R175,
R188). Any other RESTART is taken and passed over. -/
def Obligations.RestartKeepsClockRecordAndPolarity : Prop :=
  ∀ (s : State) (x : RxFrame) (rest : List RxFrame), s.units.lnk.rx = x :: rest → x.frame.kind = .restart →
    (takesRestart s.sys x.frame = true → ∃ t, exec .restart s = .next t
      ∧ t.sys = { s.sys with station := .loading, cause := .restart, settle := none }
      ∧ t.units.clock = { s.units.clock with acc := 0 } ∧ t.units.record = s.units.record
      ∧ t.units.ttc = .initial s.units.ttc.reversed
      ∧ t.units.bkt.blocks = List.replicate 48 .initial ∧ t.units.bkt.bmirrors = List.replicate 16 .initial
      ∧ t.units.bkt.smirrors = List.replicate 8 .initial ∧ t.units.tdu.turnouts = List.replicate 32 .initial
      ∧ t.units.tdu.queue = [] ∧ t.units.tdu.cdu = .ready
      ∧ t.units.ilk = ⟨routesOf s.sys.cfg, []⟩ ∧ t.units.clu = ⟨List.replicate 64 .initial, [], none⟩
      ∧ t.units.ase.stop = .empty ∧ t.units.watches = List.replicate 8 none
      ∧ t.units.entries = entriesOf s.sys.cfg ∧ t.units.lnk.rx = [] ∧ t.units.lnk.urgent = []
      ∧ t.units.lnk.ordinary = [] ∧ t.units.lnk.counters = ⟨0, 0, 0, 0, 0⟩
      ∧ t.units.lnk.inHand = lastFrame s.units.lnk.inHand
      ∧ t.units.lnk.markBlocks = [] ∧ t.units.lnk.markSignals = [] ∧ t.units.lnk.order = []
      ∧ t.units.lnk.faults = .empty ∧ t.units.lnk.tracking = .empty
      ∧ t.units.filters = List.replicate 48 .initial ∧ t.units.bkt.republish = none
      ∧ t.units.trk.carry = none ∧ t.units.trk.lapse = none ∧ t.units.ase.signals = List.replicate 24 .initial
      ∧ t.units.biu.buttons = List.replicate 16 .initial ∧ t.units.biu.ready = false
      ∧ t.units.bdr.refresh = none
      ∧ (s.units.bdr.line.isSome = true → t.units.bdr.line = s.units.bdr.line
          ∧ t.units.bdr.rows = List.replicate 5 ⟨List.replicate 32 0x20, none, true⟩)
      ∧ (s.units.bdr.line = none → t.units.bdr.line = some ⟨0, List.replicate 32 0x20⟩
          ∧ t.units.bdr.rows = ⟨List.replicate 32 0x20, some (List.replicate 32 0x20), false⟩
              :: List.replicate 4 ⟨List.replicate 32 0x20, none, true⟩))
    ∧ (takesRestart s.sys x.frame = false → exec .restart s = .next { s with units := s.taken rest })

/-! ## Detectors, blocks and tags -/

/-- R1, R6, R21 to R24, R31: the rise filter of a configured CLEAR block has counted its time: filter and block are
OCCUPIED. The block takes the carry's tag; else the known tag before it on its route in SET, APPROACH_HELD or IN_USE, with
the route's direction; else its neighbours' one known tag, with their common direction; else it is told as a stray. R1,
R6, R20, R25, R30: the drop filter has counted its time: filter and block are CLEAR, tag and direction are dropped, and a
known tag that no neighbour holds, every mirror neighbour being FRESH, is told as lost, unless the deck carry keeps it; no
other is. -/
def Obligations.DetectorsChangeTheirBlocks : Prop :=
  (∀ (s : State) (b : Nat), s.sys.station = .running → s.units.sized → b < 48 → s.units.nothingWaits →
     (s.units.filter b).state = .rising → (s.units.block b).occupied = false →
     ∃ t, exec (.detectorRiseExpiry b) s = .next t
       ∧ t.units.filter b = ⟨.occupied, none⟩ ∧ (∀ i, i ≠ b → t.units.filter i = s.units.filter i)
       ∧ (t.units.block b).occupied = true
       ∧ (let u := { s.units with bkt.blocks := s.units.bkt.blocks.modify b fun x => { x with occupied := true } }
          let train := ((t.units.block b).tag, (t.units.block b).dir)
          let seen (r : BlockRef) : Option (Nat × Dir) := match r with
            | .here a => match (u.block a).occupied, (u.block a).tag with
              | true, .known n => some (n, (u.block a).dir)
              | _, _ => none
            | .mirror i => match (u.bmirror i).freshness, (u.bmirror i).occupied, (u.bmirror i).tag with
              | .fresh, true, .known n => some (n, (u.bmirror i).dir)
              | _, _, _ => none
          let before (r : RouteCfg) : Option BlockRef := match r.path.idxOf? b with
            | some 0 => (s.sys.cfg.signal r.entry).bind fun c => c.approach
            | some (i + 1) => (r.path[i]?).map .here
            | none => none
          let route : Option (Tag × Dir) := match (u.block b).holder with
            | .route n => (s.sys.cfg.route n).bind fun r =>
              if (u.route n).state = .set ∨ (u.route n).state = .approachHeld ∨ (u.route n).state = .inUse then
                ((before r).bind seen).map fun x => (.known x.1, r.dir)
              else none
            | _ => none
          let near := (s.sys.cfg.block b).neighbours.filterMap seen
          let notStray := t.units.lnk.tellsStray b → s.units.lnk.tellsStray b
          match s.env.deck == some b, s.units.trk.carry with
          | true, some c => train = (c.tag, c.dir) ∧ t.units.trk.carry = none ∧ notStray
          | _, _ => t.units.trk.carry = s.units.trk.carry ∧ match route, near with
            | some x, _ => train = x ∧ notStray
            | none, (n, d) :: rest =>
              ((∀ y ∈ rest, y.1 = n) →
                train = (.known n, if ∀ y ∈ rest, y.2 = d then d else .unknown) ∧ notStray)
              ∧ ((∃ y ∈ rest, y.1 ≠ n) → train = (.unknown, .unknown) ∧ t.units.lnk.tellsStray b)
            | none, [] => train = (.unknown, .unknown) ∧ t.units.lnk.tellsStray b)
       ∧ (∀ i, i ≠ b → (t.units.block i).train = (s.units.block i).train)
       ∧ (s.sys.cfg.published b = true → t.units.lnk.reports b)
       ∧ s.units.keepsBut ([.filters, .occupancy, .carry, .routes, .claimTable, .control] ++ Part.ofCalm) t.units)
  ∧ (∀ (s : State) (b : Nat), s.sys.station = .running → s.units.sized → b < 48 →
     (s.units.filter b).state = .falling → (s.units.block b).occupied = true →
     ∃ t, exec (.detectorDropExpiry b) s = .next t
       ∧ t.units.filter b = ⟨.clear, none⟩ ∧ (∀ i, i ≠ b → t.units.filter i = s.units.filter i)
       ∧ (t.units.block b).train = (false, .none, .unknown)
       ∧ (∀ i, i ≠ b → (t.units.block i).train = (s.units.block i).train)
       ∧ (let held (n : Nat) : Prop := ∃ r ∈ (s.sys.cfg.block b).neighbours, match r with
            | .here a => a ≠ b ∧ (s.units.block a).occupied = true ∧ (s.units.block a).tag = .known n
            | .mirror i => (s.units.bmirror i).freshness = .fresh ∧ (s.units.bmirror i).occupied = true
                ∧ (s.units.bmirror i).tag = .known n
          let unsure : Prop := ∃ r ∈ (s.sys.cfg.block b).neighbours, match r with
            | .here _ => False
            | .mirror i => (s.units.bmirror i).freshness ≠ .fresh
          let carried : Prop := s.env.deck = some b ∧ s.units.trk.carry.isSome = true
          match (s.units.block b).tag with
          | .known n => (¬ held n → ¬ unsure → ¬ carried → t.units.lnk.tellsLostTag b)
              ∧ (held n ∨ unsure ∨ carried → t.units.lnk.tellsLostTag b → s.units.lnk.tellsLostTag b)
          | .none | .unknown => t.units.lnk.tellsLostTag b → s.units.lnk.tellsLostTag b)
       ∧ (s.sys.cfg.published b = true → t.units.lnk.reports b)
       ∧ s.units.keeps [.mirrors, .republish, .reception, .stop, .clock, .record, .free, .rx, .refresh] t.units)

/-- R11, R194: the republish timer's expiry and a REFRESH QUERY mark every published item, and change nothing else
but the timer, which counts afresh. A REFRESH QUERY taken while ANNOUNCING marks nothing. -/
def Obligations.RepublishAndRefreshMarkEveryPublishedItem : Prop :=
  (∀ s : State, s.sys.station = .running → s.units.bkt.republish.isSome = true →
    ∃ t, exec .republishTimerExpiry s = .next t ∧ t.units.bkt.republish = some 0
      ∧ (∀ b < 48, s.sys.cfg.published b = true → t.units.lnk.reports b)
      ∧ (∀ n < 24, s.sys.cfg.signalPublished n = true → t.units.lnk.reportsSignal n)
      ∧ s.units.keepsBut (.republish :: Part.ofEnd) t.units)
  ∧ (∀ (s : State) (x : RxFrame) (rest : List RxFrame), s.receives .refreshQuery x rest →
    ∃ t, exec .refreshQuery s = .next t
      ∧ (∀ b < 48, s.sys.cfg.published b = true → t.units.lnk.reports b)
      ∧ (∀ n < 24, s.sys.cfg.signalPublished n = true → t.units.lnk.reportsSignal n)
      ∧ (s.taken rest).keepsBut Part.ofEnd t.units)
  ∧ ∀ (s : State) (x : RxFrame) (rest : List RxFrame), s.sys.station = .announcing → s.units.lnk.rx = x :: rest →
    x.frame.kind = .refreshQuery → ∃ t, exec .refreshQuery s = .next t
      ∧ (∀ b, t.units.lnk.reports b → s.units.lnk.reports b)
      ∧ (∀ n, t.units.lnk.reportsSignal n → s.units.lnk.reportsSignal n)
      ∧ (s.taken rest).keepsBut Part.ofEnd t.units

/-- R16: a mirror whose lapse timer expires is STALE, keeps its contents, and its timer is stopped. R14, R15, R18: a
report taken, ANNOUNCING or RUNNING, fills the mirrors of its items, FRESH from zero unless it preceded a loss; a CLEAR
item carries no tag and no direction. -/
def Obligations.MirrorsAreFilledAndLapse : Prop :=
  (∀ (s : State) (i : Nat), s.env.mirrors = true →
     ((s.units.bmirror i).lapse.isSome = true → ∃ t, exec (.mirrorLapse (.block i)) s = .next t
       ∧ t.units.bkt.bmirrors = s.units.bkt.bmirrors.modify i (fun m => { m with freshness := .stale, lapse := none })
       ∧ t.units.bkt.smirrors = s.units.bkt.smirrors
       ∧ s.units.keepsBut ([.mirrors, .control] ++ Part.ofCalm) t.units)
     ∧ ((s.units.smirror i).lapse.isSome = true → ∃ t, exec (.mirrorLapse (.signal i)) s = .next t
       ∧ t.units.bkt.smirrors = s.units.bkt.smirrors.modify i (fun m => { m with freshness := .stale, lapse := none })
       ∧ t.units.bkt.bmirrors = s.units.bkt.bmirrors
       ∧ s.units.keepsBut (.mirrors :: Part.ofCalm) t.units))
  ∧ (∀ (s : State) (x : RxFrame) (rest : List RxFrame), s.env.mirrors = true → s.units.lnk.rx = x :: rest →
     let fresh (f : Freshness) (l : Timer) : Freshness × Timer := if x.precedes then (f, l) else (.fresh, some 0)
     (x.frame.kind = .occupancyReport → ∃ t, exec .occupancyReportTaken s = .next t
       ∧ t.units.bkt.bmirrors = (blockItems x.frame.payload).foldl (fun l y =>
           match s.sys.cfg.bmirrors.idxOf? (some ⟨x.frame.src, y.1⟩) with
           | some i => l.modify i fun m => ⟨(fresh m.freshness m.lapse).1, (fresh m.freshness m.lapse).2, y.2.1,
               if y.2.1 then y.2.2.1 else .none, if y.2.1 then y.2.2.2 else .unknown⟩
           | none => l) s.units.bkt.bmirrors
       ∧ t.units.bkt.smirrors = s.units.bkt.smirrors
       ∧ (s.taken rest).keeps [.filters, .occupancy, .republish, .claimTable, .reception, .stop, .clock, .record, .free,
           .rx, .refresh] t.units)
     ∧ (x.frame.kind = .aspectReport → ∃ t, exec .aspectReportTaken s = .next t
       ∧ t.units.bkt.smirrors = (signalItems x.frame.payload).foldl (fun l y =>
           match s.sys.cfg.smirrors.idxOf? (some ⟨x.frame.src, y.1⟩) with
           | some i => l.modify i fun m => ⟨(fresh m.freshness m.lapse).1, (fresh m.freshness m.lapse).2, y.2.1, y.2.2.1,
               y.2.2.2⟩
           | none => l) s.units.bkt.smirrors
       ∧ t.units.bkt.bmirrors = s.units.bkt.bmirrors
       ∧ (s.taken rest).keepsBut (.mirrors :: .claims :: Part.ofCalm) t.units))

/-- R17, R11, R94, R117: an ANNOUNCE taken: the mirrors of its source are STALE, every published item is marked, the
source's claims and WATCH entries go, and its possessions stay. Taken while ANNOUNCING, it makes the mirrors STALE alone. -/
def Obligations.AnnounceForgetsTheSender : Prop :=
  ∀ (s : State) (x : RxFrame) (rest : List RxFrame), s.env.mirrors = true → s.units.lnk.rx = x :: rest →
    x.frame.kind = .announce → s.units.sized →
    ∃ t, exec .announceTaken s = .next t
      ∧ (∀ i < 16, ∀ m, s.sys.cfg.bmirror i = some m →
          t.units.bmirror i = if m.owner = x.frame.src then { s.units.bmirror i with freshness := .stale, lapse := none }
            else s.units.bmirror i)
      ∧ (∀ i < 8, ∀ m, s.sys.cfg.smirror i = some m →
          t.units.smirror i = if m.owner = x.frame.src then { s.units.smirror i with freshness := .stale, lapse := none }
            else s.units.smirror i)
      ∧ (s.sys.station = .running →
        t.units.clu.table = s.units.clu.table.filter (fun y => y.requester != x.frame.src)
        ∧ (∀ n < 8, ∀ w, s.units.watch n = some w →
            if w.setter = x.frame.src ∧ w.kind = .watch then t.units.watch n = none
            else ∃ k, t.units.watch n = some { w with kind := k } ∧ (k = .watch ↔ w.kind = .watch))
        ∧ (∀ b < 48, s.sys.cfg.published b = true → t.units.lnk.reports b)
        ∧ (∀ n < 24, s.sys.cfg.signalPublished n = true → t.units.lnk.reportsSignal n))
      ∧ (s.sys.station = .announcing → s.units.nothingWaits →
          (s.taken rest).keepsBut ([.mirrors, .routes, .holders, .turnouts, .claims, .control] ++ Part.ofCalm) t.units)
      ∧ (s.taken rest).keeps [.filters, .occupancy, .republish, .reception, .stop, .clock, .record, .rx, .refresh] t.units

/-- R33: the deck carry lapses: it is empty, and a known tag that no neighbour of the deck holds, every mirror
neighbour being FRESH, is told as lost. -/
def Obligations.DeckCarryLapseEmptiesTheCarry : Prop :=
  ∀ (s : State) (c : Carry) (d : Nat), s.sys.station = .running → s.units.trk.lapse.isSome = true →
    s.units.trk.carry = some c → s.env.deck = some d →
    ∃ t, exec .deckCarryLapse s = .next t ∧ t.units.trk.carry = none
      ∧ (∀ n, c.tag = .known n →
          (∀ r ∈ (s.sys.cfg.block d).neighbours, (s.units.trainAt r).map Prod.fst ≠ some n) →
          (∀ i, .mirror i ∈ (s.sys.cfg.block d).neighbours → (s.units.bmirror i).freshness = .fresh) →
          t.units.lnk.tellsLostTag d)
      ∧ s.units.keepsBut (.carry :: Part.ofEnd) t.units

/-- R28, R29: a TAG SET: its four checks in order, each with its answer; passed, the tag is on the block, with the
direction as it was, and on a deck also in the carry. -/
def Obligations.TagSetWritesTheTag : Prop :=
  ∀ (s : State) (x : RxFrame) (rest : List RxFrame) (n : Nat), s.env.mirrors = true →
    s.units.lnk.rx = x :: rest → x.frame.kind = .tagSet → s.canSend n →
    let b := payloadAt x.frame.payload 0
    let f := tagField (x.frame.payload.getD 1 0) (x.frame.payload.getD 2 0)
    let told (t : State) (c : Code) := t.units.lnk.carries ⟨x.frame.src, n, .answer, answerPayload .tagSet b c⟩
    let refused (c : Code) := ∃ t, exec .tagSet s = .next t ∧ told t c ∧ (s.taken rest).keepsBut Part.ofEnd t.units
    if s.sys.station ≠ .running then refused .notRunning
    else if 48 ≤ b ∨ (s.sys.cfg.block b).kind = .absent then refused .badItem
    else if (s.units.block b).occupied = false then refused .notOccupied
    else if f = 0 ∨ 999 < f then refused .badTag
    else s.units.nothingWaits → ∃ t, exec .tagSet s = .next t ∧ told t .done
      ∧ (t.units.block b).train = (true, .known f, (s.units.block b).dir)
      ∧ (∀ i, i ≠ b → (t.units.block i).train = (s.units.block i).train)
      ∧ t.units.trk.carry = (if s.env.deck = some b then s.units.trk.carry.map fun c => { c with tag := .known f }
          else s.units.trk.carry)
      ∧ ((s.units.block b).tag ≠ .known f → s.sys.cfg.published b = true → t.units.lnk.reports b)
      ∧ (s.taken rest).keepsBut ([.occupancy, .carry] ++ Part.ofCalm) t.units

/-! ## Input lines -/

/-- R1, R36, R106, R129, R170: what a change of an input line does to its filter while RUNNING; nothing else but the
line changes. -/
def Obligations.InputChangesStepTheirFilters : Prop :=
  ∀ (s : State) (n : Nat) (level : Bool), s.sys.station = .running →
    (∃ t, exec (.detectorInputChange n level) s = .next t
      ∧ t.pins = { s.pins with detectors := s.pins.detectors.set n level }
      ∧ t.units.filters = (if (s.sys.cfg.block n).kind = .absent then s.units.filters
          else s.units.filters.modify n fun x => match x.state, level with
            | .clear, true => ⟨.rising, some 0⟩
            | .rising, false => ⟨.clear, none⟩
            | .occupied, false => ⟨.falling, some 0⟩
            | .falling, true => ⟨.occupied, none⟩
            | _, _ => x)
      ∧ s.units.keepsBut (.filters :: Part.ofEnd) t.units)
    ∧ (∀ (c : TurnoutCfg) (x : Contact), s.sys.cfg.turnout n = some c → c.feedback ≠ .none →
        let count (f : ContactFilter) : ContactFilter :=
          ⟨f.level, if level = f.level then none else some (f.timer.getD 0)⟩
        ∃ t, exec (.turnoutContactInputChange n x level) s = .next t
        ∧ t.pins = (match x with
            | .normal => { s.pins with normals := s.pins.normals.set n level }
            | .reverse => { s.pins with reverses := s.pins.reverses.set n level })
        ∧ t.units.tdu.turnouts = (s.units.tdu.turnouts.modify n fun y => match x with
            | .normal => { y with normalIn := count y.normalIn }
            | .reverse => { y with reverseIn := count y.reverseIn })
        ∧ s.units.keepsBut (.turnouts :: Part.ofEnd) t.units)
    ∧ (∀ c, s.sys.cfg.signal n = some c → ∃ t, exec (.redLampInputChange n level) s = .next t
        ∧ t.pins = { s.pins with redLamps := s.pins.redLamps.set n level }
        ∧ t.units.ase.signals = (s.units.ase.signals.modify n fun g => { g with
            proving := if g.rank = 0 ∧ g.dark = level then some (g.proving.getD 0) else none })
        ∧ s.units.keepsBut (.ranks :: Part.ofEnd) t.units)
    ∧ (s.sys.cfg.turntable.isSome = true → ∃ t, exec (.lockConfirmInputChange level) s = .next t
        ∧ t.pins = { s.pins with lock := level }
        ∧ t.units.ttc = { s.units.ttc with confirm := ⟨s.units.ttc.confirm.level,
            if level = s.units.ttc.confirm.level then none else some (s.units.ttc.confirm.timer.getD 0)⟩ }
        ∧ s.units.keepsBut (.table :: Part.ofEnd) t.units)
    ∧ ∃ t, exec (.buttonInputChange n level) s = .next t
      ∧ t.pins = { s.pins with buttons := s.pins.buttons.set n level }
      ∧ t.units.biu.buttons = (if (s.sys.cfg.button n).kind = .unused then s.units.biu.buttons
          else s.units.biu.buttons.modify n fun x => match x.filter, level with
            | .released, true => { x with filter := .pressing, timer := some 0 }
            | .pressing, false => { x with filter := .released, timer := none }
            | .pressed, false => { x with filter := .releasing, timer := some 0 }
            | .releasing, true => { x with filter := .pressed, timer := none }
            | _, _ => x)
      ∧ s.units.keepsBut (.buttons :: Part.ofEnd) t.units

/-! ## Turnouts -/

/-- R36, R46, R47, R50, R201: a feedback change of a turnout at rest, by its feedback kind. Unheld it follows the
reading, a position proven being its state and its commanded position. Both contacts shown, or any change of a held
turnout at rest, fail it: no drive, no queued throw, its requester answered THROW_FAILED, the fault recorded and told.
That a turnout already FAILED which comes to show both contacts is recorded and told again is the model's reading (log
entry 10). A FAILED turnout that comes to prove a position rests there if it is unheld, or if the position is its commanded
one; otherwise it stays FAILED. A change of a contact that the kind does not read changes its filtered level only. -/
def Obligations.FeedbackMovesOrFailsATurnout : Prop :=
  ∀ (s : State) (n : Nat) (c : TurnoutCfg) (normal reverse : Bool) (x : Turnout), s.sys.station = .running →
    s.sys.cfg.turnout n = some c → s.units.tdu.turnouts[n]? = some x →
    let reads : Bool := match c.feedback with
      | .twoContact => x.normalIn.level != normal || x.reverseIn.level != reverse
      | .reverseContact => x.reverseIn.level != reverse
      | .none => false
    let both : Bool := c.feedback == .twoContact && normal && reverse
    let p : Option Pos := match c.feedback with
      | .twoContact => if normal then some .normal else if reverse then some .reverse else none
      | .reverseContact => some (if reverse then .reverse else .normal)
      | .none => none
    let y : Turnout := { x with
      normalIn := if x.normalIn.level = normal then x.normalIn else ⟨normal, none⟩
      reverseIn := if x.reverseIn.level = reverse then x.reverseIn else ⟨reverse, none⟩ }
    let rests := x.state = .normal ∨ x.state = .reverse ∨ x.state = .unknown
    (reads = false → ∃ t, exec (.turnoutFeedbackChange n normal reverse) s = .next t ∧ t.units.turnout n = y
      ∧ (∀ i, i ≠ n → t.units.turnout i = s.units.turnout i) ∧ s.units.keepsBut (.turnouts :: Part.ofEnd) t.units)
    ∧ (s.units.nothingWaits → s.units.noRouteAwaits s.sys.cfg n → reads = true → both = false → x.held = false → rests →
      ∃ t, exec (.turnoutFeedbackChange n normal reverse) s = .next t
        ∧ t.units.turnout n = { y with
            proven := p, commanded := p.getD x.commanded
            state := match p with
              | some .normal => .normal
              | some .reverse => .reverse
              | none => .unknown }
        ∧ (∀ i, i ≠ n → t.units.turnout i = s.units.turnout i)
        ∧ s.units.keepsBut (.turnouts :: Part.ofCalm) t.units)
    ∧ (s.units.nothingWaits → s.units.noRouteAwaits s.sys.cfg n → reads = true → both = false → x.state = .failed →
      ∃ t, exec (.turnoutFeedbackChange n normal reverse) s = .next t
        ∧ t.units.turnout n = (match p with
          | some q => if x.held = false ∨ q = x.commanded then { y with
                proven := p, commanded := q, state := if q = .normal then .normal else .reverse }
              else { y with proven := p }
          | none => { y with proven := p })
        ∧ (∀ i, i ≠ n → t.units.turnout i = s.units.turnout i)
        ∧ s.units.keepsBut (.turnouts :: Part.ofCalm) t.units)
    ∧ (s.units.nothingWaits → s.units.noRouteAwaits s.sys.cfg n → reads = true → (both = true ∨ x.held = true ∧ rests) →
      (x.state = .moving → c.drive = .solenoid) →
      ∃ t, exec (.turnoutFeedbackChange n normal reverse) s = .next t
        ∧ t.units.turnout n = { y with
            proven := if both then none else p, state := .failed, drive := none, requester := none }
        ∧ (∀ i, i ≠ n → t.units.turnout i = s.units.turnout i)
        ∧ t.units.tdu.queue = s.units.tdu.queue.filter (fun z => z.1 != n)
        ∧ (∀ m q, s.canSend m → x.requester = some q →
            t.units.lnk.carries ⟨q, m, .answer, answerPayload .turnoutRequest n .throwFailed⟩)
        ∧ t.units.lnk.tellsTurnout n
        ∧ t.units.record = ⟨if both then .contactsBoth else .proofLost, .turnout n, s.units.scaleMinute,
            saturate s.units.record.count⟩
        ∧ s.units.keepsBut ([.turnouts, .throws, .record] ++ Part.ofCalm) t.units)

/-- R40, R43 to R45, R47: a feedback change of a turnout that is QUEUED or MOVING and shows no contradiction. A proof of
the commanded position takes a QUEUED turnout out of the queue, and its requester is answered DONE. A proof of the drive
position in the confirm window or of a running motor ends the drive: at rest there, or, where a throw came meanwhile,
QUEUED again for the commanded position, its new drive starting at once if its resource is free and its block CLEAR. Any
other change, and any change in the pulse, is only noted. -/
def Obligations.QueuedAndMovingTurnouts : Prop :=
  ∀ (s : State) (n : Nat) (c : TurnoutCfg) (normal reverse : Bool) (x : Turnout) (p : Option Pos),
    s.sys.station = .running → s.units.sized → s.units.nothingWaits → s.units.noRouteAwaits s.sys.cfg n →
    s.sys.cfg.turnout n = some c → s.units.tdu.turnouts[n]? = some x →
    (c.feedback = .twoContact ∧ (x.normalIn.level ≠ normal ∨ x.reverseIn.level ≠ reverse) ∧ (normal && reverse) = false
        ∧ p = (if normal then some .normal else if reverse then some .reverse else none)
      ∨ c.feedback = .reverseContact ∧ x.reverseIn.level ≠ reverse ∧ p = some (if reverse then .reverse else .normal)) →
    let y : Turnout := { x with
      normalIn := if x.normalIn.level = normal then x.normalIn else ⟨normal, none⟩
      reverseIn := if x.reverseIn.level = reverse then x.reverseIn else ⟨reverse, none⟩
      proven := p }
    ∃ t, exec (.turnoutFeedbackChange n normal reverse) s = .next t
      ∧ (∀ i, i ≠ n → s.units.tdu.queue = [] → t.units.turnout i = s.units.turnout i)
      ∧ (x.state = .queued → p = some x.commanded →
          t.units.turnout n = { y with state := if x.commanded = .normal then .normal else .reverse, requester := none }
          ∧ t.units.tdu.queue = s.units.tdu.queue.filter (fun z => z.1 != n)
          ∧ (∀ m q, s.canSend m → x.requester = some q →
              t.units.lnk.carries ⟨q, m, .answer, answerPayload .turnoutRequest n .done⟩)
          ∧ s.units.keepsBut ([.turnouts, .throws] ++ Part.ofCalm) t.units)
      ∧ (x.state = .queued → p ≠ some x.commanded →
          t.units.turnout n = y ∧ s.units.keepsBut (.turnouts :: Part.ofEnd) t.units)
      ∧ ∀ d : Drive, x.state = .moving → x.drive = some d →
          ((d.stage = .pulse ∨ p ≠ some d.pos) →
            t.units.turnout n = y ∧ s.units.keepsBut (.turnouts :: Part.ofEnd) t.units)
          ∧ (d.stage ≠ .pulse → p = some d.pos → x.commanded = d.pos → s.units.tdu.queue = [] →
            t.units.turnout n = { y with
              state := if d.pos = .normal then .normal else .reverse, drive := none, requester := none }
            ∧ (∀ m q, s.canSend m → x.requester = some q →
                t.units.lnk.carries ⟨q, m, .answer, answerPayload .turnoutRequest n .done⟩)
            ∧ s.units.keepsBut (.turnouts :: Part.ofCalm) t.units)
          ∧ (d.stage ≠ .pulse → p = some d.pos → x.commanded ≠ d.pos → s.units.tdu.queue = [] →
            s.units.motorsMoving s.env ≤ 4 →
            let starts := (s.units.block c.owning).occupied = false ∧ (c.drive = .solenoid → s.units.tdu.cdu = .ready)
            (starts → t.units.turnout n = { y with
                drive := some ⟨x.commanded, if c.drive = .solenoid then .pulse else .motor 0⟩ }
              ∧ t.units.tdu.queue = []
              ∧ t.units.tdu.cdu = if c.drive = .solenoid then .pulsing n 0 else s.units.tdu.cdu)
            ∧ (¬ starts → t.units.turnout n = { y with state := .queued, drive := none }
              ∧ t.units.tdu.queue = [(n, x.commanded)] ∧ t.units.tdu.cdu = s.units.tdu.cdu)
            ∧ s.units.keepsBut ([.turnouts, .throws, .cdu] ++ Part.ofCalm) t.units)

/-- R48: the checks of a TURNOUT REQUEST, in order, each with its answer, and DONE for a turnout that is proven in the
position asked for. R39, R41, R42, R44: a request that passes throws the turnout: with nothing else queued its drive
starts at once if its resource is free, and otherwise its throw is queued; the requester waits. A throw that is QUEUED or
MOVING is redirected and keeps its place or its drive (that this holds too for a request naming the drive position of one
redirected before is the model's choice, log entry 41), and another requester is answered CONFLICT. -/
def Obligations.TurnoutRequestsAreCheckedAndThrown : Prop :=
  (∀ (s : State) (x : RxFrame) (rest : List RxFrame) (m : Nat), s.env.mirrors = true →
     s.units.lnk.rx = x :: rest → x.frame.kind = .turnoutRequest → s.canSend m →
     let n := payloadAt x.frame.payload 0
     let answered (c : Code) := ∃ t, exec .turnoutRequest s = .next t
       ∧ t.units.lnk.carries ⟨x.frame.src, m, .answer, answerPayload .turnoutRequest n c⟩
       ∧ (s.taken rest).keepsBut Part.ofEnd t.units
     (s.sys.station ≠ .running → answered .notRunning)
     ∧ (s.sys.station = .running → (32 ≤ n ∨ s.sys.cfg.turnout n = none ∨ 2 ≤ payloadAt x.frame.payload 1) →
         answered .badItem)
     ∧ ∀ (c : TurnoutCfg) (p : Pos), s.sys.station = .running → n < 32 → s.sys.cfg.turnout n = some c →
         payloadAt x.frame.payload 1 = (if p = .normal then 0 else 1) →
         (((s.units.turnout n).pathHolder.isSome = true ∨ 0 < (s.units.turnout n).flankCount) → answered .conflict)
         ∧ ((s.units.turnout n).pathHolder = none → (s.units.turnout n).flankCount = 0 →
             (s.units.block c.owning).occupied = true → answered .occupied)
         ∧ ((s.units.turnout n).pathHolder = none → (s.units.turnout n).flankCount = 0 →
             (s.units.block c.owning).occupied = false →
             (s.units.turnout n).state = (if p = .normal then .normal else .reverse) → answered .done))
  ∧ (∀ (s : State) (x : RxFrame) (rest : List RxFrame) (c : TurnoutCfg) (p : Pos),
     s.receives .turnoutRequest x rest → s.units.nothingWaits → s.units.sized →
     let n := payloadAt x.frame.payload 0
     let y := s.units.turnout n
     n < 32 → s.sys.cfg.turnout n = some c → payloadAt x.frame.payload 1 = (if p = .normal then 0 else 1) →
     y.pathHolder = none → y.flankCount = 0 → y.requester = none → (s.units.block c.owning).occupied = false →
     (y.state = .unknown ∨ y.state = .failed ∨ y.state = (if p = .normal then .reverse else .normal)) →
     s.units.proven c.feedback n ≠ some p → s.units.tdu.queue = [] →
     let starts : Bool := match c.drive with
       | .solenoid => s.units.tdu.cdu == .ready
       | .motor => decide (s.units.motorsMoving s.env < 4)
     let stage : DriveStage := if c.drive = .solenoid then .pulse else .motor 0
     ∃ t, exec .turnoutRequest s = .next t
       ∧ t.units.turnout n = { y with
           commanded := p, requester := some x.frame.src
           state := if starts then .moving else .queued
           drive := if starts then some ⟨p, stage⟩ else none }
       ∧ (∀ i, i ≠ n → t.units.turnout i = s.units.turnout i)
       ∧ t.units.tdu.queue = (if starts then [] else [(n, p)])
       ∧ t.units.tdu.cdu = (if starts = true ∧ c.drive = .solenoid then .pulsing n 0 else s.units.tdu.cdu)
       ∧ (s.taken rest).keepsBut ([.turnouts, .throws, .cdu] ++ Part.ofCalm) t.units)
  ∧ (∀ (s : State) (x : RxFrame) (rest : List RxFrame) (c : TurnoutCfg) (p : Pos),
     s.receives .turnoutRequest x rest → s.units.sized →
     let n := payloadAt x.frame.payload 0
     let y := s.units.turnout n
     n < 32 → s.sys.cfg.turnout n = some c → payloadAt x.frame.payload 1 = (if p = .normal then 0 else 1) →
     y.pathHolder = none → y.flankCount = 0 → (s.units.block c.owning).occupied = false →
     (y.state = .moving ∨ y.state = .queued ∧ s.units.proven c.feedback n ≠ some p) →
     ∃ t, exec .turnoutRequest s = .next t
       ∧ t.units.turnout n = { y with commanded := p, requester := some x.frame.src }
       ∧ (∀ i, i ≠ n → t.units.turnout i = s.units.turnout i)
       ∧ t.units.tdu.queue = (if y.state = .moving then s.units.tdu.queue
           else s.units.tdu.queue.map fun e => if e.1 = n then (n, p) else e)
       ∧ (∀ m q, s.canSend m → y.requester = some q → q ≠ x.frame.src →
           t.units.lnk.carries ⟨q, m, .answer, answerPayload .turnoutRequest n .conflict⟩)
       ∧ (s.taken rest).keepsBut ([.turnouts, .throws] ++ Part.ofEnd) t.units)

/-- R41 to R43: the pulse ends: the CDU recharges; a proof puts the turnout at rest and answers its requester DONE, and
without one the confirm window runs. The recharge ends: the CDU is ready, or at once pulses the oldest queued throw,
if that is a solenoid's whose owning block is CLEAR. -/
def Obligations.CduPulsesAndRecharges : Prop :=
  (∀ (s : State) (n k : Nat) (c : TurnoutCfg) (y : Turnout) (pos : Pos), s.sys.station = .running →
      s.units.nothingWaits → s.units.noRouteAwaits s.sys.cfg n → s.units.tdu.cdu = .pulsing n k →
      s.sys.cfg.turnout n = some c → c.drive = .solenoid → s.units.tdu.turnouts[n]? = some y →
      y.drive = some ⟨pos, .pulse⟩ → y.commanded = pos →
      ∃ t, exec .solenoidPulseEnd s = .next t ∧ t.units.tdu.cdu = .recharging 0
        ∧ (if c.feedback = .none ∨ s.units.proven c.feedback n = some pos then
            t.units.turnout n = { y with
              state := if pos = .normal then .normal else .reverse
              proven := if c.feedback = .none then some pos else y.proven, drive := none, requester := none }
            ∧ ∀ m q, s.canSend m → y.requester = some q →
                t.units.lnk.carries ⟨q, m, .answer, answerPayload .turnoutRequest n .done⟩
          else t.units.turnout n = { y with drive := some ⟨pos, .window 0⟩ })
        ∧ (∀ i, i ≠ n → t.units.turnout i = s.units.turnout i)
        ∧ s.units.keepsBut ([.turnouts, .cdu] ++ Part.ofCalm) t.units)
  ∧ (∀ (s : State) (k : Nat), s.sys.station = .running → s.units.tdu.cdu = .recharging k →
      ∃ t, exec .cduRechargeExpiry s = .next t
        ∧ (s.units.tdu.queue = [] → t.units.tdu.cdu = .ready ∧ t.units.tdu.turnouts = s.units.tdu.turnouts)
        ∧ (∀ n p q c y, s.units.tdu.queue = (n, p) :: q → s.sys.cfg.turnout n = some c → c.drive = .solenoid →
            (s.units.block c.owning).occupied = false → s.units.tdu.turnouts[n]? = some y →
            t.units.tdu.cdu = .pulsing n 0
            ∧ t.units.turnout n = { y with state := .moving, drive := some ⟨y.commanded, .pulse⟩ }
            ∧ ∀ e ∈ t.units.tdu.queue, e.1 ≠ n ∧ e ∈ q)
        ∧ s.units.keepsBut ([.turnouts, .throws, .cdu] ++ Part.ofEnd) t.units)

/-- Law L10 (R40 to R44): in every state that a step leaves, at most four motors are MOVING and at most one turnout is
pulsed, the one that the CDU names; it rests on what the queue and the drives say of one another, which every step
keeps. A run of the arbiter by itself leaves no more than four motors MOVING. -/
def Obligations.EveryStepKeepsLawL10 : Prop :=
  (∀ s t : State, s.units.sized → Lawful s.sys.cfg → s.units.drivesSound s.env → step s = .next t →
    t.units.drivesSound t.env ∧ t.units.motorsMoving t.env ≤ 4
    ∧ ∀ a b p q, (t.units.turnout a).drive = some ⟨p, .pulse⟩ → (t.units.turnout b).drive = some ⟨q, .pulse⟩ →
      a = b ∧ ∃ k, t.units.tdu.cdu = .pulsing a k)
  ∧ ∀ (v : Env) (e : Ev), e.u.motorsMoving v ≤ 4 → (e.arbiter v).u.motorsMoving v ≤ 4

/-- R43, R44, R45, R46: a drive that ends without proof in the position commanded fails the turnout with THROW_TIMEOUT;
for feedback NONE the end of the motor's time is the proof. R40, R42, R45: where a throw came during the drive, its end,
proven or not, is no failure: the turnout is at rest if the feedback proves the commanded position, and otherwise QUEUED
for it, its new drive starting at once if its resource is free and its block CLEAR. -/
def Obligations.DriveTimesRunOut : Prop :=
  (∀ (s : State) (n k : Nat) (c : TurnoutCfg) (y : Turnout) (pos : Pos), s.sys.station = .running →
    s.units.nothingWaits → s.units.noRouteAwaits s.sys.cfg n → s.sys.cfg.turnout n = some c →
    s.units.tdu.turnouts[n]? = some y → y.commanded = pos → s.units.tdu.queue = [] →
    let fails (t : State) := t.units.turnout n = { y with state := .failed, drive := none, requester := none }
      ∧ t.units.record = ⟨.throwTimeout, .turnout n, s.units.scaleMinute, saturate s.units.record.count⟩
      ∧ t.units.lnk.tellsTurnout n
      ∧ (∀ m q, s.canSend m → y.requester = some q →
          t.units.lnk.carries ⟨q, m, .answer, answerPayload .turnoutRequest n .throwFailed⟩)
      ∧ (∀ i, i ≠ n → t.units.turnout i = s.units.turnout i)
      ∧ s.units.keepsBut ([.turnouts, .record] ++ Part.ofCalm) t.units
    (y.drive = some ⟨pos, .window k⟩ → ∃ t, exec (.confirmWindowExpiry n) s = .next t ∧ fails t)
    ∧ (y.drive = some ⟨pos, .motor k⟩ → c.feedback ≠ .none →
        ∃ t, exec (.motorTimeoutExpiry n) s = .next t ∧ fails t)
    ∧ (y.drive = some ⟨pos, .motor k⟩ → c.feedback = .none → ∃ t, exec (.motorTimeoutExpiry n) s = .next t
        ∧ t.units.turnout n = { y with
            state := if pos = .normal then .normal else .reverse, proven := some pos, drive := none, requester := none }
        ∧ (∀ m q, s.canSend m → y.requester = some q →
            t.units.lnk.carries ⟨q, m, .answer, answerPayload .turnoutRequest n .done⟩)
        ∧ (∀ i, i ≠ n → t.units.turnout i = s.units.turnout i)
        ∧ s.units.keepsBut (.turnouts :: Part.ofCalm) t.units))
  ∧ ∀ (s : State) (n k : Nat) (c : TurnoutCfg) (y : Turnout) (d : Drive), s.sys.station = .running → s.units.sized →
    s.units.nothingWaits → s.units.noRouteAwaits s.sys.cfg n → s.sys.cfg.turnout n = some c →
    s.units.tdu.turnouts[n]? = some y → y.state = .moving → y.drive = some d → y.commanded ≠ d.pos →
    s.units.tdu.queue = [] → s.units.motorsMoving s.env ≤ 4 →
    let again (i : Instr) (cdu : Cdu) (q : Option Pos) := ∃ t, exec i s = .next t
      ∧ (let y' : Turnout := { y with proven := q }
        let p := if c.feedback = .none then q else s.units.proven c.feedback n
        let starts := (s.units.block c.owning).occupied = false ∧ (c.drive = .solenoid → cdu = .ready)
        (p = some y.commanded →
          t.units.turnout n = { y' with
            state := if y.commanded = .normal then .normal else .reverse, drive := none, requester := none }
          ∧ t.units.tdu.queue = [] ∧ t.units.tdu.cdu = cdu
          ∧ ∀ m z, s.canSend m → y.requester = some z →
              t.units.lnk.carries ⟨z, m, .answer, answerPayload .turnoutRequest n .done⟩)
        ∧ (p ≠ some y.commanded →
          (starts → t.units.turnout n = { y' with
              drive := some ⟨y.commanded, if c.drive = .solenoid then .pulse else .motor 0⟩ }
            ∧ t.units.tdu.queue = [] ∧ t.units.tdu.cdu = if c.drive = .solenoid then .pulsing n 0 else cdu)
          ∧ (¬ starts → t.units.turnout n = { y' with state := .queued, drive := none }
            ∧ t.units.tdu.queue = [(n, y.commanded)] ∧ t.units.tdu.cdu = cdu)))
      ∧ (∀ i, i ≠ n → t.units.turnout i = s.units.turnout i)
      ∧ s.units.keepsBut ([.turnouts, .throws, .cdu] ++ Part.ofCalm) t.units
    let seen := if c.feedback = .none then some d.pos else y.proven
    (d.stage = .window k → again (.confirmWindowExpiry n) s.units.tdu.cdu y.proven)
    ∧ (d.stage = .motor k → again (.motorTimeoutExpiry n) s.units.tdu.cdu seen)
    ∧ ∀ j, d.stage = .pulse → s.units.tdu.cdu = .pulsing n j →
        (c.feedback = .none ∨ s.units.proven c.feedback n = some d.pos) → again .solenoidPulseEnd (.recharging 0) seen

/-! ## Routes -/

/-- R55 to R58: a ROUTE REQUEST that fails a check is told REFUSED with the check's code and item and changes nothing
else: the first failing block of path and overlap by the block test, then the first failing path turnout, the first
failing flank turnout, and the turntable condition. -/
def Obligations.RouteRequestRefused : Prop :=
  ∀ (s : State) (x : RxFrame) (rest : List RxFrame) (m : Nat), s.env.mirrors = true →
    s.units.lnk.rx = x :: rest → x.frame.kind = .routeRequest → s.canSend m →
    let n := payloadAt x.frame.payload 0
    let refused (c : Code) (item : Item) := ∃ t, exec .routeRequest s = .next t
      ∧ t.units.lnk.carries ⟨x.frame.src, m, .routeReport, routeReportPayload n .refused c.value item 0⟩
      ∧ (s.taken rest).keepsBut Part.ofEnd t.units
    (s.sys.station ≠ .running → refused .notRunning (.route n))
    ∧ (s.sys.station = .running → (64 ≤ n ∨ s.sys.cfg.route n = none) → refused .badItem (.route n))
    ∧ ∀ r, s.sys.station = .running → n < 64 → s.sys.cfg.route n = some r →
        ((s.units.route n).state ≠ .idle → refused .busy (.route n))
        ∧ ((s.units.route n).state = .idle → ∀ before b after, r.path ++ r.overlap.toList = before ++ b :: after →
            (∀ a ∈ before, (s.units.block a).holder = .free ∧ (s.units.block a).occupied = false
              ∧ s.units.inPossession a = false) →
            match (s.units.block b).holder with
            | .arrivalHold _ => refused .held (.block b)
            | .route _ | .foreignClaim _ _ | .turntable => refused .conflict (.block b)
            | .free => if (s.units.block b).occupied then refused .occupied (.block b)
                else s.units.inPossession b = true → refused .possession (.block b))
        ∧ (let blockOk (a : Nat) := (s.units.block a).holder = .free ∧ (s.units.block a).occupied = false
            ∧ s.units.inPossession a = false
          let open' (y : Nat × Pos) := (s.units.turnout y.1).state ≠ .failed ∧ (s.units.turnout y.1).pathHolder = none
            ∧ ((s.units.turnout y.1).flankCount = 0 ∨ (s.units.turnout y.1).commanded = y.2)
          let moves (y : Nat × Pos) := (s.units.turnout y.1).state ≠ .at y.2
            ∧ ∃ c, s.sys.cfg.turnout y.1 = some c ∧ (s.units.block c.owning).occupied = true
          let flankOk (y : Nat × Pos) := open' y ∧ (s.units.turnout y.1).flankCount < 4 ∧ ¬ moves y
          (s.units.route n).state = .idle → (∀ a ∈ r.path ++ r.overlap.toList, blockOk a) →
            (∀ before y after, r.turnouts = before ++ y :: after → (∀ z ∈ before, open' z) →
              ((s.units.turnout y.1).state = .failed → refused .turnoutFailed (.turnout y.1))
              ∧ ((s.units.turnout y.1).state ≠ .failed → ¬ open' y → refused .conflict (.turnout y.1)))
            ∧ ((∀ z ∈ r.turnouts, open' z) →
              (∀ before y after, r.flank = before ++ y :: after → (∀ z ∈ before, flankOk z) →
                ((s.units.turnout y.1).state = .failed → refused .turnoutFailed (.turnout y.1))
                ∧ ((s.units.turnout y.1).state ≠ .failed → (¬ open' y ∨ 4 ≤ (s.units.turnout y.1).flankCount) →
                    refused .conflict (.turnout y.1))
                ∧ (open' y → (s.units.turnout y.1).flankCount < 4 → moves y → refused .flank (.turnout y.1)))
              ∧ ((∀ z ∈ r.flank, flankOk z) → ∀ c, r.turntable = some c →
                  (s.units.ttc.phase ≠ .aligned ∨ s.units.ttc.alignedAt ≠ some c) →
                  refused .turntableNotReady (.road c.1))))
        ∧ ∀ c item, acceptance s.env s.units n = .error (c, item) → refused c item

/-- R39, R49, R59, R61, R73, R80, R97: a ROUTE REQUEST that passes: blocks and turnouts are held, every turnout not
proven in its position is thrown for the route (a requester that waits for it is answered CONFLICT), the signal has the
route, ACCEPTED is told, and the route is CLAIMING with a CLAIM REQUEST to the owner, or THROWING, or SET with its
turnouts proven. -/
def Obligations.RouteRequestAccepted : Prop :=
  ∀ (s : State) (x : RxFrame) (rest : List RxFrame) (m : Nat) (r : RouteCfg),
    s.receives .routeRequest x rest → s.sys.number = some m → s.sound → s.units.nothingWaits →
    let n := payloadAt x.frame.payload 0
    let needs := r.turnouts ++ r.flank
    s.units.lnk.ordinary.length + needs.length < 16 →
    n < 64 → s.sys.cfg.route n = some r → s.units.route n = .idleOf r → (needs.map Prod.fst).Nodup →
    (∀ b ∈ r.path ++ r.overlap.toList, b < 48 ∧ (s.units.block b).holder = .free
      ∧ (s.units.block b).occupied = false ∧ s.units.inPossession b = false) →
    (∀ y ∈ needs, (s.units.turnout y.1).state ≠ .failed ∧ (s.units.turnout y.1).pathHolder = none
      ∧ ((s.units.turnout y.1).flankCount = 0 ∨ (s.units.turnout y.1).commanded = y.2)
      ∧ ((s.units.turnout y.1).state ≠ .at y.2 → ∀ c, s.sys.cfg.turnout y.1 = some c →
          s.units.proven c.feedback y.1 ≠ some y.2)) →
    (∀ y ∈ r.flank, (s.units.turnout y.1).flankCount < 4 ∧ ((s.units.turnout y.1).state ≠ .at y.2 →
      ∀ c, s.sys.cfg.turnout y.1 = some c → (s.units.block c.owning).occupied = false)) →
    (∀ c, r.turntable = some c → s.units.ttc.phase = .aligned ∧ s.units.ttc.alignedAt = some c) →
    ∃ t, exec .routeRequest s = .next t
      ∧ t.units.route n = {
          state := if r.foreign.isSome then .claiming else if s.units.allProven r then .set else .throwing
          reportTo := some (.station x.frame.src), attached := none, progress := r.path.map fun _ => .notEntered
          overlapHeld := r.overlap.isSome, approach := none, forced := false }
      ∧ (∀ k, k ≠ n → t.units.route k = s.units.route k)
      ∧ (∀ b, (t.units.block b).holder =
          if b ∈ r.path ++ r.overlap.toList then .route n else (s.units.block b).holder)
      ∧ (∀ y ∈ r.turnouts, (t.units.turnout y.1).pathHolder = some n
          ∧ (t.units.turnout y.1).flankCount = (s.units.turnout y.1).flankCount)
      ∧ (∀ y ∈ r.flank, (t.units.turnout y.1).pathHolder = none
          ∧ (t.units.turnout y.1).flankCount = (s.units.turnout y.1).flankCount + 1)
      ∧ (∀ y ∈ needs, (s.units.turnout y.1).state = .at y.2 →
          (t.units.turnout y.1).state = .at y.2 ∧ (t.units.turnout y.1).requester = none)
      ∧ (∀ y ∈ needs, (s.units.turnout y.1).state ≠ .at y.2 →
          (t.units.turnout y.1).commanded = y.2 ∧ (t.units.turnout y.1).requester = none
          ∧ (∀ q, (s.units.turnout y.1).requester = some q →
              t.units.lnk.carries ⟨q, m, .answer, answerPayload .turnoutRequest y.1 .conflict⟩)
          ∧ ((s.units.turnout y.1).state = .moving →
              (t.units.turnout y.1).state = .moving ∧ (t.units.turnout y.1).drive = (s.units.turnout y.1).drive)
          ∧ ((t.units.turnout y.1).state = .queued ∧ y ∈ t.units.tdu.queue
            ∨ (t.units.turnout y.1).state = .moving ∧ ∃ d, (t.units.turnout y.1).drive = some d
                ∧ (d.pos = y.2 ∨ (s.units.turnout y.1).state = .moving ∨ (s.units.turnout y.1).state = .queued)))
      ∧ (∀ k, k ∉ needs.map Prod.fst → (s.units.turnout k).state ≠ .queued → t.units.turnout k = s.units.turnout k)
      ∧ (r.entry < 24 → (t.units.signal r.entry).route = some n)
      ∧ t.units.lnk.carries ⟨x.frame.src, m, .routeReport, routeReportPayload n .accepted 0 .none 0⟩
      ∧ (r.foreign = none → s.units.allProven r = true → s.units.lnk.ordinary.length < 15 →
          t.units.lnk.carries ⟨x.frame.src, m, .routeReport, routeReportPayload n .set 0 .none 0⟩)
      ∧ (r.foreign = none → t.units.clu.claims = s.units.clu.claims)
      ∧ (∀ p, r.foreign = some p →
          let tag := n * 4 + (s.units.claim n).counter
          t.units.claim n = { s.units.claim n with
            status := .awaiting, awaited := some tag, counter := ((s.units.claim n).counter + 1) % 4
            answer := some 0, wait := none }
          ∧ (s.units.lnk.urgent.length < 4 →
              t.units.lnk.carries ⟨p.owner, m, .claimRequest, claimRequestPayload tag r.dir p.blocks⟩))
      ∧ (s.taken rest).keepsBut ([.holders, .turnouts, .throws, .cdu, .routes, .claims, .control] ++ Part.ofCalm) t.units
      ∧ (s.units.allProven r = true → (s.taken rest).keeps [.throws, .cdu] t.units)

/-- R69, R70, R72, R73: a ROUTE CANCEL by the route's state: in IDLE and APPROACH_HELD it is told and nothing changes; in
SET with an OCCUPIED approach the route becomes APPROACH_HELD; otherwise, before use, the route goes; in use it turns
forced release on, which gives back every block that is CLEAR and ends a route that holds none. The approach release timer's expiry (R71) ends the route, which is told RELEASED. -/
def Obligations.RouteCancelledOrHeldForApproach : Prop :=
  (∀ (s : State) (x : RxFrame) (rest : List RxFrame) (m : Nat) (r : RouteCfg),
      s.receives .routeCancel x rest → s.canSend m → s.units.sized → s.units.nothingWaits →
      let n := payloadAt x.frame.payload 0
      let y := s.units.route n
      n < 64 → s.sys.cfg.route n = some r → y.attached = none →
      ∃ t, exec .routeCancel s = .next t
        ∧ t.units.lnk.carries ⟨x.frame.src, m, .routeReport, routeReportPayload n .cancelled 0 .none 0⟩
        ∧ match y.state with
          | .idle | .approachHeld => (s.taken rest).keepsBut Part.ofEnd t.units
          | .set =>
            if s.units.approachOccupied s.sys.cfg r.entry then
              t.units.route n = { y with state := .approachHeld, approach := some 0 }
              ∧ (s.taken rest).keepsBut ([.routes, .control] ++ Part.ofCalm) t.units
            else s.units.routeGone n r t.units
              ∧ (s.taken rest).keepsBut ([.holders, .turnouts, .routes, .claims, .control] ++ Part.ofCalm) t.units
          | .claiming | .throwing => s.units.routeGone n r t.units
              ∧ (s.taken rest).keepsBut ([.holders, .turnouts, .throws, .routes, .claims, .control]
                  ++ Part.ofCalm) t.units
          | .inUse =>
            (y.forced = true → (s.taken rest).keepsBut Part.ofEnd t.units)
            ∧ (y.forced = false → y.progress.length = r.path.length →
                let p := (r.path.zip y.progress).map fun z => if (s.units.block z.1).occupied then z.2 else .released
                let o := y.overlapHeld && r.overlap.all fun b => (s.units.block b).occupied
                t.units.route n = (if (∀ q ∈ p, q = .released) ∧ o = false then .idleOf r
                  else { y with forced := true, progress := p, overlapHeld := o })
                ∧ (∀ b, (t.units.block b).holder =
                    if (s.units.block b).holder = .route n ∧ (s.units.block b).occupied = false
                      ∧ ((∃ z ∈ r.path.zip y.progress, z.1 = b ∧ z.2 ≠ .released)
                        ∨ y.overlapHeld = true ∧ r.overlap = some b) then .free else (s.units.block b).holder)
                ∧ (s.taken rest).keepsBut ([.holders, .turnouts, .routes, .claims, .control] ++ Part.ofCalm) t.units))
  ∧ (∀ (s : State) (n m : Nat) (r : RouteCfg), s.sys.station = .running → s.units.nothingWaits → s.units.sized →
      s.sys.cfg.route n = some r → (s.units.route n).approach.isSome = true →
      ∃ t, exec (.approachReleaseExpiry n) s = .next t ∧ s.units.routeGone n r t.units
        ∧ (∀ d, (s.units.route n).reportTo = some d → s.canSend m →
            t.units.lnk.carries ⟨d.dest s.env, m, .routeReport, routeReportPayload n .released 0 .none 0⟩)
        ∧ s.units.keepsBut ([.holders, .turnouts, .routes, .claims, .control] ++ Part.ofCalm) t.units)

/-- R60 to R62, R50, R77: what a turnout of a route does to it. The proof that ends the drive of the last of its turnouts
sets a THROWING route, which is told and its source with it, whose entry is READY; while another is unproven, or the
route is CLAIMING, nothing changes. A turnout that fails, by both contacts or by a confirm window that runs out, fails a
CLAIMING or THROWING route: it goes, its queued throws are withdrawn, and FAILED is told with the turnout. -/
def Obligations.TurnoutChangesReachRoutes : Prop :=
  ∀ (s : State) (n k : Nat) (r : RouteCfg) (c : TurnoutCfg) (normal reverse : Bool) (x : Turnout), s.sys.station = .running →
    s.sound → s.units.nothingWaits → n < 64 → s.sys.cfg.route n = some r →
    let needs := r.turnouts ++ r.flank
    (needs.map Prod.fst).Nodup → k ∈ needs.map Prod.fst → s.sys.cfg.turnout k = some c → c.feedback = .twoContact →
    s.units.tdu.turnouts[k]? = some x → (x.normalIn.level ≠ normal ∨ x.reverseIn.level ≠ reverse) →
    (∀ i r', i ≠ n → s.sys.cfg.route i = some r' → (r'.turnouts ++ r'.flank).any (fun y => y.1 == k) = true →
      (s.units.route i).state ≠ .claiming ∧ (s.units.route i).state ≠ .throwing) →
    let y := s.units.route n
    (∀ (d : Drive) (pos : Pos), x.state = .moving → x.drive = some d → d.stage ≠ .pulse → d.pos = pos →
      x.commanded = pos → normal = decide (pos = .normal) → reverse = decide (pos = .reverse) → s.units.tdu.queue = [] →
      ∃ t, exec (.turnoutFeedbackChange k normal reverse) s = .next t ∧ (t.units.turnout k).state = .at pos
        ∧ (y.state = .claiming → t.units.route n = y)
        ∧ (y.state = .throwing → (∃ z ∈ needs, z.1 ≠ k ∧ (s.units.turnout z.1).state ≠ .at z.2) → t.units.route n = y)
        ∧ (y.state = .throwing → (∀ z ∈ needs, if z.1 = k then z.2 = pos else (s.units.turnout z.1).state = .at z.2) →
          t.units.route n = { y with state := .set, attached := none }
          ∧ (∀ m d, s.sys.number = some m → s.units.lnk.ordinary.length < 15 → y.reportTo = some d →
              t.units.lnk.carries ⟨d.dest s.env, m, .routeReport, routeReportPayload n .set 0 .none 0⟩)
          ∧ ∀ a z, y.attached = some a → s.units.entry a.source.entry = some z → z.status = .due →
              t.units.entry a.source.entry = some { z with status := .ready })
        ∧ s.units.keepsBut ([.turnouts, .routes, .control, .entries] ++ Part.ofCalm) t.units)
    ∧ ((y.state = .claiming ∨ y.state = .throwing) → y.attached = none →
      let failed (t : State) := s.units.routeGone n r t.units ∧ (t.units.turnout k).state = .failed
        ∧ (∀ m d, s.sys.number = some m → s.units.lnk.ordinary.length < 15 → y.reportTo = some d →
            t.units.lnk.carries ⟨d.dest s.env, m, .routeReport,
              routeReportPayload n .failed Code.throwFailed.value (.turnout k) 0⟩)
        ∧ (∀ z ∈ needs, z.1 ≠ k → (s.units.turnout z.1).state = .queued →
            ∀ c', s.sys.cfg.turnout z.1 = some c' →
            ((s.units.turnout z.1).pathHolder = some n ∧ (s.units.turnout z.1).flankCount = 0 ∧ z ∈ r.turnouts
              ∨ (s.units.turnout z.1).pathHolder = none ∧ (s.units.turnout z.1).flankCount = 1 ∧ z ∈ r.flank) →
            let p := s.units.proven c'.feedback z.1
            (∀ q ∈ t.units.tdu.queue, q.1 ≠ z.1)
            ∧ (t.units.turnout z.1).commanded = p.getD (s.units.turnout z.1).commanded
            ∧ (t.units.turnout z.1).state = match p with
              | some .normal => .normal
              | some .reverse => .reverse
              | none => .unknown)
        ∧ s.units.keepsBut ([.holders, .turnouts, .throws, .routes, .claims, .control, .record] ++ Part.ofCalm) t.units
      (normal = true → reverse = true → (x.state = .moving → c.drive = .solenoid) →
        ∃ t, exec (.turnoutFeedbackChange k normal reverse) s = .next t ∧ failed t)
      ∧ ∀ pos j, c.drive = .solenoid → x.drive = some ⟨pos, .window j⟩ → x.commanded = pos →
          ∃ t, exec (.confirmWindowExpiry k) s = .next t ∧ failed t)

/-- R64 to R68, R72, R66, R97: the passage of a train over a route. The first block OCCUPIED takes it into use, its
signal at red, every OCCUPIED path block ENTERED; a further block OCCUPIED is ENTERED. An ENTERED block that clears is
RELEASED when the block beyond it is OCCUPIED (the last, when the one before it is CLEAR), with its turnouts and, the last,
with the overlap; otherwise it is STUCK. Under forced release any held block that clears is given back. With its last
block the route ends: IDLE, its turnouts unheld, its claim closed, RELEASED told, its signal no longer evaluated for it;
that a signal evaluated for a later route keeps that one is the model's reading (log entry 49). -/
def Obligations.RoutesFollowTheTrain : Prop :=
  ∀ (s : State) (b n : Nat) (r : RouteCfg), s.sys.station = .running → s.units.sized → s.units.nothingWaits → b < 48 →
    n < 64 → s.sys.cfg.route n = some r → r.path.Nodup → (∀ a, r.overlap = some a → a ∉ r.path) →
    let y := s.units.route n
    y.attached = none →
    ((s.units.filter b).state = .rising → (s.units.block b).occupied = false → ∀ i, r.path[i]? = some b →
      ∃ t, exec (.detectorRiseExpiry b) s = .next t
        ∧ t.units.route n = (match y.state with
          | .set | .approachHeld => if i = 0 then { y with
                state := .inUse, approach := none
                progress := (r.path.zip y.progress).map fun z =>
                  if z.1 = b ∨ (s.units.block z.1).occupied = true then .entered else z.2 }
              else y
          | .inUse => if y.progress[i]? = some .notEntered then { y with progress := y.progress.set i .entered } else y
          | .idle | .claiming | .throwing => y)
        ∧ ((y.state = .set ∨ y.state = .approachHeld) → i = 0 → (s.units.signal r.entry).route = some n →
            (s.sys.cfg.signal r.entry).isSome = true → r.entry < 24 → (t.units.signal r.entry).rank = 0))
    ∧ ((s.units.filter b).state = .falling → (s.units.block b).occupied = true → y.state = .inUse →
      (∀ k, k ≠ n → (s.units.route k).state ≠ .inUse ∧ (s.units.route k).state ≠ .approachHeld) →
      let left (p : List Progress) (o : Bool) (t : State) :=
        if (∀ q ∈ p, q = .released) ∧ o = false then
          t.units.route n = .idleOf r
          ∧ (t.units.signal r.entry).route = (if (s.units.signal r.entry).route = some n then none
              else (s.units.signal r.entry).route)
          ∧ (∀ k ∈ r.turnouts.map Prod.fst, (t.units.turnout k).pathHolder ≠ some n)
          ∧ ((r.flank.map Prod.fst).Nodup → ∀ k ∈ r.flank.map Prod.fst,
              (t.units.turnout k).flankCount = (s.units.turnout k).flankCount - 1)
          ∧ (r.foreign.isSome = true → t.units.claim n = ⟨.none, none, none, (s.units.claim n).counter, none, none⟩)
          ∧ ∀ m d, s.canSend m → y.reportTo = some d →
              t.units.lnk.carries ⟨d.dest s.env, m, .routeReport, routeReportPayload n .released 0 .none 0⟩
        else t.units.route n = { y with progress := p, overlapHeld := o }
          ∧ (∀ k, (t.units.turnout k).flankCount = (s.units.turnout k).flankCount)
          ∧ (r.foreign.isSome = true → t.units.claim n = s.units.claim n)
      let freed (goes : Nat → Prop) (t : State) := (∀ a, (goes a → (s.units.block a).holder = .route n →
            (t.units.block a).holder = .free)
          ∧ (¬ goes a → (s.units.block a).holder = .route n → (t.units.block a).holder = .route n))
        ∧ ∀ k c, s.sys.cfg.turnout k = some c → k ∈ r.turnouts.map Prod.fst → goes c.owning →
            (t.units.turnout k).pathHolder ≠ some n
      ∃ t, exec (.detectorDropExpiry b) s = .next t
        ∧ (∀ i, r.path[i]? = some b → y.forced = false →
          let follows : Prop := if i + 1 < r.path.length then ∀ a, r.path[i + 1]? = some a → (s.units.block a).occupied = true
            else ∀ j a, i = j + 1 → r.path[j]? = some a → (s.units.block a).occupied = false
          let last := i + 1 = r.path.length
          (y.progress[i]? ≠ some .entered → t.units.route n = y ∧ freed (fun _ => False) t)
          ∧ (y.progress[i]? = some .entered → ¬ follows →
              t.units.route n = { y with progress := y.progress.set i .stuck } ∧ freed (fun _ => False) t)
          ∧ (y.progress[i]? = some .entered → follows →
              left (y.progress.set i .released) (if last then false else y.overlapHeld) t
              ∧ freed (fun a => a = b ∨ last ∧ y.overlapHeld = true ∧ r.overlap = some a) t))
        ∧ (∀ i q, r.path[i]? = some b → y.forced = true → y.progress[i]? = some q → q ≠ .released →
            left (y.progress.set i .released) y.overlapHeld t ∧ freed (fun a => a = b) t)
        ∧ (r.overlap = some b → y.forced = true → y.overlapHeld = true →
            left y.progress false t ∧ freed (fun a => a = b) t)
        ∧ (r.overlap = some b → y.forced = false → t.units.route n = y ∧ freed (fun _ => False) t))

/-- R75 to R77: the pending route list. Every change that R75 names calls for the scan. A scan, here at the end of a
possession, takes the requests oldest first: those that fail their tag or a check stay in their places, and the first
that passes leaves the list, its route accepted for the notice group with the request attached. A route that fails gives
its request back to the tail of a list with room, where the event's scan may start it again at once; at a full list, and
at a cancel before SET, the entry is MISSED. -/
def Obligations.PendingListIsScanned : Prop :=
  (∀ (v : Env) (e : Ev),
    (∀ b, b < e.u.bkt.blocks.length → ((e.u.block b).holder ≠ .free → (e.setHolder v b .free).scan = true)
      ∧ ((e.u.block b).occupied = true → (e.setOccupied v b false).scan = true)
      ∧ ∀ t d, (e.u.block b).tag ≠ t → (e.setTrain v b t d).scan = true)
    ∧ (∀ k f, (e.u.turnout k).held = true → ((e.setHolds k f).u.turnout k).held = false → (e.setHolds k f).scan = true)
    ∧ (∀ k p, (e.u.turnout k).state = .failed → (e.throw v k p none).scan = true ∧ (e.settleAt v k p).scan = true)
    ∧ (∀ w : Watch, w.kind ≠ .watch → (e.possessionEnds (some w)).scan = true)
    ∧ (e.u.ttc.phase ≠ .aligned → (e.setPhase v .aligned).scan = true)
    ∧ (∀ q, e.u.judgeAdd q = .joined → (e.addRequest q).scan = true)
    ∧ ∀ a, e.u.ilk.waiting.length < 8 → (e.rejoin v a).scan = true)
  ∧ (∀ (s : State) (x : RxFrame) (rest : List RxFrame) (w : Watch), s.receives .watchClear x rest → s.units.ttc.queue = [] →
      let i := payloadAt x.frame.payload 0
      i < 8 → s.units.watch i = some w → w.setter = x.frame.src → w.kind ≠ .watch →
      let u := { s.taken rest with watches := s.units.watches.set i none }
      let stays (q : Request) := tagReady s.env u q = false ∨ ∃ c, acceptance s.env u q.route = .error c
      ((∀ q ∈ s.units.ilk.waiting, stays q) → ∃ t, exec .watchClear s = .next t
        ∧ t.units.ilk = s.units.ilk ∧ t.units.bkt.blocks = s.units.bkt.blocks ∧ t.units.tdu = s.units.tdu)
      ∧ ∀ before q later r, s.units.ilk.waiting = before ++ q :: later → (∀ p ∈ before, stays p) →
        tagReady s.env u q = true → acceptance s.env u q.route = .ok r → s.units.sized →
        ∃ t l, exec .watchClear s = .next t ∧ t.units.ilk.waiting = before ++ l ∧ l.Sublist later
          ∧ (t.units.route q.route).state ≠ .idle ∧ (t.units.route q.route).reportTo = some .noticeGroup
          ∧ ((t.units.route q.route).attached = some q
            ∨ (t.units.route q.route).state = .set ∧ (t.units.route q.route).attached = none)
          ∧ ∀ m, s.sys.number = some m → s.units.lnk.ordinary.length < 15 → s.units.allProven r = true →
              t.units.lnk.carries ⟨s.env.noticeGroup, m, .routeReport, routeReportPayload q.route .accepted 0 .none 0⟩)
  ∧ (∀ (s : State) (n : Nat) (r : RouteCfg) (p : ForeignPart) (a : Request) (tag : Nat), s.sys.station = .running →
      s.units.sized → s.units.ttc.queue = [] → n < 64 → s.sys.cfg.route n = some r → r.foreign = some p →
      (s.units.claim n).status = .awaiting → (s.units.claim n).awaited = some tag →
      (s.units.claim n).answer.isSome = true → (s.units.route n).attached = some a → a.route = n →
      ∃ t, exec (.claimAnswerTimeout n) s = .next t
        ∧ (s.units.ilk.waiting.length < 8 → a ∈ t.units.ilk.waiting ∨ (t.units.route n).attached = some a)
        ∧ (s.units.ilk.waiting = [] → tagReady s.env s.units a = false →
            t.units.ilk.waiting = [a] ∧ s.units.routeGone n r t.units)
        ∧ ∀ z, s.units.ilk.waiting.length = 8 → s.units.entry a.source.entry = some z → z.status = .due →
            t.units.entry a.source.entry = some (if z.cfg.kind = .onDemand then { z with status := .waiting, passed := false }
              else { z with status := .missed }))
  ∧ (∀ (s : State) (x : RxFrame) (rest : List RxFrame) (r : RouteCfg) (a : Request) (z : Entry),
      s.receives .routeCancel x rest → s.units.sized → s.units.nothingWaits →
      let n := payloadAt x.frame.payload 0
      n < 64 → s.sys.cfg.route n = some r → ((s.units.route n).state = .claiming ∨ (s.units.route n).state = .throwing) →
      (s.units.route n).attached = some a → s.units.entry a.source.entry = some z → z.status = .due →
      ∃ t, exec .routeCancel s = .next t ∧ s.units.routeGone n r t.units ∧ t.units.ilk.waiting = []
        ∧ t.units.entry a.source.entry = some (if z.cfg.kind = .onDemand then { z with status := .waiting, passed := false }
            else { z with status := .missed }))

/-! ## Claims -/

/-- R81, R82: a GRANT under the tag that a route awaits from its owner is held, and sends a route that is CLAIMING on
to THROWING, or to SET with its turnouts proven; a grant that nothing awaits and nothing repeats is given back. -/
def Obligations.GrantIsHeldOrGivenBack : Prop :=
  ∀ (s : State) (x : RxFrame) (rest : List RxFrame), s.receives .claimAnswer x rest →
    payloadAt x.frame.payload 1 = 0 → s.units.nothingWaits → s.units.sized →
    let tag := payloadAt x.frame.payload 0
    let n := tag / 4
    (∀ r p, s.sys.cfg.route n = some r → r.foreign = some p → p.owner = x.frame.src →
      (s.units.claim n).awaited = some tag → (s.units.route n).attached = none →
      ((s.units.claim n).status = .awaiting ∨ (s.units.claim n).status = .reclaiming) → ∃ t,
        exec .claimAnswerGrant s = .next t
        ∧ t.units.claim n = { s.units.claim n with status := .granted, held := some tag, awaited := none, answer := none }
        ∧ ((s.units.claim n).status = .reclaiming → t.units.ilk.routes = s.units.ilk.routes)
        ∧ ((s.units.claim n).status = .awaiting → t.units.route n = { s.units.route n with
            state := if s.units.allProven r then .set else .throwing })
        ∧ (s.taken rest).keepsBut ([.routes, .claims, .control] ++ Part.ofCalm) t.units)
    ∧ (awaitedRoute s.env s.units x.frame.src tag = none → ∃ t, exec .claimAnswerGrant s = .next t
        ∧ (∀ m, s.canSendUrgent m → grantRepeated s.env s.units x.frame.src tag = false →
            t.units.lnk.carries ⟨x.frame.src, m, .claimRelease, [byte tag]⟩
            ∧ (s.taken rest).keepsBut Part.ofEnd t.units)
        ∧ (grantRepeated s.env s.units x.frame.src tag = true → (s.taken rest).keepsBut Part.ofEnd t.units))

/-- R83, R84, R87: a route that awaits its first grant fails on a REFUSE and on the answer timer's expiry, after which
the awaited tag is released: the route goes and FAILED is told with its code and item. A claim made afresh that is
refused or not answered, or an owner that stays silent, is LOST, which a FAULT notice tells. -/
def Obligations.ClaimsThatFailOrAreLost : Prop :=
  (∀ (s : State) (n m tag : Nat) (r : RouteCfg) (p : ForeignPart), s.sys.station = .running → s.canSend m →
      s.units.nothingWaits → s.units.sized → n < 64 → s.sys.cfg.route n = some r → r.foreign = some p →
      (s.units.claim n).status = .awaiting → (s.units.claim n).awaited = some tag → (s.units.route n).attached = none →
      let failed (t : State) (c : Code) (item : Item) (owners : Nat) := s.units.routeGone n r t.units
        ∧ ∀ d, (s.units.route n).reportTo = some d → t.units.lnk.carries
            ⟨d.dest s.env, m, .routeReport, routeReportPayload n .failed c.value item owners⟩
      let frame : List Part := [.holders, .turnouts, .throws, .routes, .claims, .control] ++ Part.ofCalm
      (∀ (x : RxFrame) (rest : List RxFrame), s.receives .claimAnswer x rest → payloadAt x.frame.payload 1 = 1 →
        payloadAt x.frame.payload 0 = tag → tag / 4 = n → x.frame.src = p.owner →
        ∃ t, exec .claimAnswerRefuse s = .next t
          ∧ failed t .foreignRefused (.ownersBlock (payloadAt x.frame.payload 3)) (payloadAt x.frame.payload 2)
          ∧ (s.taken rest).keepsBut frame t.units)
      ∧ ((s.units.claim n).answer.isSome = true → ∃ t, exec (.claimAnswerTimeout n) s = .next t
          ∧ failed t .claimTimeout (.station p.owner) 0
          ∧ (s.units.lnk.urgent.length < 4 → t.units.lnk.carries ⟨p.owner, m, .claimRelease, [byte tag]⟩)
          ∧ s.units.keepsBut frame t.units))
  ∧ (∀ (s : State) (n : Nat), s.sys.station = .running → n < 64 → s.units.sized →
      let lost (t : State) := t.units.claim n = ⟨.lost, none, none, (s.units.claim n).counter, none, none⟩
        ∧ t.units.lnk.tellsLostClaim n
      ((s.units.claim n).wait.isSome = true → ∃ t, exec (.ownerWaitExpiry n) s = .next t ∧ lost t
        ∧ s.units.keepsBut (.claims :: Part.ofCalm) t.units)
      ∧ ∀ tag r p, s.sys.cfg.route n = some r → r.foreign = some p → (s.units.claim n).status = .reclaiming →
          (s.units.claim n).awaited = some tag →
          ((s.units.claim n).answer.isSome = true → ∃ t, exec (.claimAnswerTimeout n) s = .next t ∧ lost t
            ∧ s.units.keepsBut (.claims :: Part.ofCalm) t.units)
          ∧ ∀ (x : RxFrame) (rest : List RxFrame), s.receives .claimAnswer x rest → payloadAt x.frame.payload 1 = 1 →
              payloadAt x.frame.payload 0 = tag → tag / 4 = n → x.frame.src = p.owner →
              ∃ t, exec .claimAnswerRefuse s = .next t ∧ lost t
                ∧ (s.taken rest).keepsBut (.claims :: Part.ofCalm) t.units)

/-- R88, R185: the block list of a CLAIM REQUEST to this station holds its published FREE blocks for the requester
before the frame has ended; bytes that are no such frame change nothing. -/
def Obligations.ArrivalHoldsTheClaimedBlocks : Prop :=
  ∀ (s : State) (bytes : List Byte) (m : Nat), s.sys.station = .running → s.sys.number = some m →
    let src := payloadAt bytes 1
    let named (b : Nat) : Bool := (payloadAt bytes 6 == 1 || payloadAt bytes 6 == 2) && b == payloadAt bytes 7
      || payloadAt bytes 6 == 2 && b == payloadAt bytes 8
    let is : Prop := bytes.length = 9 ∧ payloadAt bytes 0 = m ∧ 1 ≤ src ∧ src ≤ 62 ∧ src ≠ m
      ∧ payloadAt bytes 2 = 0x20 ∧ payloadAt bytes 3 = 5
    (is → s.units.nothingWaits → s.units.sized → s.units.clu.reception = none →
      ∃ t, exec (.claimBlockListReceived bytes) s = .next t
        ∧ (∀ b, (t.units.block b).holder =
            if named b = true ∧ b < 48 ∧ s.sys.cfg.published b = true ∧ (s.units.block b).holder = .free
            then .arrivalHold src else (s.units.block b).holder)
        ∧ (∃ bs, t.units.clu.reception = some ⟨src, bs⟩
            ∧ ∀ b, b ∈ bs ↔ named b = true ∧ b < 48 ∧ s.sys.cfg.published b = true ∧ (s.units.block b).holder = .free)
        ∧ s.units.keepsBut ([.holders, .reception] ++ Part.ofCalm) t.units)
    ∧ (¬ is → ∃ t, exec (.claimBlockListReceived bytes) s = .next t ∧ s.units.keepsBut Part.ofEnd t.units)

/-- R90, R91: a CLAIM REQUEST of blocks that all pass is granted: each block is held for requester and tag, the claim
table has the record, and GRANT is sent; one that fails a check is refused with its code and block. -/
def Obligations.ClaimRequestGrantedOrRefused : Prop :=
  ∀ (s : State) (x : RxFrame) (rest : List RxFrame) (m : Nat), s.receives .claimRequest x rest →
    s.canSendUrgent m → x.frame.dest = m → s.units.nothingWaits → s.units.sized →
    let tag := payloadAt x.frame.payload 0
    let count := payloadAt x.frame.payload 2
    let bs := [payloadAt x.frame.payload 3, payloadAt x.frame.payload 4].take count
    let d : Dir := if payloadAt x.frame.payload 1 = 1 then .up else .down
    let src := x.frame.src
    let mine (b : Nat) := (s.units.block b).holder = .free ∨ (s.units.block b).holder = .arrivalHold src
    (1 ≤ count → count ≤ 2 → bs.Nodup → (payloadAt x.frame.payload 1 = 1 ∨ payloadAt x.frame.payload 1 = 2) →
      (∀ b ∈ bs, b < 48 ∧ s.sys.cfg.published b = true ∧ mine b ∧ (s.units.block b).occupied = false
        ∧ s.units.inPossession b = false) →
      ∃ t, exec .claimRequestTaken s = .next t
        ∧ (∀ b, (t.units.block b).holder = if b ∈ bs then .foreignClaim src tag else (s.units.block b).holder)
        ∧ t.units.clu.table = s.units.clu.table ++ [⟨src, tag, d, bs, bs.map fun _ => .notEntered, false⟩]
        ∧ t.units.lnk.carries ⟨src, m, .claimAnswer, [byte tag, 0, 0, 0]⟩
        ∧ (s.taken rest).keepsBut ([.holders, .claimTable] ++ Part.ofCalm) t.units)
    ∧ (∀ c b, claimCheck s.env s.units x.frame = some (c, b) → ∃ t, exec .claimRequestTaken s = .next t
        ∧ (∀ a, (t.units.block a).holder = if a ∈ x.arrival.getD [] ∧ (s.units.block a).holder = .arrivalHold src
            then .free else (s.units.block a).holder)
        ∧ t.units.lnk.carries ⟨src, m, .claimAnswer, [byte tag, byte 1, byte c.value, byte b]⟩
        ∧ (s.taken rest).keepsBut (.holders :: Part.ofCalm) t.units)
    ∧ ∀ b, count = 1 → (payloadAt x.frame.payload 1 = 1 ∨ payloadAt x.frame.payload 1 = 2) →
        payloadAt x.frame.payload 3 = b → b < 48 → s.sys.cfg.published b = true →
        claimCheck s.env s.units x.frame = match (s.units.block b).holder with
          | .route _ | .foreignClaim _ _ | .turntable => some (.conflict, b)
          | .arrivalHold q => if q ≠ src then some (.held, b)
              else if (s.units.block b).occupied then some (.occupied, b)
              else if s.units.inPossession b then some (.possession, b) else none
          | .free => if (s.units.block b).occupied then some (.occupied, b)
              else if s.units.inPossession b then some (.possession, b) else none

/-- R93, R94: a CLAIM RELEASE returns the CLEAR blocks of the claim it names to FREE and keeps the record until its
others are released; of two records of one requester and tag it names the older, which is the model's choice (log entry
37). A CLAIM PURGE drops every claim of the station it names. -/
def Obligations.ClaimsAreReleasedAndPurged : Prop :=
  ∀ (s : State) (x : RxFrame) (rest : List RxFrame), s.units.nothingWaits → s.units.sized →
    (s.receives .claimRelease x rest →
      (∀ i y, s.units.clu.table[i]? = some y → y.requester = x.frame.src → y.tag = payloadAt x.frame.payload 0 →
        (∀ j z, j < i → s.units.clu.table[j]? = some z → z.requester ≠ y.requester ∨ z.tag ≠ y.tag) →
        ∃ t, exec .claimRelease s = .next t
          ∧ t.units.clu.table = (s.units.clu.table.modify i fun y => { y with
              release := true
              progress := (y.blocks.zip y.progress).map fun z =>
                if (s.units.block z.1).occupied then z.2 else .released }).filter
              (fun y => !(y.progress.all fun p => p == .released))
          ∧ (∀ b, (t.units.block b).holder = if b ∈ y.heldBlocks ∧ (s.units.block b).occupied = false
                ∧ (s.units.block b).holder = .foreignClaim y.requester y.tag then .free else (s.units.block b).holder)
          ∧ (s.taken rest).keepsBut ([.holders, .claimTable] ++ Part.ofCalm) t.units)
      ∧ ((∀ y ∈ s.units.clu.table, y.requester ≠ x.frame.src ∨ y.tag ≠ payloadAt x.frame.payload 0) →
          ∃ t, exec .claimRelease s = .next t ∧ (s.taken rest).keepsBut Part.ofEnd t.units))
    ∧ (s.receives .claimPurge x rest → ∀ m, s.canSend m →
      let q := payloadAt x.frame.payload 0
      let told (t : State) (c : Code) := t.units.lnk.carries ⟨x.frame.src, m, .answer, answerPayload .claimPurge q c⟩
      ((q = 0 ∨ 62 < q) → ∃ t, exec .claimPurge s = .next t ∧ told t .badItem
        ∧ (s.taken rest).keepsBut Part.ofEnd t.units)
      ∧ (1 ≤ q → q ≤ 62 → ∃ t, exec .claimPurge s = .next t ∧ told t .done
          ∧ t.units.clu.table = s.units.clu.table.filter (fun y => y.requester != q)
          ∧ (∀ b, (∃ y ∈ s.units.clu.table, y.requester = q ∧ b ∈ y.heldBlocks
                ∧ (s.units.block b).holder = .foreignClaim q y.tag) → (t.units.block b).holder = .free)
          ∧ (∀ b, (∀ k, (s.units.block b).holder ≠ .foreignClaim q k) →
              (t.units.block b).holder = (s.units.block b).holder)
          ∧ (s.taken rest).keepsBut ([.holders, .claimTable] ++ Part.ofCalm) t.units))

/-- R92: the claim table on a block's occupancy events. OCCUPIED: the block is ENTERED in each record that has it NOT_ENTERED.
CLEAR: an ENTERED block is RELEASED if its sequence condition holds and STUCK if not; with release requested, ENTERED and
STUCK are RELEASED without it. A block RELEASED returns to FREE, and a record with none left is gone. -/
def Obligations.ClaimedBlocksFollowTheTrain : Prop :=
  ∀ (s : State) (b : Nat), s.sys.station = .running → s.units.sized → s.units.nothingWaits → b < 48 →
    (∀ x ∈ s.units.clu.table, x.blocks.Nodup ∧ x.progress.length = x.blocks.length
      ∧ (x.blocks.length = 1 ∨ x.blocks.length = 2)) →
    ((s.units.filter b).state = .rising → (s.units.block b).occupied = false →
      ∃ t, exec (.detectorRiseExpiry b) s = .next t
        ∧ t.units.clu.table = s.units.clu.table.map fun x => { x with
            progress := (x.blocks.zip x.progress).map fun z => if z.1 = b ∧ z.2 = .notEntered then .entered else z.2 })
    ∧ ((s.units.filter b).state = .falling → (s.units.block b).occupied = true →
      let judged (x : ClaimRecord) (p : Progress) : Progress :=
        let follows : Bool := match x.blocks with
          | [first, second] => if first = b then (s.units.block second).occupied else !(s.units.block first).occupied
          | _ => true
        match p, x.release with
        | .entered, false => if follows then .released else .stuck
        | .entered, true | .stuck, true => .released
        | p, _ => p
      let after (x : ClaimRecord) : ClaimRecord := { x with
        progress := (x.blocks.zip x.progress).map fun z => if z.1 = b then judged x z.2 else z.2 }
      let gives (x : ClaimRecord) : Prop := (s.units.block b).holder = .foreignClaim x.requester x.tag
        ∧ ∃ p, (b, p) ∈ x.blocks.zip x.progress ∧ p ≠ .released ∧ judged x p = .released
      ∃ t, exec (.detectorDropExpiry b) s = .next t
        ∧ t.units.clu.table = (s.units.clu.table.map after).filter (fun x => !(x.progress.all fun p => p == .released))
        ∧ ((∃ x ∈ s.units.clu.table, gives x) → (t.units.block b).holder = .free)
        ∧ ((¬ ∃ x ∈ s.units.clu.table, gives x) → ∀ q k, (s.units.block b).holder = .foreignClaim q k →
            (t.units.block b).holder = .foreignClaim q k))

/-- R86, R87, R94: an ANNOUNCE of their owner reaches the routes that have claimed from it: AWAITING fails the route with
OWNER_RESTARTED, its awaited tag released; GRANTED waits for the owner unless the route is IN_USE; the other open statuses
wait afresh. The blocks that the announcing station had claimed here return to FREE. A report of the owner lets a route
that waits for it claim afresh; no other status is touched by it. -/
def Obligations.OwnerRestartsAndReturns : Prop :=
  ∀ (s : State) (x : RxFrame) (rest : List RxFrame), s.units.sized → s.units.nothingWaits →
    (∀ k, (s.units.route k).attached = none) →
    let waits (n : Nat) : Claim := ⟨.waitingOwner, none, none, (s.units.claim n).counter, none, some 0⟩
    (s.receives .announce x rest → ∃ t, exec .announceTaken s = .next t
      ∧ (∀ b, (∃ y ∈ s.units.clu.table, y.requester = x.frame.src ∧ b ∈ y.heldBlocks
            ∧ (s.units.block b).holder = .foreignClaim x.frame.src y.tag) → (t.units.block b).holder = .free)
      ∧ (∀ b q k, (s.units.block b).holder = .foreignClaim q k → q ≠ x.frame.src →
          (t.units.block b).holder = .foreignClaim q k)
      ∧ ∀ n r p, n < 64 → s.sys.cfg.route n = some r → r.foreign = some p →
          (p.owner ≠ x.frame.src → t.units.claim n = s.units.claim n)
          ∧ (p.owner = x.frame.src → match (s.units.claim n).status with
            | .none => t.units.claim n = s.units.claim n
            | .awaiting => t.units.claim n = ⟨.none, none, none, (s.units.claim n).counter, none, none⟩
                ∧ t.units.route n = .idleOf r
                ∧ (∀ b ∈ r.path ++ r.overlap.toList, (s.units.block b).holder = .route n → (t.units.block b).holder = .free)
                ∧ (∀ k ∈ r.turnouts.map Prod.fst, (t.units.turnout k).pathHolder ≠ some n)
                ∧ ((∀ k r' p', k ≠ n → s.sys.cfg.route k = some r' → r'.foreign = some p' → p'.owner = x.frame.src →
                      (s.units.claim k).status ≠ .awaiting) →
                    (∀ m d, s.canSend m → (s.units.route n).reportTo = some d → t.units.lnk.carries ⟨d.dest s.env, m,
                      .routeReport, routeReportPayload n .failed Code.ownerRestarted.value (.station p.owner) 0⟩)
                    ∧ ∀ m tag, s.canSendUrgent m → (s.units.claim n).awaited = some tag →
                        t.units.lnk.carries ⟨p.owner, m, .claimRelease, [byte tag]⟩)
            | .granted => t.units.claim n =
                if (s.units.route n).state = .inUse then s.units.claim n else waits n
            | .waitingOwner | .reclaiming | .lost => t.units.claim n = waits n))
    ∧ ∀ (k : FrameKind) (i : Instr), (k = .occupancyReport ∧ i = .occupancyReportTaken)
          ∨ (k = .aspectReport ∧ i = .aspectReportTaken) → s.receives k x rest →
        (∀ n, (s.units.route n).state ≠ .approachHeld) → ∃ t, exec i s = .next t
        ∧ ∀ n r p, n < 64 → s.sys.cfg.route n = some r → r.foreign = some p →
          let tag := n * 4 + (s.units.claim n).counter
          ((p.owner ≠ x.frame.src ∨ (s.units.claim n).status ≠ .waitingOwner) → t.units.claim n = s.units.claim n)
          ∧ (p.owner = x.frame.src → (s.units.claim n).status = .waitingOwner →
              t.units.claim n = { s.units.claim n with
                status := .reclaiming, awaited := some tag, counter := ((s.units.claim n).counter + 1) % 4
                answer := some 0, wait := none }
              ∧ ∀ m, s.canSendUrgent m →
                  (∀ j r' p', j ≠ n → s.sys.cfg.route j = some r' → r'.foreign = some p' → p'.owner = x.frame.src →
                    (s.units.claim j).status ≠ .waitingOwner) →
                  t.units.lnk.carries ⟨p.owner, m, .claimRequest, claimRequestPayload tag r.dir p.blocks⟩)

/-! ## Signals and the stop state -/

/-- R97 to R101, R105: an evaluated signal is above rank 0 only if its route is SET, path and held overlap CLEAR, turnouts
proven, claim granted, no stop, approach control released for SLOW. Where these hold, its rank is the least of its top
rank, one more than the effective rank of the next signal (0 for none, a dark one or a mirror that is not FRESH, 3 under
the top flag), and the cap of the route's class. The lamps of the head are those of the rank, and
the top flag is set while the green one is lit. -/
def Obligations.EvaluationObeysTheSixConditions : Prop :=
  ∀ (v : Env) (n : Nat) (e : Ev) (c : SignalCfg), v.cfg.signal n = some c → n < e.u.ase.signals.length →
    let u := (e.evaluate v n).u
    let effective (r : RouteCfg) : Nat := match r.exit with
      | none => 0
      | some (.here m) => if (e.u.signal m).dark then 0 else if (e.u.signal m).top then 3 else (e.u.signal m).rank
      | some (.mirror i) => if (e.u.smirror i).freshness ≠ .fresh ∨ (e.u.smirror i).dark = true then 0
          else if (e.u.smirror i).top then 3 else (e.u.smirror i).rank
    (u.signal n).rank = computedRank v e.u n
    ∧ (∀ k r, (e.u.signal n).route = some k → v.cfg.route k = some r → (e.u.route k).state = .set →
        (∀ b ∈ r.path, (e.u.block b).occupied = false) →
        ((e.u.route k).overlapHeld = true → ∀ b, r.overlap = some b → (e.u.block b).occupied = false) →
        (∀ y ∈ r.turnouts ++ r.flank, (e.u.turnout y.1).state = (if y.2 = .normal then .normal else .reverse)) →
        (r.foreign.isSome = true → (e.u.claim k).status = .granted) → e.u.ase.stop = .empty →
        (r.speed = .slow → (e.u.signal n).control = .released) →
        (u.signal n).rank = min (min c.topRank (effective r + 1)) (if r.speed = .full then 3 else 1))
    ∧ ((u.signal n).route = none → (u.signal n).rank = 0)
    ∧ (0 < (u.signal n).rank → ∃ k r, (u.signal n).route = some k ∧ v.cfg.route k = some r
        ∧ (u.route k).state = .set
        ∧ (∀ b ∈ r.path, (u.block b).occupied = false)
        ∧ (∀ b, r.overlap = some b → (u.route k).overlapHeld = true → (u.block b).occupied = false)
        ∧ (∀ y ∈ r.turnouts ++ r.flank, (u.turnout y.1).state = (if y.2 = .normal then .normal else .reverse))
        ∧ (r.foreign.isSome = true → (u.claim k).status = .granted)
        ∧ u.ase.stop = .empty
        ∧ (r.speed = .slow → (u.signal n).control = .released)
        ∧ (u.signal n).rank ≤ c.topRank ∧ (r.speed ≠ .full → (u.signal n).rank = 1)
        ∧ (u.signal n).rank ≤ effective r + 1)
    ∧ ((e.u.signal n).top = greenLit c.head (e.u.signal n).rank → (u.signal n).top = (headLamps c.head (u.signal n).rank).green)
    ∧ headLamps c.head (u.signal n).rank = match c.head, (u.signal n).rank with
        | _, 0 => ⟨true, false, false, false⟩
        | .two, _ => ⟨false, false, false, true⟩
        | .three, 1 | .four, 1 => ⟨false, true, false, false⟩
        | .four, 2 => ⟨false, true, true, false⟩
        | .three, _ | .four, _ => ⟨false, false, false, true⟩

/-- R109, R110: the stop sources that a ZONE STOP adds and a ZONE RESUME removes, by the frame's destination, RUNNING or
ANNOUNCING. R111, R146, R147, R171: the stop state turning on aborts the move in progress by its phase and disables the
buttons that it bars; turning off, it arms them again. That the level of a run with no step made is 0 is the model's
reading (log entry 19). -/
def Obligations.ZoneFramesChangeTheStopState : Prop :=
  (∀ (s : State) (x : RxFrame) (rest : List RxFrame), s.env.mirrors = true → s.units.lnk.rx = x :: rest →
    let z := s.units.ase.stop
    let d := x.frame.dest
    let frame : List Part := [.filters, .occupancy, .mirrors, .republish, .claimTable, .reception, .clock, .rx, .refresh]
    (x.frame.kind = .zoneStop → ∃ t, exec .zoneStop s = .next t
      ∧ t.units.ase.stop.plunger = z.plunger ∧ (t.units.ase.stop.layout = true ↔ z.layout = true ∨ d = 63)
      ∧ (∀ g, g ∈ t.units.ase.stop.zones ↔ g ∈ z.zones ∨ d = 64 + g)
      ∧ (s.taken rest).keeps frame t.units)
    ∧ (x.frame.kind = .zoneResume → ∃ t, exec .zoneResume s = .next t
      ∧ (t.units.ase.stop.plunger = true ↔ z.plunger = true ∧ 63 ≤ d)
      ∧ (t.units.ase.stop.layout = true ↔ z.layout = true ∧ d ≠ 63)
      ∧ (∀ g, g ∈ t.units.ase.stop.zones ↔ g ∈ z.zones ∧ d ≠ 63 ∧ d ≠ 64 + g)
      ∧ (s.taken rest).keeps frame t.units))
  ∧ (∀ (s : State) (x : RxFrame) (rest : List RxFrame) (g : TurntableCfg) (m : Move), s.receives .zoneStop x rest →
      s.units.ase.stop = .empty → 63 ≤ x.frame.dest → s.units.nothingWaits → s.sys.cfg.turntable = some g →
      s.units.ttc.current = some m → m.aborting = false → m.slipped = false →
      let z := s.units.ttc
      let ended (t : State) := t.units.ttc = { z with
          phase := .unaligned, stepping := none, alignedAt := none, deckPower := false, unlockTime := none
          current := none }
        ∧ (∀ q n, m.source = .station q → s.canSend n →
            t.units.lnk.carries ⟨q, n, .turntableReport, (MoveOutcome.aborted .stopped).payload⟩)
        ∧ ∀ k, m.source = .button k → (s.units.button k).state = .busy →
            t.units.button k = { s.units.button k with state := .disabled, guard := none, flash := none }
      ∃ t, exec .zoneStop s = .next t ∧ match z.phase with
        | .unlocking | .homing => ended t
        | .moving | .settling => ∀ y, m.run = some y → y.ramp = none →
            let k := if y.made = 0 then 0 else g.level y.len (y.made - 1)
            let n := min (k * g.perLevel) (y.len - y.made)
            if n = 0 then ended t else t.units.ttc = { z with
              current := some { m with aborting := true, run := some { y with ramp := some (k, n, 0) } } }
        | .unhomed | .aligned | .unaligned | .locking | .fault => t.units.ttc = z)
  ∧ (∀ (s : State) (x : RxFrame) (rest : List RxFrame), s.receives .zoneStop x rest → s.units.ase.stop = .empty →
      63 ≤ x.frame.dest → s.units.nothingWaits → ∃ t, exec .zoneStop s = .next t
      ∧ ∀ k < 16, (s.units.button k).state ≠ .busy → t.units.button k =
          match (s.sys.cfg.button k).kind, (s.units.button k).state with
          | .depart, .armed | .turntableShow, .armed => { s.units.button k with state := .disabled }
          | .depart, .guard | .turntableShow, .guard => { s.units.button k with state := .disabled, guard := none }
          | _, _ => s.units.button k)
  ∧ (∀ (s : State) (x : RxFrame) (rest : List RxFrame), s.receives .zoneResume x rest → s.units.ase.stop ≠ .empty →
      s.units.nothingWaits → s.units.clock.state = .running → ∃ t, exec .zoneResume s = .next t
      ∧ t.units.ttc = s.units.ttc
      ∧ (t.units.ase.stop = .empty → ∀ k < 16, t.units.button k =
          match (s.sys.cfg.button k).kind, (s.units.button k).state with
          | .depart, .disabled | .turntableShow, .disabled => { s.units.button k with state := .armed }
          | _, _ => s.units.button k))

/-- R111, R105: a ZONE STOP that turns the stop state on puts every configured signal to rank 0, its red lamp alone
lit, whatever the chain of signals behind one another. -/
def Obligations.StopTurnsEverySignalRed : Prop :=
  ∀ (s : State) (x : RxFrame) (rest : List RxFrame), s.receives .zoneStop x rest → s.units.sized →
    s.units.nothingWaits → s.units.ase.stop = .empty → 63 ≤ x.frame.dest →
    ∃ t, exec .zoneStop s = .next t
      ∧ (∀ n < 24, (s.sys.cfg.signal n).isSome = true →
          (t.units.signal n).rank = 0 ∧ t.lamps n = ⟨true, false, false, false⟩)
      ∧ t.units.ilk.routes = s.units.ilk.routes
      ∧ t.units.ase.signals.map Signal.kept = s.units.ase.signals.map Signal.kept

/-- R103, R106, R107, R112: the approach control timer's expiry releases the signal's approach control. The proving
filter's expiry changes the dark flag: a signal that has become dark is a fault, recorded and told, and a published
one is reported. -/
def Obligations.SignalTimersRunOut : Prop :=
  (∀ (s : State) (n k : Nat), s.sys.station = .running → (s.units.signal n).control = .running k →
      ∃ t, exec (.approachControlExpiry n) s = .next t
        ∧ (t.units.signal n).kept = ((s.units.signal n).route, (s.units.signal n).dark, .released)
        ∧ (∀ i, i ≠ n → (t.units.signal i).kept = (s.units.signal i).kept)
        ∧ s.units.keepsBut (.control :: Part.ofCalm) t.units)
  ∧ (∀ (s : State) (n : Nat), s.sys.station = .running → (s.units.signal n).proving.isSome = true →
      let was := (s.units.signal n).dark
      ∃ t, exec (.lampProvingExpiry n) s = .next t
        ∧ (t.units.signal n).kept = ((s.units.signal n).route, !was, (s.units.signal n).control)
        ∧ (∀ i, i ≠ n → (t.units.signal i).kept = (s.units.signal i).kept)
        ∧ (was = false → t.units.lnk.tellsSignal n ∧ t.units.record =
            ⟨.lampDark, .signal n, s.units.scaleMinute, saturate s.units.record.count⟩)
        ∧ (was = true → t.units.record = s.units.record)
        ∧ (s.sys.cfg.signalPublished n = true → t.units.lnk.reportsSignal n)
        ∧ s.units.keepsBut ([.control, .record] ++ Part.ofCalm) t.units)

/-! ## Watches -/

/-- R115, R116, R120, R121: a WATCH SET: its checks, and the entry it makes, a possession being ACTIVE, with a GRANTED
notice, when no block of its range is covered. A WATCH CLEAR: its checks, and the end of the entry its setter clears.
R114, R118, R119: the notices of a lone entry: a block of its range that becomes OCCUPIED is told, as TAG where the mask
holds it, as OCC otherwise, and nothing else is; so are, on their own blocks, a signal that becomes dark or lit again
(ASPECT), a turnout that fails (TURNOUT) and a block given back by a cancelled route (ROUTE). R121: that release makes a
PENDING possession ACTIVE, with a GRANTED notice whatever its mask, when it leaves no block of the range covered. -/
def Obligations.WatchesAreSetAndCleared : Prop :=
  (∀ (s : State) (x : RxFrame) (rest : List RxFrame) (m : Nat), s.env.mirrors = true →
      s.units.lnk.rx = x :: rest → x.frame.kind = .watchSet → s.canSend m →
      let at' := payloadAt x.frame.payload
      let n := at' 0
      let told (t : State) (c : Code) := t.units.lnk.carries ⟨x.frame.src, m, .answer, answerPayload .watchSet n c⟩
      let refused (c : Code) := ∃ t, exec .watchSet s = .next t ∧ told t c ∧ (s.taken rest).keepsBut Part.ofEnd t.units
      if s.sys.station ≠ .running then refused .notRunning
      else if 8 ≤ n ∨ 2 ≤ at' 1 then refused .badItem
      else if (∃ w, s.units.watch n = some w ∧ w.setter ≠ x.frame.src) then refused .inUse
      else s.units.nothingWaits → s.units.sized →
        let first := min (at' 2) 47
        let last := min (at' 3) 47
        let inRange (b : Nat) : Prop := if first ≤ last then first ≤ b ∧ b ≤ last else first ≤ b ∨ b ≤ last
        ∃ t k, exec .watchSet s = .next t ∧ told t .done
        ∧ t.units.watch n = some ⟨x.frame.src, k, first, last, byte (at' 4 % 32)⟩
        ∧ (at' 1 = 0 → k = .watch)
        ∧ (at' 1 = 1 → ((k = .active ↔ ∀ b < 48, inRange b →
              (s.units.block b).holder = .free ∨ ∃ q, (s.units.block b).holder = .arrivalHold q)
            ∧ (k = .active ∨ k = .pending)
            ∧ (k = .active → s.units.lnk.ordinary.length < 15 → t.units.lnk.carries ⟨x.frame.src, m, .watchNotice,
                watchNoticePayload n grantedBit first (s.units.block first) s.units.scaleMinute⟩)))
        ∧ (∀ i, i ≠ n → t.units.watch i = s.units.watch i)
        ∧ (s.taken rest).keepsBut Part.ofCalm t.units)
  ∧ (∀ (s : State) (x : RxFrame) (rest : List RxFrame) (m : Nat), s.env.mirrors = true →
      s.units.lnk.rx = x :: rest → x.frame.kind = .watchClear → s.canSend m →
      let n := payloadAt x.frame.payload 0
      let told (t : State) (c : Code) := t.units.lnk.carries ⟨x.frame.src, m, .answer, answerPayload .watchClear n c⟩
      let only (c : Code) := ∃ t, exec .watchClear s = .next t ∧ told t c ∧ (s.taken rest).keepsBut Part.ofEnd t.units
      (s.sys.station ≠ .running → only .notRunning)
      ∧ (s.sys.station = .running → 8 ≤ n → only .badItem)
      ∧ (s.sys.station = .running → n < 8 → s.units.watch n = none → only .done)
      ∧ ∀ w, s.sys.station = .running → n < 8 → s.units.watch n = some w →
          (w.setter ≠ x.frame.src → only .notOwner)
          ∧ (w.setter = x.frame.src → s.units.nothingWaits → ∃ t, exec .watchClear s = .next t ∧ told t .done
              ∧ t.units.watches = s.units.watches.set n none
              ∧ (s.taken rest).keepsBut (.watches :: Part.ofEnd) t.units))
  ∧ (∀ (s : State) (i m b : Nat) (w : Watch), s.sys.station = .running → s.units.sound → s.units.nothingWaits →
      i < 8 → s.units.watch i = some w → (∀ j, j ≠ i → s.units.watch j = none) → b < 48 →
      s.sys.number = some m → s.units.lnk.ordinary.length < 8 →
      let inRange (a : Nat) : Prop := if w.first ≤ w.last then w.first ≤ a ∧ a ≤ w.last else w.first ≤ a ∨ a ≤ w.last
      let notice (t : State) (bits : Byte) (a : Nat) : Frame :=
        ⟨w.setter, m, .watchNotice, watchNoticePayload i bits a (t.units.block a) s.units.scaleMinute⟩
      let alone : Prop := w.first = b ∧ w.last = b
      ((s.units.filter b).state = .rising → (s.units.block b).occupied = false → w.mask &&& 28 = 0 → w.kind ≠ .pending →
        ∃ t, exec (.detectorRiseExpiry b) s = .next t
          ∧ let bits : Byte := if w.mask &&& 2 ≠ 0 ∧ (t.units.block b).tag ≠ .none then 2 else w.mask &&& 1
            (inRange b → bits ≠ 0 → t.units.lnk.carries (notice t bits b))
            ∧ ∀ f : Frame, t.units.lnk.carries f → f.kind = .watchNotice →
                s.units.lnk.carries f ∨ inRange b ∧ bits ≠ 0 ∧ f = notice t bits b)
      ∧ (∀ n k r, (s.units.signal n).proving.isSome = true → s.sys.cfg.route k = some r → r.entry = n →
          (∀ j r', s.sys.cfg.route j = some r' → r'.entry = n → r'.path.head? = some b) → alone → w.mask &&& 8 ≠ 0 →
          ∃ t, exec (.lampProvingExpiry n) s = .next t ∧ t.units.lnk.carries (notice t 8 b))
      ∧ (∀ n c, s.sys.cfg.turnout n = some c → c.feedback = .twoContact → c.owning = b →
          (s.units.turnout n).state = .normal ∨ (s.units.turnout n).state = .reverse →
          (s.units.turnout n).normalIn.level = false ∨ (s.units.turnout n).reverseIn.level = false →
          alone → w.mask = 16 →
          ∃ t, exec (.turnoutFeedbackChange n true true) s = .next t ∧ t.units.lnk.carries (notice t 16 b))
      ∧ ∀ (x : RxFrame) (rest : List RxFrame) (r : RouteCfg), s.units.lnk.rx = x :: rest →
          x.frame.kind = .routeCancel →
          let n := payloadAt x.frame.payload 0
          let gone (a : Nat) : Prop := (s.units.block a).holder = .route n ∧ a ∈ r.path ++ r.overlap.toList
          n < 64 → s.sys.cfg.route n = some r → (s.units.route n).state = .set → (s.units.route n).attached = none →
          s.units.approachOccupied s.sys.cfg r.entry = false →
          ∃ t, exec .routeCancel s = .next t
            ∧ (alone → gone b → w.mask = 4 → t.units.lnk.carries (notice t 4 b))
            ∧ (w.kind = .pending → w.mask = 0 ∨ alone →
              let clear : Prop := ∀ a < 48, inRange a →
                gone a ∨ (s.units.block a).holder = .free ∨ ∃ q, (s.units.block a).holder = .arrivalHold q
              ((∃ a < 48, inRange a ∧ gone a) → clear → t.units.watch i = some { w with kind := .active }
                ∧ t.units.lnk.carries (notice t 32 w.first))
              ∧ (¬ clear → t.units.watch i = some w)))

/-! ## The turntable -/

/-- R137, R138, law L7: a plan's runs end at the target, its return run is CW, and with a winding limit of at least
C + L and the winding within it, every step of every run stays within it. -/
def Obligations.PlanEndsAtTheTargetWithinTheLimit : Prop :=
  ∀ (g : TurntableCfg) (c target : Nat) (u : Int) (last : Turn), 0 < g.steps → c < g.steps → target < g.steps →
    g.backlash < g.steps →
    let p := planMove g c u last target
    let run (turn : Turn) (k : Nat) (x : Nat × Int) : Nat × Int :=
      ((fun y : Nat × Int => (stepPos g y.1 turn, stepWinding y.2 turn))^[k]) x
    (run .cw p.back (run p.turn p.main (c, u))).1 = target
    ∧ (g.limit ≠ 0 → g.steps + g.backlash ≤ g.limit → u.natAbs ≤ g.limit →
        (∀ k ≤ p.main, (run p.turn k (c, u)).2.natAbs ≤ g.limit)
        ∧ ∀ k ≤ p.back, (run .cw k (run p.turn p.main (c, u))).2.natAbs ≤ g.limit)

/-- R130, R131: a MOVE or SWAP is refused NOT_RUNNING, NO_TURNTABLE, BAD_ITEM, BAD_ROAD or FULL, in that order, or joins
the tail of the queue and is told QUEUED, in every phase; a move in progress goes on, and at rest a head that the stop
state holds back stays in the queue (R111, R134). That a request of no known kind is taken as a
MOVE, and so refused, is the model's reading (log entry 4). R132, R150: a CANCEL_ALL empties the queue and tells its
sender how many went; a move in progress goes on, and a turntable in FAULT becomes UNHOMED. -/
def Obligations.TurntableRequestsAreTaken : Prop :=
  (∀ (s : State) (x : RxFrame) (rest : List RxFrame) (m : Nat), s.env.mirrors = true →
     s.units.lnk.rx = x :: rest → x.frame.kind = .turntableRequest → s.canSend m →
     let kind := payloadAt x.frame.payload 0
     let road := payloadAt x.frame.payload 1
     let side := payloadAt x.frame.payload 2
     let told (t : State) (o : MoveOutcome) := t.units.lnk.carries ⟨x.frame.src, m, .turntableReport, o.payload⟩
     let refused (i : Instr) (c : Code) := ∃ t, exec i s = .next t ∧ told t (.refused c)
       ∧ (s.taken rest).keepsBut Part.ofEnd t.units
     let queued (i : Instr) (y : MoveTarget) := s.units.ttc.queue.length < 4 →
       ∃ t, exec i s = .next t ∧ told t .queued
         ∧ (s.units.ttc.phase.inMove = true
             ∨ s.units.ttc.phase.resting = true ∧ s.units.ase.stop ≠ .empty ∧ s.units.ttc.queue = []
               ∧ (y = .swap → s.units.ttc.alignedAt.isSome = true)
               ∧ (∀ r e, y = .road r e → s.units.ttc.alignedAt ≠ some (r, e)) →
           t.units.ttc = { s.units.ttc with queue := s.units.ttc.queue ++ [⟨.station x.frame.src, y⟩] }
           ∧ (s.taken rest).keepsBut ([.table, .ready] ++ Part.ofEnd) t.units)
     let full (i : Instr) := s.units.ttc.queue.length = 4 → s.units.ttc.phase ≠ .fault → refused i .full
     (kind ≠ 1 → kind ≠ 2 →
       (s.sys.station ≠ .running → refused .turntableMove .notRunning)
       ∧ (s.sys.station = .running → s.sys.cfg.turntable = none → refused .turntableMove .noTurntable)
       ∧ ∀ g, s.sys.station = .running → s.sys.cfg.turntable = some g →
           (kind ≠ 0 → refused .turntableMove .badItem)
           ∧ (kind = 0 → 2 ≤ side → refused .turntableMove .badItem)
           ∧ (kind = 0 → side < 2 → g.road road = none → refused .turntableMove .badRoad)
           ∧ (kind = 0 → side < 2 → g.road road ≠ none →
               full .turntableMove ∧ queued .turntableMove (.road road (if side = 0 then .a else .b))))
     ∧ (kind = 1 →
       (s.sys.station ≠ .running → refused .turntableSwap .notRunning)
       ∧ (s.sys.station = .running → s.sys.cfg.turntable = none → refused .turntableSwap .noTurntable)
       ∧ (s.sys.station = .running → s.sys.cfg.turntable.isSome = true →
           full .turntableSwap ∧ queued .turntableSwap .swap)))
  ∧ (∀ (s : State) (x : RxFrame) (rest : List RxFrame) (m : Nat) (g : TurntableCfg),
     s.receives .turntableRequest x rest → payloadAt x.frame.payload 0 = 2 → s.sys.cfg.turntable = some g →
     s.sys.number = some m → s.units.lnk.ordinary.length + s.units.ttc.queue.length < 16 →
     ∃ t, exec .turntableCancelAll s = .next t
       ∧ t.units.ttc = { s.units.ttc with
           queue := [], phase := if s.units.ttc.phase = .fault then .unhomed else s.units.ttc.phase }
       ∧ t.units.lnk.carries ⟨x.frame.src, m, .turntableReport,
           (MoveOutcome.cancelled s.units.ttc.queue.length).payload⟩
       ∧ (∀ q ∈ s.units.ttc.queue, ∀ k, q.source = .station k → k ≠ x.frame.src →
           t.units.lnk.carries ⟨k, m, .turntableReport, (MoveOutcome.cancelled 255).payload⟩)
       ∧ (s.taken rest).keepsBut ([.table, .ready, .buttons] ++ Part.ofEnd) t.units)

/-- R133 to R136, R9: with the bridge ALIGNED and the start conditions met, a MOVE starts at once: the deck block is
held, deck power is off, the lock is withdrawn, and the plan to the target is made. -/
def Obligations.MoveStartsFromAligned : Prop :=
  ∀ (s : State) (x : RxFrame) (rest : List RxFrame) (g : TurntableCfg) (y : RoadCfg) (r0 : Nat) (e0 : BridgeEnd),
    s.receives .turntableRequest x rest → s.sys.cfg.turntable = some g → s.units.nothingWaits → s.units.sized →
    let road := payloadAt x.frame.payload 1
    let e : BridgeEnd := if payloadAt x.frame.payload 2 = 0 then .a else .b
    let z := s.units.ttc
    let target := if e = .a then y.pos else (y.pos + g.steps / 2) % g.steps
    payloadAt x.frame.payload 0 = 0 → payloadAt x.frame.payload 2 < 2 → g.road road = some y →
    z.phase = .aligned → z.alignedAt = some (r0, e0) → (r0, e0) ≠ (road, e) → z.homed = true → z.current = none →
    z.confirm.level = true → s.units.ase.stop = .empty → g.deck < 48 → (s.units.block g.deck).holder = .free →
    s.units.deckBarred g.deck (some x.frame.src) = false →
    (∀ b ∈ g.facingBlocks z.pos, (s.units.block b).occupied = false) →
    (∀ n r, s.sys.cfg.route n = some r → r.turntable.isSome = true → (s.units.route n).state = .idle) →
    ∃ t, exec .turntableMove s = .next t
      ∧ t.units.ttc = { z with
          phase := .unlocking, deckPower := false, lockEngage := false, unlockTime := some 0
          current := some ⟨.station x.frame.src, road, e, target, r0 == road,
            some (planMove g z.pos z.winding z.lastTurn target), none, 0, false, false⟩ }
      ∧ (t.units.block g.deck).holder = .turntable
      ∧ (∀ b, b ≠ g.deck → (t.units.block b).holder = (s.units.block b).holder)
      ∧ t.units.trk.carry = (if s.units.trk.carry.isNone = true ∧ (s.units.block g.deck).occupied = true
          then some ⟨(s.units.block g.deck).tag, (s.units.block g.deck).dir⟩ else s.units.trk.carry)
      ∧ (s.taken rest).keepsBut ([.holders, .carry, .watches, .table, .ready] ++ Part.ofCalm) t.units

/-- R129, R141, R149: the lock confirm becomes withdrawn: in UNHOMED and ALIGNED deck power goes off, in ALIGNED as a
fault that is recorded and told; in UNLOCKING a homed bridge begins its main run and an unhomed one homes. R129, R145,
R31, R32: it becomes engaged: in ALIGNED deck power comes on; in LOCKING the move completes: the bridge is ALIGNED at
its road, powered, the deck block FREE, its direction reversed by a half turn, and the source is told. That the command
also puts the lock input line at its level is the model's choice (log entry 31). -/
def Obligations.LockConfirmChanges : Prop :=
  (∀ (s : State) (g : TurntableCfg), s.sys.station = .running → s.sys.cfg.turntable = some g →
     s.units.nothingWaits → s.units.ttc.confirm.level = true →
     let z := { s.units.ttc with confirm := ⟨false, none⟩ }
     ∃ t, exec .lockConfirmWithdrawn s = .next t ∧ t.pins = { s.pins with lock := false }
       ∧ s.units.keepsBut ([.table, .ready, .record] ++ Part.ofCalm) t.units
       ∧ match z.phase with
         | .unhomed => t.units.ttc = { z with deckPower := false } ∧ t.units.record = s.units.record
         | .aligned => t.units.ttc = { z with deckPower := false } ∧ t.units.lnk.tellsTable .lockLost
             ∧ t.units.record = ⟨.lockLost, .turntable, s.units.scaleMinute, saturate s.units.record.count⟩
         | .unlocking => t.units.record = s.units.record ∧ ∀ m, z.current = some m →
             (z.homed = false → t.units.ttc =
               { z with phase := .homing, unlockTime := none, stepping := some .cw, lastTurn := .cw })
             ∧ ∀ p, z.homed = true → m.plan = some p → p.main ≠ 0 → t.units.ttc = { z with
                 phase := .moving, unlockTime := none, stepping := some p.turn, lastTurn := p.turn
                 current := some { m with run := some ⟨p.turn, p.main, 0, none⟩ } }
         | .unaligned | .homing | .moving | .settling | .locking | .fault =>
             t.units.ttc = z ∧ t.units.record = s.units.record)
  ∧ (∀ (s : State) (g : TurntableCfg), s.sys.station = .running → s.sys.cfg.turntable = some g → s.units.sized →
     s.units.nothingWaits → s.units.ttc.confirm.level = false →
     let z := { s.units.ttc with confirm := ⟨true, none⟩ }
     ∃ t, exec .lockConfirmEngaged s = .next t ∧ t.pins = { s.pins with lock := true }
       ∧ match z.phase with
         | .aligned => t.units.ttc = { z with deckPower := true } ∧ s.units.keepsBut (.table :: Part.ofEnd) t.units
         | .locking => ∀ m, z.current = some m → g.deck < 48 → (s.units.block g.deck).holder = .turntable →
             t.units.ttc = { z with
               phase := .aligned, lockTime := none, alignedAt := some (m.road, m.bridge), deckPower := true
               current := none }
             ∧ (t.units.block g.deck).holder = .free
             ∧ (t.units.block g.deck).dir =
                 (let d := (s.units.block g.deck).dir
                  if m.halfTurn = true ∧ (s.units.block g.deck).occupied = true then
                    (match d with
                     | .up => .down
                     | .down => .up
                     | .unknown => .unknown)
                  else d)
             ∧ (∀ k n, m.source = .station k → s.canSend n → t.units.lnk.carries
                 ⟨k, n, .turntableReport, (MoveOutcome.aligned m.road m.bridge).payload⟩)
             ∧ s.units.keepsBut ([.occupancy, .holders, .carry, .table, .buttons, .ready] ++ Part.ofCalm) t.units
         | .unhomed | .unaligned | .unlocking | .homing | .moving | .settling | .fault =>
             t.units.ttc = z ∧ s.units.keepsBut (.table :: Part.ofEnd) t.units)

/-- R141, R145, R148, R149: the expiry of the unlock or the lock confirm timer is a turntable fault: every drive off,
the lock engaged, the deck unhomed and released, queue and move gone, recorded and told. -/
def Obligations.LockTimersRunIntoFault : Prop :=
  ∀ (s : State) (g : TurntableCfg), s.sys.station = .running → s.sys.cfg.turntable = some g → s.units.sized →
    g.deck < 48 → s.units.ilk.waiting = [] →
    let fails (i : Instr) (k : FaultKind) := ∃ t, exec i s = .next t
      ∧ t.units.ttc = { s.units.ttc with
          phase := .fault, homed := false, winding := t.units.ttc.winding, alignedAt := none, queue := []
          current := none, unlockTime := none, lockTime := none, deckPower := false, lockEngage := true
          stepping := none }
      ∧ (t.units.block g.deck).holder = .free
      ∧ (∀ b, b ≠ g.deck → (t.units.block b).holder = (s.units.block b).holder)
      ∧ t.units.record = ⟨k, .turntable, s.units.scaleMinute, saturate s.units.record.count⟩
      ∧ t.units.lnk.tellsTable k
      ∧ (∀ m q n, s.units.ttc.current = some m → m.source = .station q → s.canSend n →
          t.units.lnk.carries ⟨q, n, .turntableReport, (MoveOutcome.fault k).payload⟩)
      ∧ s.units.keepsBut ([.holders, .carry, .table, .buttons, .ready, .record, .free] ++ Part.ofCalm) t.units
    (s.units.ttc.unlockTime.isSome = true → fails .unlockConfirmExpiry .unlockTimeout)
    ∧ (s.units.ttc.lockTime.isSome = true → fails .lockConfirmExpiry .lockTimeout)

/-- R127, R142 to R144, R146, R147: a step moves position and winding by one; the last step of a run begins the return
run or locks; homing ends at an index rise, where the bridge is homed, or fails: a level that is active from before the
first step is no rise. A slip leaves the deck unhomed and the run ramps down; a ramp-down goes on step by step, and its
last step leaves the bridge UNALIGNED with ABORTED told, or in FAULT after a slip. That the rise is judged from the
command's operand, that entering LOCKING completes nothing whatever the confirm shows, and that an unhomed deck's
winding is a free value, are the model's (log entries 18, 34, 15). -/
def Obligations.StepsMoveTheBridge : Prop :=
  ∀ (s : State) (g : TurntableCfg) (m : Move) (before home : Bool), s.sys.station = .running →
    s.sys.cfg.turntable = some g → s.units.ttc.current = some m → s.units.nothingWaits →
    let z := s.units.ttc
    let first : Prop := z.phase ≠ .settling ∧ m.homing = 0 ∧ m.run.all (fun x => x.made == 0) = true
    let rise := home && !(if first then before else s.pins.home)
    let moved (turn : Turn) : Nat := if turn = .cw then (z.pos + 1) % g.steps else (z.pos + g.steps - 1) % g.steps
    let wound (turn : Turn) : Int := if turn = .cw then z.winding + 1 else z.winding - 1
    let fails (t : State) (k : FaultKind) := t.units.ttc.phase = .fault ∧ t.units.ttc.homed = false
      ∧ t.units.ttc.current = none ∧ t.units.ttc.stepping = none ∧ t.units.ttc.lockEngage = true
      ∧ t.units.record = ⟨k, .turntable, s.units.scaleMinute, saturate s.units.record.count⟩ ∧ t.units.lnk.tellsTable k
      ∧ (∀ q n, m.source = .station q → s.canSend n →
          t.units.lnk.carries ⟨q, n, .turntableReport, (MoveOutcome.fault k).payload⟩)
      ∧ s.units.keepsBut ([.holders, .carry, .table, .buttons, .ready, .record, .free] ++ Part.ofCalm) t.units
    ∃ t, exec (.stepIntervalExpiry ⟨before, home⟩) s = .next t ∧ t.pins = { s.pins with home := home }
      ∧ (∀ x : Machine.Run, z.phase = .moving ∨ z.phase = .settling → m.run = some x → x.ramp = none → z.homed = true →
          let z' := { z with pos := moved x.turn, winding := wound x.turn }
          let x' := { x with made := x.made + 1 }
          let slip := rise && decide (g.slip < (g.slipError z'.pos).natAbs)
          (slip = false → x.made + 1 < x.len → t.units.ttc = { z' with current := some { m with run := some x' } }
            ∧ s.units.keepsBut (.table :: Part.ofEnd) t.units)
          ∧ (slip = false → x.len ≤ x.made + 1 → s.units.keepsBut ([.table, .ready] ++ Part.ofEnd) t.units
            ∧ ((z.phase = .settling ∨ ∀ p, m.plan = some p → p.back = 0) → t.units.ttc = { z' with
                phase := .locking, stepping := none, lockEngage := true, lockTime := some 0
                reversed := decide ((m.target + g.steps - g.polarity) % g.steps ≥ g.steps / 2)
                current := some { m with run := none } })
            ∧ ∀ p, z.phase = .moving → m.plan = some p → 0 < p.back → t.units.ttc = { z' with
                phase := .settling, stepping := some .cw, lastTurn := .cw
                current := some { m with run := some ⟨.cw, p.back, 0, none⟩ } })
          ∧ (slip = true →
            let k := g.level x.len x.made
            let n := min (k * g.perLevel) (x.len - (x.made + 1))
            (n = 0 → fails t .slip)
            ∧ (n ≠ 0 → t.units.ttc = { z' with
                homed := false, winding := t.units.ttc.winding
                current := some { m with
                  slipped := true, aborting := true, run := some { x' with ramp := some (k, n, 0) } } }
              ∧ s.units.keepsBut ([.table, .free] ++ Part.ofEnd) t.units)))
      ∧ (∀ (x : Machine.Run) (k n i : Nat), z.phase = .moving ∨ z.phase = .settling → m.run = some x →
          x.ramp = some (k, n, i) →
          let slip := rise && z.homed && decide (g.slip < (g.slipError (moved x.turn)).natAbs)
          let slipped := m.slipped || slip
          let z' := { z with pos := moved x.turn, homed := z.homed && !slip, winding := t.units.ttc.winding }
          (z.homed = true → slipped = false → t.units.ttc.winding = wound x.turn)
          ∧ (i + 1 < n → t.units.ttc = { z' with current := some { m with
                slipped := slipped, run := some { x with made := x.made + 1, ramp := some (k, n, i + 1) } } }
              ∧ s.units.keepsBut ([.table, .free] ++ Part.ofEnd) t.units)
          ∧ (n ≤ i + 1 → slipped = true → fails t .slip)
          ∧ (n ≤ i + 1 → slipped = false → t.units.ttc = { z' with
                phase := .unaligned, stepping := none, alignedAt := none, deckPower := false, unlockTime := none
                current := none }
              ∧ (∀ q n', m.source = .station q → s.canSend n' →
                  t.units.lnk.carries ⟨q, n', .turntableReport, (MoveOutcome.aborted .stopped).payload⟩)
              ∧ s.units.keepsBut ([.table, .buttons, .ready, .free] ++ Part.ofEnd) t.units))
      ∧ (z.phase = .homing →
          (rise = false → m.homing + 1 < g.steps + g.steps / 8 → t.units.ttc.phase = .homing
            ∧ t.units.ttc.pos = (z.pos + 1) % g.steps ∧ t.units.ttc.current = some { m with homing := m.homing + 1 })
          ∧ (rise = false → g.steps + g.steps / 8 ≤ m.homing + 1 → fails t .homeFailed)
          ∧ (rise = true → t.units.ttc.homed = true ∧ t.units.ttc.pos = g.home ∧ t.units.ttc.winding = (g.home : Int)))

/-! ## Clock and timetable -/

/-- R152, R153: a rollover advances the minute round the day and leaves the remainder in the accumulator; a beacon
station sends its time. R161, R162, R164, R165: what one entry does at a rollover, its times reckoned from its departure,
modulo 60 for ANY hour: the trigger makes a TIMED entry DUE, its request added, or MISSED with the list full, and a SHOW
entry is DEPARTED at its minute; one minute on a DUE, READY or CANCELLED entry has Passed yes; 10 minutes on a DUE entry is
MISSED, its request withdrawn; 30 minutes on an outcome is WAITING again. R158, R162: a skipped minute of a jump does the
same, but a trigger, or the departure of a SHOW, DUE or READY entry, makes it MISSED, and no request is added; an
ON_DEMAND entry that is MISSED is WAITING. -/
def Obligations.RolloversAdvanceClockAndEntries : Prop :=
  let circle (x : Entry) : Nat := if x.cfg.hour.isSome then 1440 else 60
  let departure (x : Entry) : Nat := match x.cfg.hour with
    | some h => h * 60 + x.cfg.minute
    | none => x.cfg.minute
  let falls (x : Entry) (k m : Nat) : Prop := (departure x + k) % circle x = m % circle x
  let triggers (x : Entry) (m : Nat) : Prop := (departure x + circle x - x.cfg.lead) % circle x = m % circle x
  let rearmed (x : Entry) : Entry := { x with status := .waiting, passed := false }
  let missed (x : Entry) : Entry := if x.cfg.kind = .onDemand then rearmed x else { x with status := .missed }
  (∀ s : State, s.sys.station = .running → s.units.clock.state = .running → 0 < s.units.clock.ratio →
     let c := s.units.clock
     let m := (c.minute + 1) % 1440
     ∃ t, exec .scaleRollover s = .next t
       ∧ t.units.clock = { c with minute := m, acc := t.units.clock.acc }
       ∧ (600000 ≤ c.acc + c.ratio → t.units.clock.acc = c.acc + c.ratio - 600000)
       ∧ (c.acc + c.ratio < 600000 → t.units.clock.acc < c.ratio)
       ∧ (∀ n, s.canSend n → s.sys.cfg.station.beacon = true → t.units.lnk.carries
           ⟨63, n, .clockBeacon, [byte c.epoch] ++ bytes16 m ++ bytes16 c.ratio⟩)
       ∧ (∀ i < 48, ∀ x, s.units.entry i = some x →
           (x.status = .ready → falls x 1 m → t.units.entry i = some { x with passed := true })
           ∧ (x.status = .due → falls x 10 m → t.units.entry i = some (missed x))
           ∧ (x.status = .departed ∨ x.status = .missed → falls x 30 m → t.units.entry i = some (rearmed x)))
       ∧ s.units.keeps [.filters, .occupancy, .mirrors, .republish, .claimTable, .reception, .stop, .record, .rx,
           .refresh] t.units)
  ∧ (∀ (v : Env) (m i : Nat) (e : Ev) (x : Entry), i < 48 → e.u.entries[i]? = some (some x) → x.cfg.lead ≤ 15 →
     let roll := (e.rolloverEntry v m i).u
     let skip := (e.skipMinute v m).u
     let becomes (y : Entry) : Prop := roll.entry i = some y ∧ skip.entry i = some y
     let given (u : Units) : Prop := ∀ q ∈ u.ilk.waiting, q.source.entry ≠ i
     let full : Prop := e.u.hasSource i = false ∧ 8 ≤ e.u.ilk.waiting.length
     (∀ j, j ≠ i → roll.entry j = e.u.entry j) ∧ (∀ q ∈ skip.ilk.waiting, q ∈ e.u.ilk.waiting)
     ∧ match x.status with
       | .waiting => match x.cfg.kind with
         | .timed => (triggers x m → skip.entry i = some { x with status := .missed }
               ∧ (full → roll.entry i = some { x with status := .missed })
               ∧ (¬ full → roll.entry i = some { x with status := .due }
                 ∧ (e.u.hasSource i = false →
                     roll.ilk.waiting = e.u.ilk.waiting ++ [⟨x.cfg.route, ⟨i, none⟩, x.cfg.tag⟩])))
             ∧ (¬ triggers x m → becomes x)
         | .show => (falls x 0 m → roll.entry i = some { x with status := .departed }
               ∧ skip.entry i = some { x with status := .missed })
             ∧ (¬ falls x 0 m → becomes x)
         | .onDemand => becomes x
       | .due => (falls x 0 m → roll.entry i = some x ∧ skip.entry i = some (missed x) ∧ given skip)
           ∧ (falls x 1 m → becomes { x with passed := true })
           ∧ (falls x 10 m → becomes (missed x) ∧ given roll ∧ given skip)
           ∧ (¬ falls x 0 m → ¬ falls x 1 m → ¬ falls x 10 m → becomes x)
       | .ready => (falls x 0 m → roll.entry i = some x ∧ skip.entry i = some (missed x))
           ∧ (falls x 1 m → becomes { x with passed := true })
           ∧ (¬ falls x 0 m → ¬ falls x 1 m → becomes x)
       | .cancelled => (falls x 1 m → becomes { x with passed := true })
           ∧ (falls x 30 m → becomes (if x.passed then rearmed x else x))
           ∧ (¬ falls x 1 m → ¬ falls x 30 m → becomes x)
       | .departed | .missed => (falls x 30 m → becomes (rearmed x)) ∧ (¬ falls x 30 m → becomes x))
  ∧ (∀ (s : State) (x : RxFrame) (rest : List RxFrame) (i h : Nat) (y : Entry), s.receives .clockBeacon x rest →
     let at' := payloadAt x.frame.payload
     let c := s.units.clock
     let ahead (n : Nat) := (n + 2880 - c.minute) % 1440
     let k := ahead ((at' 1 * 256 + at' 2) % 1440)
     at' 0 = c.epoch → c.state = .running → c.minute < 1440 → 16 ≤ k → k ≤ 719 → i < 48 →
     s.units.entry i = some y → y.cfg.hour = some h → y.cfg.lead ≤ 15 →
     let j := ahead (h * 60 + y.cfg.minute)
     let l := ahead (h * 60 + y.cfg.minute + 1440 - y.cfg.lead)
     (y.status = .due ∨ y.status = .ready → 1 ≤ j → j < k → k < j + 30 →
       ∃ t, exec .clockBeacon s = .next t ∧ t.units.entry i = some (missed y)
         ∧ (y.status = .due → ∀ q ∈ t.units.ilk.waiting, q.source.entry ≠ i))
     ∧ (y.status = .waiting → y.cfg.kind = .timed → 1 ≤ l → l < k → k < l + 30 →
       ∃ t, exec .clockBeacon s = .next t ∧ t.units.entry i = some { y with status := .missed }))

/-- R154, R156, R168: a CLOCK SET, or a CLOCK BEACON, of a newer epoch, or to an INVALID clock, is adopted: time, clamped
ratio, epoch and state are its own, and every used entry is WAITING; any other setting changes nothing. R155 to R158: a
CLOCK CONTROL of the station's own epoch makes a STOPPED clock run and a RUNNING one stop. A beacon of that epoch, 1 to
719 minutes ahead of a RUNNING clock, brings it to the beacon's minute with an empty accumulator. Any other that is not
adopted changes nothing. -/
def Obligations.ClockSettingsControlsAndBeacons : Prop :=
  (∀ (s : State) (x : RxFrame) (rest : List RxFrame),
     let at' := payloadAt x.frame.payload
     let epoch := at' 0
     let minute := (at' 1 * 256 + at' 2) % 1440
     let ratio := max 10 (min (at' 3 * 256 + at' 4) 240)
     let d := (epoch + 256 - s.units.clock.epoch) % 256
     let adopts := s.units.clock.state = .invalid ∨ 1 ≤ d ∧ d ≤ 127
     let adopted (t : State) (st : ClockState) := t.units.clock = ⟨st, minute, 0, ratio, epoch⟩
       ∧ (∀ i y, s.units.entries[i]? = some (some y) → i < 48 →
           t.units.entry i = some { y with status := .waiting, passed := false }
           ∧ ∀ q ∈ t.units.ilk.waiting, q.source.entry ≠ i)
       ∧ (s.taken rest).keepsBut ([.waiting, .routes, .clock, .entries, .buttons] ++ Part.ofEnd) t.units
     (s.receives .clockSet x rest → adopts → ∃ t, exec .clockSet s = .next t
       ∧ adopted t (if at' 5 % 2 = 1 then .running else .stopped))
     ∧ (s.receives .clockSet x rest → ¬ adopts → ∃ t, exec .clockSet s = .next t
       ∧ (s.taken rest).keepsBut Part.ofEnd t.units)
     ∧ (s.receives .clockBeacon x rest → adopts → ∃ t, exec .clockBeacon s = .next t ∧ adopted t .running))
  ∧ ((∀ (s : State) (x : RxFrame) (rest : List RxFrame), s.receives .clockControl x rest →
       let own := payloadAt x.frame.payload 0 = s.units.clock.epoch
       let act (i : Instr) (was is : ClockState) := ∃ t, exec i s = .next t
         ∧ t.units.clock = (if own ∧ s.units.clock.state = was then { s.units.clock with state := is }
             else s.units.clock)
         ∧ (s.taken rest).keepsBut ([.clock, .buttons] ++ Part.ofEnd) t.units
       (payloadAt x.frame.payload 1 % 2 = 1 → act .clockControlRun .stopped .running)
       ∧ (payloadAt x.frame.payload 1 % 2 = 0 → act .clockControlStop .running .stopped))
   ∧ (∀ (s : State) (x : RxFrame) (rest : List RxFrame), s.receives .clockBeacon x rest →
       let at' := payloadAt x.frame.payload
       let c := s.units.clock
       let minute := (at' 1 * 256 + at' 2) % 1440
       let d := (at' 0 + 256 - c.epoch) % 256
       let k := (minute + 1440 - c.minute) % 1440
       c.state ≠ .invalid → (d = 0 ∨ 128 ≤ d) → c.minute < 1440 →
       ∃ t, exec .clockBeacon s = .next t
         ∧ (if at' 0 = c.epoch ∧ c.state = .running ∧ 1 ≤ k ∧ k ≤ 719 then
             t.units.clock = { c with minute := minute, acc := 0 }
             ∧ (s.taken rest).keeps [.filters, .occupancy, .mirrors, .republish, .claimTable, .reception, .stop, .record,
                 .free, .rx, .refresh] t.units
           else (s.taken rest).keepsBut Part.ofEnd t.units)))

/-- R77, R159, R165 to R167: a TIMETABLE LOAD: its checks in order, and the entry it makes, WAITING with Passed no. A TIMETABLE
CANCEL: WAITING, DUE and READY become CANCELLED (an ON_DEMAND entry WAITING again), a DUE entry's request is
withdrawn, its source detached from its route, and any other status stays. -/
def Obligations.TimetableLoadAndCancel : Prop :=
  (∀ (s : State) (x : RxFrame) (rest : List RxFrame) (m : Nat), s.env.mirrors = true →
      s.units.lnk.rx = x :: rest → x.frame.kind = .timetableLoad → s.canSend m →
      let at' := payloadAt x.frame.payload
      let i := at' 0
      let tag := (at' 6 % 4) * 256 + at' 7
      let told (t : State) (c : Code) := t.units.lnk.carries ⟨x.frame.src, m, .answer, answerPayload .timetableLoad i c⟩
      let refused (c : Code) := ∃ t, exec .timetableLoad s = .next t ∧ told t c
        ∧ (s.taken rest).keepsBut Part.ofEnd t.units
      if s.sys.station ≠ .running then refused .notRunning
      else if 3 ≤ at' 1 ∨ 48 ≤ i ∨ (24 ≤ at' 2 ∧ at' 2 ≠ 255) ∨ 60 ≤ at' 3
        ∨ (at' 1 ≠ 2 ∧ departable s.sys.cfg (at' 5) = false) then refused .badItem
      else if 999 < tag then refused .badTag
      else ∃ t, exec .timetableLoad s = .next t ∧ told t .done
        ∧ t.units.entries = s.units.entries.set i (some {
            cfg := {
              kind := if at' 1 = 0 then .timed else if at' 1 = 1 then .onDemand else .show
              hour := if at' 2 = 255 then none else some (at' 2)
              minute := at' 3, lead := min (at' 4) 15
              route := if at' 1 = 2 then 0 else at' 5
              tag := if tag = 0 then none else some tag
              dest := at' 8, platform := at' 9 % 16 }
            depBlock := if at' 1 = 2 then none else departureBlock s.sys.cfg (at' 5)
            status := .waiting, passed := false })
        ∧ (s.units.status i = some .due → (∀ q ∈ t.units.ilk.waiting, q.source.entry ≠ i)
            ∧ ∀ k a, (t.units.route k).attached = some a → a.source.entry ≠ i)
        ∧ (s.taken rest).keepsBut ([.entries, .waiting, .routes, .buttons] ++ Part.ofEnd) t.units)
  ∧ (∀ (s : State) (x : RxFrame) (rest : List RxFrame) (m : Nat), s.env.mirrors = true →
      s.units.lnk.rx = x :: rest → x.frame.kind = .timetableCancel → s.canSend m → s.units.sized →
      let i := payloadAt x.frame.payload 0
      let told (t : State) (c : Code) := t.units.lnk.carries ⟨x.frame.src, m, .answer, answerPayload .timetableCancel i c⟩
      let refused (c : Code) := ∃ t, exec .timetableCancel s = .next t ∧ told t c
        ∧ (s.taken rest).keepsBut Part.ofEnd t.units
      (s.sys.station ≠ .running → refused .notRunning)
      ∧ (s.sys.station = .running → (48 ≤ i ∨ s.units.entry i = none) → refused .badItem)
      ∧ ∀ y, s.sys.station = .running → i < 48 → s.units.entry i = some y → ∃ t, exec .timetableCancel s = .next t
          ∧ told t .done
          ∧ t.units.entry i = (match y.status with
              | .waiting | .due | .ready =>
                if y.cfg.kind = .onDemand then some { y with status := .waiting, passed := false }
                else some { y with status := .cancelled }
              | .departed | .cancelled | .missed => some y)
          ∧ (∀ k, k ≠ i → t.units.entry k = s.units.entry k)
          ∧ (y.status = .due → (∀ q ∈ t.units.ilk.waiting, q.source.entry ≠ i)
              ∧ ∀ k a, (t.units.route k).attached = some a → a.source.entry ≠ i)
          ∧ (s.taken rest).keepsBut ([.entries, .waiting, .routes, .buttons] ++ Part.ofEnd) t.units)

/-- R163, R165, R172: a CLEAR event of a departure block: every READY entry whose required tag is ANY or the tag that the
block dropped has DEPARTED, an ON_DEMAND one being WAITING again, and the BUSY DEPART buttons that serve it go to GUARD,
or past it; every other entry and button stays as it was. -/
def Obligations.DeparturesOnTheClearEvent : Prop :=
  ∀ (s : State) (b : Nat), s.sys.station = .running → s.units.sized → s.units.nothingWaits → b < 48 →
    (s.units.filter b).state = .falling → (s.units.block b).occupied = true →
    let departs (i : Nat) : Prop := ∃ y, s.units.entry i = some y ∧ y.status = .ready ∧ y.depBlock = some b
      ∧ ∀ n, y.cfg.tag = some n → (s.units.block b).tag = .known n
    ∃ t, exec (.detectorDropExpiry b) s = .next t
      ∧ (∀ i, departs i → t.units.entry i = (s.units.entry i).map fun y =>
          if y.cfg.kind = .onDemand then { y with status := .waiting, passed := false } else { y with status := .departed })
      ∧ (∀ i, ¬ departs i → t.units.entry i = s.units.entry i)
      ∧ ∀ k < 16, let c := s.sys.cfg.button k
          let x := s.units.button k
          let past : ButtonState := if s.units.ase.stop = .empty ∧ s.units.clock.state = .running then .armed else .disabled
          (c.kind = .depart → departs c.entry → x.state = .busy → t.units.button k =
            if past = .armed ∧ c.guard ≠ 0 then { x with state := .guard, guard := some 0, flash := none }
            else { x with state := past, guard := none, flash := none })
          ∧ (c.kind ≠ .depart ∨ ¬ departs c.entry ∨ x.state ≠ .busy → t.units.button k = x)

/-! ## Buttons and the board -/

/-- R170 to R174, R165: a press event by the button's kind: a plunger's source is present; a DEPART button is BUSY and
its entry is DUE at the demanded minute; a TURNTABLE_SHOW button is BUSY with a SWAP; a press that is not taken changes
only the press filter. R170, R171: the release filter, the guard timer and the flash half-period of a button. -/
def Obligations.ButtonsActAndTimeOut : Prop :=
  (∀ (s : State) (k : Nat) (x : Button), s.sys.station = .running → s.units.biu.buttons[k]? = some x →
     s.units.nothingWaits → x.filter = .pressing →
     let c := s.sys.cfg.button k
     let held : Button := { x with filter := .pressed, timer := none }
     let busy : Button := { held with state := .busy, flash := some (0, true) }
     let only := ∃ t, exec (.buttonPress k) s = .next t ∧ t.units.biu.buttons = s.units.biu.buttons.set k held
       ∧ s.units.keepsBut (.buttons :: Part.ofEnd) t.units
     (x.state ≠ .armed → only)
     ∧ (x.state = .armed → c.kind = .stopPlunger → ∃ t, exec (.buttonPress k) s = .next t
         ∧ t.units.ase.stop = { s.units.ase.stop with plunger := true }
         ∧ (t.units.button k).filter = .pressed ∧ t.buttonLamp k = true)
     ∧ (x.state = .armed → c.kind = .depart →
         (∀ y, s.units.entry c.entry = some y →
           y.cfg.kind = .onDemand ∧ y.status = .waiting ∧ s.units.clock.state = .running →
           s.units.hasSource c.entry = false → tagReady s.env s.units (y.request c.entry none) = false →
           let d := (s.units.clock.minute + max y.cfg.lead 1) % 1440
           ∃ t, exec (.buttonPress k) s = .next t ∧ t.units.biu.buttons = s.units.biu.buttons.set k busy
             ∧ t.units.ilk.waiting = [⟨y.cfg.route, ⟨c.entry, some k⟩, y.cfg.tag⟩]
             ∧ (c.entry < s.units.entries.length → t.units.entry c.entry = some { y with
                 cfg := { y.cfg with hour := some (d / 60), minute := d % 60 }, status := .due })
             ∧ s.units.keepsBut ([.buttons, .waiting, .entries] ++ Part.ofEnd) t.units)
         ∧ ((s.units.clock.state ≠ .running ∨ s.units.status c.entry ≠ some .waiting) → only))
     ∧ (x.state = .armed → c.kind = .turntableShow → ∀ g, s.sys.cfg.turntable = some g →
         ((s.units.biu.ready = false ∨ (s.units.block g.deck).occupied = false) → only)
         ∧ (s.units.biu.ready = true → (s.units.block g.deck).occupied = true → s.units.ttc.current = none →
             s.units.ttc.phase = .aligned → s.units.ttc.alignedAt.isSome = true →
             ∃ t, exec (.buttonPress k) s = .next t ∧ t.units.button k = busy
               ∧ (t.units.ttc.queue = [⟨.button k, .swap⟩] ∧ t.units.ttc.phase = .aligned
                 ∨ ∃ m, t.units.ttc.current = some m ∧ m.source = .button k ∧ t.units.ttc.queue = []))))
  ∧ (∀ (s : State) (k : Nat) (x : Button), s.sys.station = .running → s.units.biu.buttons[k]? = some x →
     let becomes (i : Instr) (y : Button) := ∃ t, exec i s = .next t ∧ t.units.biu.buttons = s.units.biu.buttons.set k y
       ∧ s.units.keepsBut (.buttons :: Part.ofEnd) t.units
     let barred := s.units.ase.stop ≠ .empty ∨ s.units.clock.state ≠ .running
     (x.filter = .releasing → becomes (.buttonReleaseFilter k) { x with filter := .released, timer := none })
     ∧ (x.guard.isSome = true → (barred → becomes (.guardExpiry k) { x with state := .disabled, guard := none, flash := none })
         ∧ (¬ barred → becomes (.guardExpiry k) { x with state := .armed, guard := none, flash := none }))
     ∧ ∀ n on, x.flash = some (n, on) → becomes (.lampFlashExpiry k) { x with flash := some (0, !on) })

/-- R176, R177, R178: the five row texts. The candidates are the late entries, greatest delay first, then the coming
ones, fewest minutes first, ties to the lower number; none while the clock is INVALID. Whether a passed CANCELLED entry of
ANY hour is one is free (log entry 36). The message row is that of the stop state, the bridge's move with the train it
turns, or the clock; the clock row has the stop flag. R175: a recomposition marks the rows that differ from what was sent; it
follows an entry into RUNNING, a rollover, a change of the clock or of the stop state, a load, a cancel and a change of the
bridge's phase, and not a TAG SET. R180: after a row frame, and at the refresh with the line idle, the lowest dirty row is
sent: its sent image is its image, it is not dirty, and it is the row on the line; the refresh makes every row dirty. -/
def Obligations.BoardSendsTheLowestDirtyRow : Prop :=
  (∀ s : State, s.sys.station = .running →
    let sends (rows : List Row) (d : Board) : Prop :=
      (∀ i x, rows[i]? = some x → x.dirty = true → (∀ j y, j < i → rows[j]? = some y → y.dirty = false) →
        d.rows = rows.set i { x with sent := some x.image, dirty := false } ∧ d.line = some ⟨i, x.image⟩)
      ∧ ((∀ x ∈ rows, x.dirty = false) → d.rows = rows ∧ d.line = none)
    (∃ t, exec .boardRowSent s = .next t ∧ sends s.units.bdr.rows t.units.bdr ∧ s.units.keepsBut Part.ofEnd t.units)
    ∧ (s.units.bdr.refresh.isSome = true → ∃ t, exec .boardRefreshExpiry s = .next t ∧ t.units.bdr.refresh = some 0
        ∧ (s.units.bdr.line = none → sends (s.units.bdr.rows.map fun x => { x with dirty := true }) t.units.bdr)
        ∧ (s.units.bdr.line.isSome = true → t.units.bdr.line = s.units.bdr.line
            ∧ t.units.bdr.rows = s.units.bdr.rows.map fun x => { x with dirty := true })
        ∧ s.units.keepsBut (.refresh :: Part.ofEnd) t.units))
  ∧ (∀ (v : Env) (u : Units),
      let m := u.clock.minute
      let circle (x : Entry) : Nat := if x.cfg.hour.isSome then 1440 else 60
      let departure (x : Entry) : Nat := match x.cfg.hour with
        | some h => h * 60 + x.cfg.minute
        | none => x.cfg.minute
      let delay (x : Entry) : Nat := (m % circle x + circle x - departure x % circle x) % circle x
      let left (x : Entry) : Nat := (departure x % circle x + circle x - m % circle x) % circle x
      let late (x : Entry) : Prop := (x.status = .due ∨ x.status = .ready) ∧ x.passed = true
      let coming (x : Entry) : Prop := ¬ late x ∧ left x ≤ 120
        ∧ (x.status = .waiting ∧ x.cfg.kind ≠ .onDemand ∨ x.status = .due ∨ x.status = .ready
          ∨ x.status = .cancelled ∧ (x.cfg.hour.isSome = true ∨ x.passed = false ∨ Config.passedCancelledShows = true))
      let before (x y : Nat × Entry) : Prop := late x.2 ∧ ¬ late y.2
        ∨ late x.2 ∧ late y.2 ∧ (delay y.2 < delay x.2 ∨ delay x.2 = delay y.2 ∧ x.1 < y.1)
        ∨ ¬ late x.2 ∧ ¬ late y.2 ∧ (left x.2 < left y.2 ∨ left x.2 = left y.2 ∧ x.1 < y.1)
      let dig (n : Nat) : Byte := byte (48 + n % 10)
      let time (n : Nat) : List Byte := [dig (n / 600), dig (n / 60), byte 58, dig (n % 60 / 10), dig (n % 60)]
      let number (n : Nat) : List Byte := if n < 10 then [dig n] else if n < 100 then [dig (n / 10), dig n]
        else [dig (n / 100), dig (n / 10), dig n]
      let pad (n : Nat) (t : List Byte) : List Byte := (t ++ List.replicate n 32).take n
      let departs (x : Entry) (text : List Byte) (at' : Nat) : List Byte := time at' ++ [32]
        ++ pad 14 (if x.cfg.dest < 32 then v.cfg.texts.getD x.cfg.dest [] else []) ++ [32]
        ++ [if x.cfg.platform ≤ 9 then dig x.cfg.platform else byte 63] ++ [32] ++ pad 9 text
      let shows (x : Entry) (row : List Byte) : Prop :=
        (late x → row = departs x (textOf "Late " ++ number (min (delay x) 99)) ((m + 1440 - delay x) % 1440))
        ∧ (¬ late x → row = departs x (match x.status with
            | .ready => textOf "Boarding"
            | .cancelled => textOf "Cancelled"
            | .waiting | .due | .departed | .missed => textOf "On time") ((m + left x) % 1440))
      let turned : Tag := match u.trk.carry, v.cfg.turntable with
        | some c, _ => c.tag
        | none, some g => (u.block g.deck).tag
        | none, none => .none
      let moves : Prop := v.cfg.turntable.isSome = true ∧ (u.ttc.phase = .unlocking ∨ u.ttc.phase = .homing
        ∨ u.ttc.phase = .moving ∨ u.ttc.phase = .settling ∨ u.ttc.phase = .locking)
      let message (text : List Byte) : Prop :=
        (u.ase.stop ≠ .empty → text = textOf "Trains held - please wait")
        ∧ (u.ase.stop = .empty → moves → text = match turned with
          | .known n => textOf "Turntable turning train " ++ number n
          | .none | .unknown => textOf "Turntable turning")
        ∧ (u.ase.stop = .empty → ¬ moves → text = match u.clock.state with
          | .invalid => textOf "Layout clock not set"
          | .stopped => textOf "Layout clock stopped"
          | .running => textOf "Layout time " ++ time m)
      let flag : Byte := if u.ase.stop = .empty then 32 else 42
      let clock : List Byte := (if u.clock.state = .invalid then textOf "--:--" else time m) ++ [flag]
      ∃ (l : List (Nat × Entry)) (rows : List (List Byte)) (text : List Byte),
        (∀ i x, (i, x) ∈ l ↔ u.clock.state ≠ .invalid ∧ u.entries[i]? = some (some x) ∧ (late x ∨ coming x))
        ∧ l.Pairwise before ∧ rows.length = 3
        ∧ (∀ k < 3, (∀ x, l[k]? = some x → ∃ row, shows x.2 row ∧ rows[k]? = some (pad 32 row))
            ∧ (l[k]? = none → rows[k]? = some (List.replicate 32 32)))
        ∧ message text ∧ composeRows v u = rows ++ [pad 32 text, pad 32 clock])
  ∧ (∀ (v : Env) (e : Ev) (i : Nat) (x : Row), e.u.bdr.rows.length = 5 → e.u.bdr.rows[i]? = some x →
      ∃ text, (composeRows v e.u)[i]? = some text ∧ (e.recompose v).u.bdr.rows[i]? =
        some ⟨text, x.sent, x.dirty || decide (x.sent ≠ some text)⟩)
  ∧ ∀ s : State, s.units.bdr.rows.length = 5 →
      let composes (i : Instr) : Prop := ∃ t, exec i s = .next t
        ∧ t.units.bdr.rows.map (·.image) = composeRows t.env t.units
      (s.sys.station = .announcing → s.sys.settle.isSome = true → composes .settleTimerExpiry)
      ∧ (s.sys.station = .running → s.units.clock.state = .running → composes .scaleRollover)
      ∧ (s.sys.station = .running → s.units.ttc.unlockTime.isSome = true → s.sys.cfg.turntable.isSome = true →
          composes .unlockConfirmExpiry)
      ∧ ∀ (x : RxFrame) (rest : List RxFrame),
        let at' := payloadAt x.frame.payload
        (s.receives .zoneStop x rest → s.units.ase.stop = .empty → 63 ≤ x.frame.dest → composes .zoneStop)
        ∧ (s.receives .clockControl x rest → at' 0 = s.units.clock.epoch → s.units.clock.state = .stopped →
            at' 1 % 2 = 1 → composes .clockControlRun)
        ∧ (s.receives .clockSet x rest → s.units.clock.state = .invalid → composes .clockSet)
        ∧ (s.receives .timetableLoad x rest → composes .timetableLoad)
        ∧ (s.receives .timetableCancel x rest → at' 0 < 48 → s.units.status (at' 0) = some .waiting →
            composes .timetableCancel)
        ∧ (s.receives .tagSet x rest → s.units.nothingWaits → ∃ t, exec .tagSet s = .next t
            ∧ t.units.bdr.rows.map (·.image) = s.units.bdr.rows.map (·.image))

/-! ## The link -/

/-- R183, R186, R193, R89: a frame that ends is counted as a framing or CRC error, passed over, or placed at the tail
of the receive queue with its arrival list entry; a reception that is lost gives its held blocks back. -/
def Obligations.FramesAreJudgedAtTheirEnd : Prop :=
  ∀ (s : State) (bytes : List Byte) (broken : Bool) (m : Nat), s.env.listens = true → s.sys.number = some m →
    s.units.sized → s.units.nothingWaits →
    let lost (t : State) := t.units.clu.reception = none ∧ ∀ b, (t.units.block b).holder =
      match s.units.clu.reception with
      | some a => if b ∈ a.blocks ∧ (s.units.block b).holder = .arrivalHold a.station then .free
          else (s.units.block b).holder
      | none => (s.units.block b).holder
    (receive bytes broken = .badFraming → ∃ t, exec (.frameEnd bytes broken) s = .next t ∧ lost t
      ∧ t.units.lnk.counters.framing = saturate s.units.lnk.counters.framing
      ∧ t.units.lnk.counters.crc = s.units.lnk.counters.crc
      ∧ t.units.lnk.counters.missed = s.units.lnk.counters.missed
      ∧ t.units.lnk.counters.giveUp = s.units.lnk.counters.giveUp
      ∧ s.units.keepsBut ([.holders, .reception, .counters] ++ Part.ofCalm) t.units)
    ∧ (receive bytes broken = .badCrc → ∃ t, exec (.frameEnd bytes broken) s = .next t ∧ lost t
      ∧ t.units.lnk.counters.crc = saturate s.units.lnk.counters.crc
      ∧ t.units.lnk.counters.framing = s.units.lnk.counters.framing
      ∧ t.units.lnk.counters.missed = s.units.lnk.counters.missed
      ∧ t.units.lnk.counters.giveUp = s.units.lnk.counters.giveUp
      ∧ s.units.keepsBut ([.holders, .reception, .counters] ++ Part.ofCalm) t.units)
    ∧ ∀ dest src code payload, receive bytes broken = .whole dest src code payload → src ≠ m →
        let mine : Prop := dest = m ∨ dest = 63 ∨ 64 ≤ dest ∧ s.sys.cfg.station.groupMask.getLsbD (dest - 64) = true
        (¬ mine ∨ FrameKind.ofCode code = none → ∃ t, exec (.frameEnd bytes broken) s = .next t ∧ lost t
          ∧ s.units.keepsBut ([.holders, .reception] ++ Part.ofCalm) t.units)
        ∧ ∀ k, mine → FrameKind.ofCode code = some k →
          (k.takes payload.length = false → ∃ t, exec (.frameEnd bytes broken) s = .next t ∧ lost t
            ∧ s.units.keepsBut ([.holders, .reception] ++ Part.ofCalm) t.units)
          ∧ (k.takes payload.length = true → s.units.lnk.rx.length < 8 →
            ∃ t, exec (.frameEnd bytes broken) s = .next t
              ∧ t.units.lnk.rx = s.units.lnk.rx ++ [⟨⟨dest, src, k, payload⟩, false,
                  s.units.clu.reception.map fun a => a.blocks⟩]
              ∧ t.units.clu.reception = none
              ∧ s.units.keepsBut ([.rx, .reception] ++ Part.ofEnd) t.units)

/-- R184, R187, R198, R201: a frame that finds the receive queue full is missed: the counter rises, every configured
mirror is STALE, the reports that wait are marked, and no frame is lost from the queue. A frame from another station
under this one's number is an address clash: CONFIG_FAULT, safe outputs, the fault recorded, one ANNOUNCE that shows it;
the mirrors keep their values (R12). That all else, the clock's accumulator too, is as at a restart is the model's
reading (log entries 11, 48). -/
def Obligations.FullQueueAndAddressClash : Prop :=
  (∀ (s : State) (bytes : List Byte) (broken : Bool) (m dest src code : Nat) (k : FrameKind) (payload : List Byte),
      (s.sys.station = .announcing ∨ s.sys.station = .running) → s.sys.number = some m → s.units.sized →
      s.units.nothingWaits → receive bytes broken = .whole dest src code payload → src ≠ m → (dest = m ∨ dest = 63) →
      FrameKind.ofCode code = some k → k.takes payload.length = true → 8 ≤ s.units.lnk.rx.length →
      ∃ t, exec (.frameEnd bytes broken) s = .next t
        ∧ t.units.lnk.counters.missed = saturate s.units.lnk.counters.missed
        ∧ (∀ i < 16, (s.sys.cfg.bmirror i).isSome = true → (t.units.bmirror i).freshness = .stale)
        ∧ (∀ i < 8, (s.sys.cfg.smirror i).isSome = true → (t.units.smirror i).freshness = .stale)
        ∧ t.units.lnk.rx = (s.units.lnk.rx.map fun y =>
            if y.frame.kind = .occupancyReport ∨ y.frame.kind = .aspectReport then { y with precedes := true } else y)
        ∧ (s.units.lnk.ordinary.length < 16 → t.units.lnk.carries ⟨63, m, .refreshQuery, []⟩
            ∨ ∃ f ∈ t.units.lnk.ordinary, f.kind = .refreshQuery)
        ∧ s.units.keeps [.filters, .occupancy, .republish, .claimTable, .stop, .clock, .record, .refresh] t.units)
  ∧ (∀ (s : State) (bytes : List Byte) (broken : Bool) (m dest code : Nat) (payload : List Byte),
      (s.sys.station = .announcing ∨ s.sys.station = .running) → s.sys.number = some m →
      receive bytes broken = .whole dest m code payload →
      ∃ t, exec (.frameEnd bytes broken) s = .next t
        ∧ t.sys = { s.sys with station := .configFault, settle := none } ∧ t.outputsSafe
        ∧ t.units.record = ⟨.addressClash, .station m, s.units.scaleMinute, saturate s.units.record.count⟩
        ∧ t.units.lnk.carries ⟨63, m, .announce, announcePayload m s.sys.crc s.sys.cause true⟩
        ∧ t.units.bkt.bmirrors = s.units.bkt.bmirrors ∧ t.units.bkt.smirrors = s.units.bkt.smirrors
        ∧ t.units.lnk.rx = [] ∧ t.units.clock = { s.units.clock with acc := 0 })

/-- R195, R198: a STATUS QUERY to this station alone: pages 0 to 6 are answered with their page (in CONFIG_FAULT 0 to
3, and 4 to 6 with NOT_RUNNING), page 1 carries the five counters and clears them if asked, and any other page is
BAD_ITEM; a query to more stations is passed over. -/
def Obligations.StatusQueriesAreAnswered : Prop :=
  ∀ (s : State) (x : RxFrame) (rest : List RxFrame) (m : Nat), s.env.listens = true →
    s.units.lnk.rx = x :: rest → x.frame.kind = .statusQuery → s.canSend m →
    let page := payloadAt x.frame.payload 0
    let first := payloadAt x.frame.payload 1
    let clears : Prop := page = 1 ∧ payloadAt x.frame.payload 2 % 2 = 1
    let replied (p : List Byte) := ∃ t, exec .statusQuery s = .next t
      ∧ t.units.lnk.carries ⟨x.frame.src, m, .statusReply, p⟩
      ∧ (clears → t.units.lnk.counters = ⟨0, 0, 0, 0, 0⟩)
      ∧ (¬ clears → t.units.lnk.counters = s.units.lnk.counters)
      ∧ (s.taken rest).keepsBut (.counters :: Part.ofEnd) t.units
    let answered (c : Code) := ∃ t, exec .statusQuery s = .next t
      ∧ t.units.lnk.carries ⟨x.frame.src, m, .answer, answerPayload .statusQuery page c⟩
      ∧ (s.taken rest).keepsBut Part.ofEnd t.units
    let c := s.units.lnk.counters
    (x.frame.dest ≠ m → ∃ t, exec .statusQuery s = .next t ∧ (s.taken rest).keepsBut Part.ofEnd t.units)
    ∧ (x.frame.dest = m → (page ≤ 3 ∨ s.sys.station ≠ .configFault ∧ page ≤ 6) →
        replied (statusPage s.env s.units page first))
    ∧ (x.frame.dest = m → page = 1 → replied [1, byte c.crc, byte c.framing, byte c.missed, byte c.giveUp, byte c.overflow])
    ∧ (x.frame.dest = m → 4 ≤ page → page ≤ 6 → s.sys.station = .configFault → answered .notRunning)
    ∧ (x.frame.dest = m → 7 ≤ page → s.sys.station ≠ .configFault → answered .badItem)

/-- R188, R191, R192: the urgent gap lets the oldest urgent frame go, and only an urgent one. At the ordinary gap the
first source that has something is sent: an urgent frame, an OCCUPANCY REPORT of the 8 lowest marked blocks, an ASPECT
REPORT of the 8 lowest marked signals, the ordinary queue, the oldest notice slot. -/
def Obligations.GapsSendByPriority : Prop :=
  (∀ (s : State) (m : Nat), s.env.listens = true → s.sys.number = some m → s.units.lnk.inHand = none →
      s.units.lnk.idle = .below →
      ∃ t, exec .urgentGapReached s = .next t
        ∧ t.units.lnk = (match s.units.lnk.urgent with
          | f :: rest => { s.units.lnk with
              urgent := rest, inHand := some ⟨f, .urgent, 1, none, false⟩, idle := .driven }
          | [] => { s.units.lnk with idle := .urgentGap })
        ∧ s.units.keepsBut Part.ofEnd t.units)
  ∧ (∀ (s : State) (m : Nat), (s.sys.station = .announcing ∨ s.sys.station = .running) → s.sys.number = some m →
      s.units.lnk.inHand = none → s.units.lnk.idle ≠ .driven →
      let l := s.units.lnk
      ∃ t, exec .ordinaryGapReached s = .next t ∧ s.units.keepsBut Part.ofEnd t.units
        ∧ match l.urgent, l.markBlocks, l.markSignals, l.ordinary, l.order with
          | f :: rest, _, _, _, _ => t.units.lnk = { l with
              urgent := rest, inHand := some ⟨f, .urgent, 1, none, false⟩, idle := .driven }
          | [], b :: bs, _, _, _ => t.units.lnk = { l with
              markBlocks := (b :: bs).drop 8, idle := .driven
              inHand := some ⟨⟨63, m, .occupancyReport,
                ((b :: bs).take 8).flatMap fun i => blockItem i (s.units.block i)⟩, .blocks ((b :: bs).take 8), 1, none, false⟩ }
          | [], [], n :: ns, _, _ => t.units.lnk = { l with
              markSignals := (n :: ns).drop 8, idle := .driven
              inHand := some ⟨⟨63, m, .aspectReport,
                ((n :: ns).take 8).flatMap fun i => signalItem i (s.units.signal i)⟩, .signals ((n :: ns).take 8), 1, none, false⟩ }
          | [], [], [], f :: rest, _ => t.units.lnk = { l with
              ordinary := rest, inHand := some ⟨f, .ordinary, 1, none, false⟩, idle := .driven }
          | [], [], [], [], .fault :: _ => t.units.lnk.faults = .empty
              ∧ t.units.lnk.inHand = some ⟨⟨s.env.noticeGroup, m, .stationNotice, l.faults.payload⟩, .faultNotice l.faults, 1, none, false⟩
          | [], [], [], [], .tracking :: _ => t.units.lnk.tracking = .empty
              ∧ t.units.lnk.inHand = some ⟨⟨s.env.noticeGroup, m, .stationNotice, l.tracking.payload⟩, .trackingNotice l.tracking, 1, none, false⟩
          | [], [], [], [], .link :: _ =>
              t.units.lnk.inHand = some ⟨⟨s.env.noticeGroup, m, .stationNotice, l.counters.noticePayload⟩, .linkNotice, 1, none, false⟩
          | [], [], [], [], [] => t.units.lnk = { l with idle := .ordinaryGap })

/-- R188, R189: a frame sent leaves the transmitter; a collision makes the frame wait a number of slots below the
bound, and the tenth gives it up and returns its contents; after the backoff it is tried again, unchanged, while the
line is idle. A start bit of any station drives the line, and a driven line has no gap. That a BACKOFF_RETRY that comes
while the line is driven is passed over (log entry 27), and that a gap command that comes then changes nothing (log
entry 3), are the model's choices. -/
def Obligations.FramesAreSentOrTriedAgain : Prop :=
  (∀ (s : State) (x : InHand), s.env.listens = true → s.units.lnk.inHand = some x →
    let l := s.units.lnk
    (x.backoff = none → ∃ t, exec .frameSent s = .next t ∧ t.units.lnk = { l with inHand := none, idle := .below }
      ∧ s.units.keepsBut Part.ofEnd t.units)
    ∧ (x.backoff = none → x.last = false → x.attempts < 10 → ∃ t n, exec .collision s = .next t
        ∧ n < 2 ^ min x.attempts 5 ∧ t.units.lnk = { l with inHand := some { x with backoff := some n } }
        ∧ s.units.keepsBut (.free :: Part.ofEnd) t.units)
    ∧ (x.backoff = none → x.last = false → 10 ≤ x.attempts → l.idle = .driven → ∃ t, exec .collision s = .next t
        ∧ t.units.lnk.inHand = none ∧ t.units.lnk.counters = { l.counters with giveUp := saturate l.counters.giveUp }
        ∧ .link ∈ t.units.lnk.order
        ∧ (match x.origin with
          | .blocks items => ∀ b, b ∈ t.units.lnk.markBlocks ↔ b ∈ items ∨ b ∈ l.markBlocks
          | .signals items => ∀ n, n ∈ t.units.lnk.markSignals ↔ n ∈ items ∨ n ∈ l.markSignals
          | .faultNotice c => (∀ n, n ∈ t.units.lnk.faults.turnouts ↔ n ∈ c.turnouts ∨ n ∈ l.faults.turnouts)
              ∧ (∀ n, n ∈ t.units.lnk.faults.routes ↔ n ∈ c.routes ∨ n ∈ l.faults.routes)
              ∧ (∀ n, n ∈ t.units.lnk.faults.signals ↔ n ∈ c.signals ∨ n ∈ l.faults.signals)
              ∧ t.units.lnk.faults.turntable =
                (if l.faults.turntable = .none then c.turntable else l.faults.turntable)
          | .trackingNotice c => (∀ b, b ∈ t.units.lnk.tracking.stray ↔ b ∈ c.stray ∨ b ∈ l.tracking.stray)
              ∧ ∀ b, b ∈ t.units.lnk.tracking.lost ↔ b ∈ c.lost ∨ b ∈ l.tracking.lost
          | .urgent | .ordinary | .linkNotice => t.units.lnk.markBlocks = l.markBlocks)
        ∧ s.units.keepsBut (.counters :: Part.ofEnd) t.units)
    ∧ (x.backoff.isSome = true → ∃ t, exec .backoffRetry s = .next t
        ∧ t.units.lnk = (if l.idle = .driven then l else { l with
            inHand := some { x with attempts := x.attempts + 1, backoff := none }, idle := .driven })
        ∧ s.units.keepsBut Part.ofEnd t.units))
  ∧ ∀ s : State, s.env.listens = true →
    (∃ t, exec .lineStartBit s = .next t ∧ t.units.lnk = { s.units.lnk with idle := .driven }
      ∧ s.units.keepsBut Part.ofEnd t.units)
    ∧ (s.units.lnk.idle = .driven →
      (∃ t, exec .urgentGapReached s = .next t ∧ t.units.lnk = s.units.lnk ∧ s.units.keepsBut Part.ofEnd t.units)
      ∧ ∃ t, exec .ordinaryGapReached s = .next t ∧ t.units.lnk = s.units.lnk ∧ s.units.keepsBut Part.ofEnd t.units)
end

