-- ==== Sys2Proof/Laws/State.lean ====
section
/-! SUPPORT. One lemma per field for each change of one record, so that no later proof unfolds a record update. -/

namespace Sys2Proof.Machine

/-! ### link -/

@[simp] theorem link_u_filters (f : Link → Link) (e : Ev) : (e.link f).u.filters = e.u.filters := rfl
@[simp] theorem link_u_bkt (f : Link → Link) (e : Ev) : (e.link f).u.bkt = e.u.bkt := rfl
@[simp] theorem link_u_trk (f : Link → Link) (e : Ev) : (e.link f).u.trk = e.u.trk := rfl
@[simp] theorem link_u_tdu (f : Link → Link) (e : Ev) : (e.link f).u.tdu = e.u.tdu := rfl
@[simp] theorem link_u_ilk (f : Link → Link) (e : Ev) : (e.link f).u.ilk = e.u.ilk := rfl
@[simp] theorem link_u_clu (f : Link → Link) (e : Ev) : (e.link f).u.clu = e.u.clu := rfl
@[simp] theorem link_u_ase (f : Link → Link) (e : Ev) : (e.link f).u.ase = e.u.ase := rfl
@[simp] theorem link_u_watches (f : Link → Link) (e : Ev) : (e.link f).u.watches = e.u.watches := rfl
@[simp] theorem link_u_ttc (f : Link → Link) (e : Ev) : (e.link f).u.ttc = e.u.ttc := rfl
@[simp] theorem link_u_clock (f : Link → Link) (e : Ev) : (e.link f).u.clock = e.u.clock := rfl
@[simp] theorem link_u_entries (f : Link → Link) (e : Ev) : (e.link f).u.entries = e.u.entries := rfl
@[simp] theorem link_u_biu (f : Link → Link) (e : Ev) : (e.link f).u.biu = e.u.biu := rfl
@[simp] theorem link_u_bdr (f : Link → Link) (e : Ev) : (e.link f).u.bdr = e.u.bdr := rfl
@[simp] theorem link_u_lnk (f : Link → Link) (e : Ev) : (e.link f).u.lnk = f e.u.lnk := rfl
@[simp] theorem link_u_record (f : Link → Link) (e : Ev) : (e.link f).u.record = e.u.record := rfl
@[simp] theorem link_u_free (f : Link → Link) (e : Ev) : (e.link f).u.free = e.u.free := rfl
@[simp] theorem link_causes (f : Link → Link) (e : Ev) : (e.link f).causes = e.causes := rfl
@[simp] theorem link_granted (f : Link → Link) (e : Ev) : (e.link f).granted = e.granted := rfl
@[simp] theorem link_newest (f : Link → Link) (e : Ev) : (e.link f).newest = e.newest := rfl
@[simp] theorem link_holders (f : Link → Link) (e : Ev) : (e.link f).holders = e.holders := rfl
@[simp] theorem link_signals (f : Link → Link) (e : Ev) : (e.link f).signals = e.signals := rfl
@[simp] theorem link_scan (f : Link → Link) (e : Ev) : (e.link f).scan = e.scan := rfl
@[simp] theorem link_examine (f : Link → Link) (e : Ev) : (e.link f).examine = e.examine := rfl
@[simp] theorem link_compose (f : Link → Link) (e : Ev) : (e.link f).compose = e.compose := rfl

/-! ### setFilter -/

@[simp] theorem setFilter_u_filters (n : Nat) (f : DetectorFilter → DetectorFilter) (e : Ev) : (e.setFilter n f).u.filters = e.u.filters.modify n f := rfl
@[simp] theorem setFilter_u_bkt (n : Nat) (f : DetectorFilter → DetectorFilter) (e : Ev) : (e.setFilter n f).u.bkt = e.u.bkt := rfl
@[simp] theorem setFilter_u_trk (n : Nat) (f : DetectorFilter → DetectorFilter) (e : Ev) : (e.setFilter n f).u.trk = e.u.trk := rfl
@[simp] theorem setFilter_u_tdu (n : Nat) (f : DetectorFilter → DetectorFilter) (e : Ev) : (e.setFilter n f).u.tdu = e.u.tdu := rfl
@[simp] theorem setFilter_u_ilk (n : Nat) (f : DetectorFilter → DetectorFilter) (e : Ev) : (e.setFilter n f).u.ilk = e.u.ilk := rfl
@[simp] theorem setFilter_u_clu (n : Nat) (f : DetectorFilter → DetectorFilter) (e : Ev) : (e.setFilter n f).u.clu = e.u.clu := rfl
@[simp] theorem setFilter_u_ase (n : Nat) (f : DetectorFilter → DetectorFilter) (e : Ev) : (e.setFilter n f).u.ase = e.u.ase := rfl
@[simp] theorem setFilter_u_watches (n : Nat) (f : DetectorFilter → DetectorFilter) (e : Ev) : (e.setFilter n f).u.watches = e.u.watches := rfl
@[simp] theorem setFilter_u_ttc (n : Nat) (f : DetectorFilter → DetectorFilter) (e : Ev) : (e.setFilter n f).u.ttc = e.u.ttc := rfl
@[simp] theorem setFilter_u_clock (n : Nat) (f : DetectorFilter → DetectorFilter) (e : Ev) : (e.setFilter n f).u.clock = e.u.clock := rfl
@[simp] theorem setFilter_u_entries (n : Nat) (f : DetectorFilter → DetectorFilter) (e : Ev) : (e.setFilter n f).u.entries = e.u.entries := rfl
@[simp] theorem setFilter_u_biu (n : Nat) (f : DetectorFilter → DetectorFilter) (e : Ev) : (e.setFilter n f).u.biu = e.u.biu := rfl
@[simp] theorem setFilter_u_bdr (n : Nat) (f : DetectorFilter → DetectorFilter) (e : Ev) : (e.setFilter n f).u.bdr = e.u.bdr := rfl
@[simp] theorem setFilter_u_lnk (n : Nat) (f : DetectorFilter → DetectorFilter) (e : Ev) : (e.setFilter n f).u.lnk = e.u.lnk := rfl
@[simp] theorem setFilter_u_record (n : Nat) (f : DetectorFilter → DetectorFilter) (e : Ev) : (e.setFilter n f).u.record = e.u.record := rfl
@[simp] theorem setFilter_u_free (n : Nat) (f : DetectorFilter → DetectorFilter) (e : Ev) : (e.setFilter n f).u.free = e.u.free := rfl
@[simp] theorem setFilter_causes (n : Nat) (f : DetectorFilter → DetectorFilter) (e : Ev) : (e.setFilter n f).causes = e.causes := rfl
@[simp] theorem setFilter_granted (n : Nat) (f : DetectorFilter → DetectorFilter) (e : Ev) : (e.setFilter n f).granted = e.granted := rfl
@[simp] theorem setFilter_newest (n : Nat) (f : DetectorFilter → DetectorFilter) (e : Ev) : (e.setFilter n f).newest = e.newest := rfl
@[simp] theorem setFilter_holders (n : Nat) (f : DetectorFilter → DetectorFilter) (e : Ev) : (e.setFilter n f).holders = e.holders := rfl
@[simp] theorem setFilter_signals (n : Nat) (f : DetectorFilter → DetectorFilter) (e : Ev) : (e.setFilter n f).signals = e.signals := rfl
@[simp] theorem setFilter_scan (n : Nat) (f : DetectorFilter → DetectorFilter) (e : Ev) : (e.setFilter n f).scan = e.scan := rfl
@[simp] theorem setFilter_examine (n : Nat) (f : DetectorFilter → DetectorFilter) (e : Ev) : (e.setFilter n f).examine = e.examine := rfl
@[simp] theorem setFilter_compose (n : Nat) (f : DetectorFilter → DetectorFilter) (e : Ev) : (e.setFilter n f).compose = e.compose := rfl

/-! ### setBlock -/

@[simp] theorem setBlock_u_filters (b : Nat) (f : Block → Block) (e : Ev) : (e.setBlock b f).u.filters = e.u.filters := rfl
@[simp] theorem setBlock_u_bkt_blocks (b : Nat) (f : Block → Block) (e : Ev) : (e.setBlock b f).u.bkt.blocks = e.u.bkt.blocks.modify b f := rfl
@[simp] theorem setBlock_u_bkt_bmirrors (b : Nat) (f : Block → Block) (e : Ev) : (e.setBlock b f).u.bkt.bmirrors = e.u.bkt.bmirrors := rfl
@[simp] theorem setBlock_u_bkt_smirrors (b : Nat) (f : Block → Block) (e : Ev) : (e.setBlock b f).u.bkt.smirrors = e.u.bkt.smirrors := rfl
@[simp] theorem setBlock_u_bkt_republish (b : Nat) (f : Block → Block) (e : Ev) : (e.setBlock b f).u.bkt.republish = e.u.bkt.republish := rfl
@[simp] theorem setBlock_u_trk (b : Nat) (f : Block → Block) (e : Ev) : (e.setBlock b f).u.trk = e.u.trk := rfl
@[simp] theorem setBlock_u_tdu (b : Nat) (f : Block → Block) (e : Ev) : (e.setBlock b f).u.tdu = e.u.tdu := rfl
@[simp] theorem setBlock_u_ilk (b : Nat) (f : Block → Block) (e : Ev) : (e.setBlock b f).u.ilk = e.u.ilk := rfl
@[simp] theorem setBlock_u_clu (b : Nat) (f : Block → Block) (e : Ev) : (e.setBlock b f).u.clu = e.u.clu := rfl
@[simp] theorem setBlock_u_ase (b : Nat) (f : Block → Block) (e : Ev) : (e.setBlock b f).u.ase = e.u.ase := rfl
@[simp] theorem setBlock_u_watches (b : Nat) (f : Block → Block) (e : Ev) : (e.setBlock b f).u.watches = e.u.watches := rfl
@[simp] theorem setBlock_u_ttc (b : Nat) (f : Block → Block) (e : Ev) : (e.setBlock b f).u.ttc = e.u.ttc := rfl
@[simp] theorem setBlock_u_clock (b : Nat) (f : Block → Block) (e : Ev) : (e.setBlock b f).u.clock = e.u.clock := rfl
@[simp] theorem setBlock_u_entries (b : Nat) (f : Block → Block) (e : Ev) : (e.setBlock b f).u.entries = e.u.entries := rfl
@[simp] theorem setBlock_u_biu (b : Nat) (f : Block → Block) (e : Ev) : (e.setBlock b f).u.biu = e.u.biu := rfl
@[simp] theorem setBlock_u_bdr (b : Nat) (f : Block → Block) (e : Ev) : (e.setBlock b f).u.bdr = e.u.bdr := rfl
@[simp] theorem setBlock_u_lnk (b : Nat) (f : Block → Block) (e : Ev) : (e.setBlock b f).u.lnk = e.u.lnk := rfl
@[simp] theorem setBlock_u_record (b : Nat) (f : Block → Block) (e : Ev) : (e.setBlock b f).u.record = e.u.record := rfl
@[simp] theorem setBlock_u_free (b : Nat) (f : Block → Block) (e : Ev) : (e.setBlock b f).u.free = e.u.free := rfl
@[simp] theorem setBlock_causes (b : Nat) (f : Block → Block) (e : Ev) : (e.setBlock b f).causes = e.causes := rfl
@[simp] theorem setBlock_granted (b : Nat) (f : Block → Block) (e : Ev) : (e.setBlock b f).granted = e.granted := rfl
@[simp] theorem setBlock_newest (b : Nat) (f : Block → Block) (e : Ev) : (e.setBlock b f).newest = e.newest := rfl
@[simp] theorem setBlock_holders (b : Nat) (f : Block → Block) (e : Ev) : (e.setBlock b f).holders = e.holders := rfl
@[simp] theorem setBlock_signals (b : Nat) (f : Block → Block) (e : Ev) : (e.setBlock b f).signals = e.signals := rfl
@[simp] theorem setBlock_scan (b : Nat) (f : Block → Block) (e : Ev) : (e.setBlock b f).scan = e.scan := rfl
@[simp] theorem setBlock_examine (b : Nat) (f : Block → Block) (e : Ev) : (e.setBlock b f).examine = e.examine := rfl
@[simp] theorem setBlock_compose (b : Nat) (f : Block → Block) (e : Ev) : (e.setBlock b f).compose = e.compose := rfl

/-! ### setBMirror -/

@[simp] theorem setBMirror_u_filters (i : Nat) (f : BlockMirror → BlockMirror) (e : Ev) : (e.setBMirror i f).u.filters = e.u.filters := rfl
@[simp] theorem setBMirror_u_bkt_blocks (i : Nat) (f : BlockMirror → BlockMirror) (e : Ev) : (e.setBMirror i f).u.bkt.blocks = e.u.bkt.blocks := rfl
@[simp] theorem setBMirror_u_bkt_bmirrors (i : Nat) (f : BlockMirror → BlockMirror) (e : Ev) : (e.setBMirror i f).u.bkt.bmirrors = e.u.bkt.bmirrors.modify i f := rfl
@[simp] theorem setBMirror_u_bkt_smirrors (i : Nat) (f : BlockMirror → BlockMirror) (e : Ev) : (e.setBMirror i f).u.bkt.smirrors = e.u.bkt.smirrors := rfl
@[simp] theorem setBMirror_u_bkt_republish (i : Nat) (f : BlockMirror → BlockMirror) (e : Ev) : (e.setBMirror i f).u.bkt.republish = e.u.bkt.republish := rfl
@[simp] theorem setBMirror_u_trk (i : Nat) (f : BlockMirror → BlockMirror) (e : Ev) : (e.setBMirror i f).u.trk = e.u.trk := rfl
@[simp] theorem setBMirror_u_tdu (i : Nat) (f : BlockMirror → BlockMirror) (e : Ev) : (e.setBMirror i f).u.tdu = e.u.tdu := rfl
@[simp] theorem setBMirror_u_ilk (i : Nat) (f : BlockMirror → BlockMirror) (e : Ev) : (e.setBMirror i f).u.ilk = e.u.ilk := rfl
@[simp] theorem setBMirror_u_clu (i : Nat) (f : BlockMirror → BlockMirror) (e : Ev) : (e.setBMirror i f).u.clu = e.u.clu := rfl
@[simp] theorem setBMirror_u_ase (i : Nat) (f : BlockMirror → BlockMirror) (e : Ev) : (e.setBMirror i f).u.ase = e.u.ase := rfl
@[simp] theorem setBMirror_u_watches (i : Nat) (f : BlockMirror → BlockMirror) (e : Ev) : (e.setBMirror i f).u.watches = e.u.watches := rfl
@[simp] theorem setBMirror_u_ttc (i : Nat) (f : BlockMirror → BlockMirror) (e : Ev) : (e.setBMirror i f).u.ttc = e.u.ttc := rfl
@[simp] theorem setBMirror_u_clock (i : Nat) (f : BlockMirror → BlockMirror) (e : Ev) : (e.setBMirror i f).u.clock = e.u.clock := rfl
@[simp] theorem setBMirror_u_entries (i : Nat) (f : BlockMirror → BlockMirror) (e : Ev) : (e.setBMirror i f).u.entries = e.u.entries := rfl
@[simp] theorem setBMirror_u_biu (i : Nat) (f : BlockMirror → BlockMirror) (e : Ev) : (e.setBMirror i f).u.biu = e.u.biu := rfl
@[simp] theorem setBMirror_u_bdr (i : Nat) (f : BlockMirror → BlockMirror) (e : Ev) : (e.setBMirror i f).u.bdr = e.u.bdr := rfl
@[simp] theorem setBMirror_u_lnk (i : Nat) (f : BlockMirror → BlockMirror) (e : Ev) : (e.setBMirror i f).u.lnk = e.u.lnk := rfl
@[simp] theorem setBMirror_u_record (i : Nat) (f : BlockMirror → BlockMirror) (e : Ev) : (e.setBMirror i f).u.record = e.u.record := rfl
@[simp] theorem setBMirror_u_free (i : Nat) (f : BlockMirror → BlockMirror) (e : Ev) : (e.setBMirror i f).u.free = e.u.free := rfl
@[simp] theorem setBMirror_causes (i : Nat) (f : BlockMirror → BlockMirror) (e : Ev) : (e.setBMirror i f).causes = e.causes := rfl
@[simp] theorem setBMirror_granted (i : Nat) (f : BlockMirror → BlockMirror) (e : Ev) : (e.setBMirror i f).granted = e.granted := rfl
@[simp] theorem setBMirror_newest (i : Nat) (f : BlockMirror → BlockMirror) (e : Ev) : (e.setBMirror i f).newest = e.newest := rfl
@[simp] theorem setBMirror_holders (i : Nat) (f : BlockMirror → BlockMirror) (e : Ev) : (e.setBMirror i f).holders = e.holders := rfl
@[simp] theorem setBMirror_signals (i : Nat) (f : BlockMirror → BlockMirror) (e : Ev) : (e.setBMirror i f).signals = e.signals := rfl
@[simp] theorem setBMirror_scan (i : Nat) (f : BlockMirror → BlockMirror) (e : Ev) : (e.setBMirror i f).scan = e.scan := rfl
@[simp] theorem setBMirror_examine (i : Nat) (f : BlockMirror → BlockMirror) (e : Ev) : (e.setBMirror i f).examine = e.examine := rfl
@[simp] theorem setBMirror_compose (i : Nat) (f : BlockMirror → BlockMirror) (e : Ev) : (e.setBMirror i f).compose = e.compose := rfl

/-! ### setSMirror -/

@[simp] theorem setSMirror_u_filters (i : Nat) (f : SignalMirror → SignalMirror) (e : Ev) : (e.setSMirror i f).u.filters = e.u.filters := rfl
@[simp] theorem setSMirror_u_bkt_blocks (i : Nat) (f : SignalMirror → SignalMirror) (e : Ev) : (e.setSMirror i f).u.bkt.blocks = e.u.bkt.blocks := rfl
@[simp] theorem setSMirror_u_bkt_bmirrors (i : Nat) (f : SignalMirror → SignalMirror) (e : Ev) : (e.setSMirror i f).u.bkt.bmirrors = e.u.bkt.bmirrors := rfl
@[simp] theorem setSMirror_u_bkt_smirrors (i : Nat) (f : SignalMirror → SignalMirror) (e : Ev) : (e.setSMirror i f).u.bkt.smirrors = e.u.bkt.smirrors.modify i f := rfl
@[simp] theorem setSMirror_u_bkt_republish (i : Nat) (f : SignalMirror → SignalMirror) (e : Ev) : (e.setSMirror i f).u.bkt.republish = e.u.bkt.republish := rfl
@[simp] theorem setSMirror_u_trk (i : Nat) (f : SignalMirror → SignalMirror) (e : Ev) : (e.setSMirror i f).u.trk = e.u.trk := rfl
@[simp] theorem setSMirror_u_tdu (i : Nat) (f : SignalMirror → SignalMirror) (e : Ev) : (e.setSMirror i f).u.tdu = e.u.tdu := rfl
@[simp] theorem setSMirror_u_ilk (i : Nat) (f : SignalMirror → SignalMirror) (e : Ev) : (e.setSMirror i f).u.ilk = e.u.ilk := rfl
@[simp] theorem setSMirror_u_clu (i : Nat) (f : SignalMirror → SignalMirror) (e : Ev) : (e.setSMirror i f).u.clu = e.u.clu := rfl
@[simp] theorem setSMirror_u_ase (i : Nat) (f : SignalMirror → SignalMirror) (e : Ev) : (e.setSMirror i f).u.ase = e.u.ase := rfl
@[simp] theorem setSMirror_u_watches (i : Nat) (f : SignalMirror → SignalMirror) (e : Ev) : (e.setSMirror i f).u.watches = e.u.watches := rfl
@[simp] theorem setSMirror_u_ttc (i : Nat) (f : SignalMirror → SignalMirror) (e : Ev) : (e.setSMirror i f).u.ttc = e.u.ttc := rfl
@[simp] theorem setSMirror_u_clock (i : Nat) (f : SignalMirror → SignalMirror) (e : Ev) : (e.setSMirror i f).u.clock = e.u.clock := rfl
@[simp] theorem setSMirror_u_entries (i : Nat) (f : SignalMirror → SignalMirror) (e : Ev) : (e.setSMirror i f).u.entries = e.u.entries := rfl
@[simp] theorem setSMirror_u_biu (i : Nat) (f : SignalMirror → SignalMirror) (e : Ev) : (e.setSMirror i f).u.biu = e.u.biu := rfl
@[simp] theorem setSMirror_u_bdr (i : Nat) (f : SignalMirror → SignalMirror) (e : Ev) : (e.setSMirror i f).u.bdr = e.u.bdr := rfl
@[simp] theorem setSMirror_u_lnk (i : Nat) (f : SignalMirror → SignalMirror) (e : Ev) : (e.setSMirror i f).u.lnk = e.u.lnk := rfl
@[simp] theorem setSMirror_u_record (i : Nat) (f : SignalMirror → SignalMirror) (e : Ev) : (e.setSMirror i f).u.record = e.u.record := rfl
@[simp] theorem setSMirror_u_free (i : Nat) (f : SignalMirror → SignalMirror) (e : Ev) : (e.setSMirror i f).u.free = e.u.free := rfl
@[simp] theorem setSMirror_causes (i : Nat) (f : SignalMirror → SignalMirror) (e : Ev) : (e.setSMirror i f).causes = e.causes := rfl
@[simp] theorem setSMirror_granted (i : Nat) (f : SignalMirror → SignalMirror) (e : Ev) : (e.setSMirror i f).granted = e.granted := rfl
@[simp] theorem setSMirror_newest (i : Nat) (f : SignalMirror → SignalMirror) (e : Ev) : (e.setSMirror i f).newest = e.newest := rfl
@[simp] theorem setSMirror_holders (i : Nat) (f : SignalMirror → SignalMirror) (e : Ev) : (e.setSMirror i f).holders = e.holders := rfl
@[simp] theorem setSMirror_signals (i : Nat) (f : SignalMirror → SignalMirror) (e : Ev) : (e.setSMirror i f).signals = e.signals := rfl
@[simp] theorem setSMirror_scan (i : Nat) (f : SignalMirror → SignalMirror) (e : Ev) : (e.setSMirror i f).scan = e.scan := rfl
@[simp] theorem setSMirror_examine (i : Nat) (f : SignalMirror → SignalMirror) (e : Ev) : (e.setSMirror i f).examine = e.examine := rfl
@[simp] theorem setSMirror_compose (i : Nat) (f : SignalMirror → SignalMirror) (e : Ev) : (e.setSMirror i f).compose = e.compose := rfl

/-! ### setTurnout -/

@[simp] theorem setTurnout_u_filters (t : Nat) (f : Turnout → Turnout) (e : Ev) : (e.setTurnout t f).u.filters = e.u.filters := rfl
@[simp] theorem setTurnout_u_bkt (t : Nat) (f : Turnout → Turnout) (e : Ev) : (e.setTurnout t f).u.bkt = e.u.bkt := rfl
@[simp] theorem setTurnout_u_trk (t : Nat) (f : Turnout → Turnout) (e : Ev) : (e.setTurnout t f).u.trk = e.u.trk := rfl
@[simp] theorem setTurnout_u_tdu_turnouts (t : Nat) (f : Turnout → Turnout) (e : Ev) : (e.setTurnout t f).u.tdu.turnouts = e.u.tdu.turnouts.modify t f := rfl
@[simp] theorem setTurnout_u_tdu_queue (t : Nat) (f : Turnout → Turnout) (e : Ev) : (e.setTurnout t f).u.tdu.queue = e.u.tdu.queue := rfl
@[simp] theorem setTurnout_u_tdu_cdu (t : Nat) (f : Turnout → Turnout) (e : Ev) : (e.setTurnout t f).u.tdu.cdu = e.u.tdu.cdu := rfl
@[simp] theorem setTurnout_u_ilk (t : Nat) (f : Turnout → Turnout) (e : Ev) : (e.setTurnout t f).u.ilk = e.u.ilk := rfl
@[simp] theorem setTurnout_u_clu (t : Nat) (f : Turnout → Turnout) (e : Ev) : (e.setTurnout t f).u.clu = e.u.clu := rfl
@[simp] theorem setTurnout_u_ase (t : Nat) (f : Turnout → Turnout) (e : Ev) : (e.setTurnout t f).u.ase = e.u.ase := rfl
@[simp] theorem setTurnout_u_watches (t : Nat) (f : Turnout → Turnout) (e : Ev) : (e.setTurnout t f).u.watches = e.u.watches := rfl
@[simp] theorem setTurnout_u_ttc (t : Nat) (f : Turnout → Turnout) (e : Ev) : (e.setTurnout t f).u.ttc = e.u.ttc := rfl
@[simp] theorem setTurnout_u_clock (t : Nat) (f : Turnout → Turnout) (e : Ev) : (e.setTurnout t f).u.clock = e.u.clock := rfl
@[simp] theorem setTurnout_u_entries (t : Nat) (f : Turnout → Turnout) (e : Ev) : (e.setTurnout t f).u.entries = e.u.entries := rfl
@[simp] theorem setTurnout_u_biu (t : Nat) (f : Turnout → Turnout) (e : Ev) : (e.setTurnout t f).u.biu = e.u.biu := rfl
@[simp] theorem setTurnout_u_bdr (t : Nat) (f : Turnout → Turnout) (e : Ev) : (e.setTurnout t f).u.bdr = e.u.bdr := rfl
@[simp] theorem setTurnout_u_lnk (t : Nat) (f : Turnout → Turnout) (e : Ev) : (e.setTurnout t f).u.lnk = e.u.lnk := rfl
@[simp] theorem setTurnout_u_record (t : Nat) (f : Turnout → Turnout) (e : Ev) : (e.setTurnout t f).u.record = e.u.record := rfl
@[simp] theorem setTurnout_u_free (t : Nat) (f : Turnout → Turnout) (e : Ev) : (e.setTurnout t f).u.free = e.u.free := rfl
@[simp] theorem setTurnout_causes (t : Nat) (f : Turnout → Turnout) (e : Ev) : (e.setTurnout t f).causes = e.causes := rfl
@[simp] theorem setTurnout_granted (t : Nat) (f : Turnout → Turnout) (e : Ev) : (e.setTurnout t f).granted = e.granted := rfl
@[simp] theorem setTurnout_newest (t : Nat) (f : Turnout → Turnout) (e : Ev) : (e.setTurnout t f).newest = e.newest := rfl
@[simp] theorem setTurnout_holders (t : Nat) (f : Turnout → Turnout) (e : Ev) : (e.setTurnout t f).holders = e.holders := rfl
@[simp] theorem setTurnout_signals (t : Nat) (f : Turnout → Turnout) (e : Ev) : (e.setTurnout t f).signals = e.signals := rfl
@[simp] theorem setTurnout_scan (t : Nat) (f : Turnout → Turnout) (e : Ev) : (e.setTurnout t f).scan = e.scan := rfl
@[simp] theorem setTurnout_examine (t : Nat) (f : Turnout → Turnout) (e : Ev) : (e.setTurnout t f).examine = e.examine := rfl
@[simp] theorem setTurnout_compose (t : Nat) (f : Turnout → Turnout) (e : Ev) : (e.setTurnout t f).compose = e.compose := rfl

/-! ### setThrows -/

@[simp] theorem setThrows_u_filters (f : List (Nat × Pos) → List (Nat × Pos)) (e : Ev) : (e.setThrows f).u.filters = e.u.filters := rfl
@[simp] theorem setThrows_u_bkt (f : List (Nat × Pos) → List (Nat × Pos)) (e : Ev) : (e.setThrows f).u.bkt = e.u.bkt := rfl
@[simp] theorem setThrows_u_trk (f : List (Nat × Pos) → List (Nat × Pos)) (e : Ev) : (e.setThrows f).u.trk = e.u.trk := rfl
@[simp] theorem setThrows_u_tdu_turnouts (f : List (Nat × Pos) → List (Nat × Pos)) (e : Ev) : (e.setThrows f).u.tdu.turnouts = e.u.tdu.turnouts := rfl
@[simp] theorem setThrows_u_tdu_queue (f : List (Nat × Pos) → List (Nat × Pos)) (e : Ev) : (e.setThrows f).u.tdu.queue = f e.u.tdu.queue := rfl
@[simp] theorem setThrows_u_tdu_cdu (f : List (Nat × Pos) → List (Nat × Pos)) (e : Ev) : (e.setThrows f).u.tdu.cdu = e.u.tdu.cdu := rfl
@[simp] theorem setThrows_u_ilk (f : List (Nat × Pos) → List (Nat × Pos)) (e : Ev) : (e.setThrows f).u.ilk = e.u.ilk := rfl
@[simp] theorem setThrows_u_clu (f : List (Nat × Pos) → List (Nat × Pos)) (e : Ev) : (e.setThrows f).u.clu = e.u.clu := rfl
@[simp] theorem setThrows_u_ase (f : List (Nat × Pos) → List (Nat × Pos)) (e : Ev) : (e.setThrows f).u.ase = e.u.ase := rfl
@[simp] theorem setThrows_u_watches (f : List (Nat × Pos) → List (Nat × Pos)) (e : Ev) : (e.setThrows f).u.watches = e.u.watches := rfl
@[simp] theorem setThrows_u_ttc (f : List (Nat × Pos) → List (Nat × Pos)) (e : Ev) : (e.setThrows f).u.ttc = e.u.ttc := rfl
@[simp] theorem setThrows_u_clock (f : List (Nat × Pos) → List (Nat × Pos)) (e : Ev) : (e.setThrows f).u.clock = e.u.clock := rfl
@[simp] theorem setThrows_u_entries (f : List (Nat × Pos) → List (Nat × Pos)) (e : Ev) : (e.setThrows f).u.entries = e.u.entries := rfl
@[simp] theorem setThrows_u_biu (f : List (Nat × Pos) → List (Nat × Pos)) (e : Ev) : (e.setThrows f).u.biu = e.u.biu := rfl
@[simp] theorem setThrows_u_bdr (f : List (Nat × Pos) → List (Nat × Pos)) (e : Ev) : (e.setThrows f).u.bdr = e.u.bdr := rfl
@[simp] theorem setThrows_u_lnk (f : List (Nat × Pos) → List (Nat × Pos)) (e : Ev) : (e.setThrows f).u.lnk = e.u.lnk := rfl
@[simp] theorem setThrows_u_record (f : List (Nat × Pos) → List (Nat × Pos)) (e : Ev) : (e.setThrows f).u.record = e.u.record := rfl
@[simp] theorem setThrows_u_free (f : List (Nat × Pos) → List (Nat × Pos)) (e : Ev) : (e.setThrows f).u.free = e.u.free := rfl
@[simp] theorem setThrows_causes (f : List (Nat × Pos) → List (Nat × Pos)) (e : Ev) : (e.setThrows f).causes = e.causes := rfl
@[simp] theorem setThrows_granted (f : List (Nat × Pos) → List (Nat × Pos)) (e : Ev) : (e.setThrows f).granted = e.granted := rfl
@[simp] theorem setThrows_newest (f : List (Nat × Pos) → List (Nat × Pos)) (e : Ev) : (e.setThrows f).newest = e.newest := rfl
@[simp] theorem setThrows_holders (f : List (Nat × Pos) → List (Nat × Pos)) (e : Ev) : (e.setThrows f).holders = e.holders := rfl
@[simp] theorem setThrows_signals (f : List (Nat × Pos) → List (Nat × Pos)) (e : Ev) : (e.setThrows f).signals = e.signals := rfl
@[simp] theorem setThrows_scan (f : List (Nat × Pos) → List (Nat × Pos)) (e : Ev) : (e.setThrows f).scan = e.scan := rfl
@[simp] theorem setThrows_examine (f : List (Nat × Pos) → List (Nat × Pos)) (e : Ev) : (e.setThrows f).examine = e.examine := rfl
@[simp] theorem setThrows_compose (f : List (Nat × Pos) → List (Nat × Pos)) (e : Ev) : (e.setThrows f).compose = e.compose := rfl

/-! ### setCdu -/

@[simp] theorem setCdu_u_filters (c : Cdu) (e : Ev) : (e.setCdu c).u.filters = e.u.filters := rfl
@[simp] theorem setCdu_u_bkt (c : Cdu) (e : Ev) : (e.setCdu c).u.bkt = e.u.bkt := rfl
@[simp] theorem setCdu_u_trk (c : Cdu) (e : Ev) : (e.setCdu c).u.trk = e.u.trk := rfl
@[simp] theorem setCdu_u_tdu_turnouts (c : Cdu) (e : Ev) : (e.setCdu c).u.tdu.turnouts = e.u.tdu.turnouts := rfl
@[simp] theorem setCdu_u_tdu_queue (c : Cdu) (e : Ev) : (e.setCdu c).u.tdu.queue = e.u.tdu.queue := rfl
@[simp] theorem setCdu_u_tdu_cdu (c : Cdu) (e : Ev) : (e.setCdu c).u.tdu.cdu = c := rfl
@[simp] theorem setCdu_u_ilk (c : Cdu) (e : Ev) : (e.setCdu c).u.ilk = e.u.ilk := rfl
@[simp] theorem setCdu_u_clu (c : Cdu) (e : Ev) : (e.setCdu c).u.clu = e.u.clu := rfl
@[simp] theorem setCdu_u_ase (c : Cdu) (e : Ev) : (e.setCdu c).u.ase = e.u.ase := rfl
@[simp] theorem setCdu_u_watches (c : Cdu) (e : Ev) : (e.setCdu c).u.watches = e.u.watches := rfl
@[simp] theorem setCdu_u_ttc (c : Cdu) (e : Ev) : (e.setCdu c).u.ttc = e.u.ttc := rfl
@[simp] theorem setCdu_u_clock (c : Cdu) (e : Ev) : (e.setCdu c).u.clock = e.u.clock := rfl
@[simp] theorem setCdu_u_entries (c : Cdu) (e : Ev) : (e.setCdu c).u.entries = e.u.entries := rfl
@[simp] theorem setCdu_u_biu (c : Cdu) (e : Ev) : (e.setCdu c).u.biu = e.u.biu := rfl
@[simp] theorem setCdu_u_bdr (c : Cdu) (e : Ev) : (e.setCdu c).u.bdr = e.u.bdr := rfl
@[simp] theorem setCdu_u_lnk (c : Cdu) (e : Ev) : (e.setCdu c).u.lnk = e.u.lnk := rfl
@[simp] theorem setCdu_u_record (c : Cdu) (e : Ev) : (e.setCdu c).u.record = e.u.record := rfl
@[simp] theorem setCdu_u_free (c : Cdu) (e : Ev) : (e.setCdu c).u.free = e.u.free := rfl
@[simp] theorem setCdu_causes (c : Cdu) (e : Ev) : (e.setCdu c).causes = e.causes := rfl
@[simp] theorem setCdu_granted (c : Cdu) (e : Ev) : (e.setCdu c).granted = e.granted := rfl
@[simp] theorem setCdu_newest (c : Cdu) (e : Ev) : (e.setCdu c).newest = e.newest := rfl
@[simp] theorem setCdu_holders (c : Cdu) (e : Ev) : (e.setCdu c).holders = e.holders := rfl
@[simp] theorem setCdu_signals (c : Cdu) (e : Ev) : (e.setCdu c).signals = e.signals := rfl
@[simp] theorem setCdu_scan (c : Cdu) (e : Ev) : (e.setCdu c).scan = e.scan := rfl
@[simp] theorem setCdu_examine (c : Cdu) (e : Ev) : (e.setCdu c).examine = e.examine := rfl
@[simp] theorem setCdu_compose (c : Cdu) (e : Ev) : (e.setCdu c).compose = e.compose := rfl

/-! ### setRoute -/

@[simp] theorem setRoute_u_filters (n : Nat) (f : Route → Route) (e : Ev) : (e.setRoute n f).u.filters = e.u.filters := rfl
@[simp] theorem setRoute_u_bkt (n : Nat) (f : Route → Route) (e : Ev) : (e.setRoute n f).u.bkt = e.u.bkt := rfl
@[simp] theorem setRoute_u_trk (n : Nat) (f : Route → Route) (e : Ev) : (e.setRoute n f).u.trk = e.u.trk := rfl
@[simp] theorem setRoute_u_tdu (n : Nat) (f : Route → Route) (e : Ev) : (e.setRoute n f).u.tdu = e.u.tdu := rfl
@[simp] theorem setRoute_u_ilk_routes (n : Nat) (f : Route → Route) (e : Ev) : (e.setRoute n f).u.ilk.routes = e.u.ilk.routes.modify n f := rfl
@[simp] theorem setRoute_u_ilk_waiting (n : Nat) (f : Route → Route) (e : Ev) : (e.setRoute n f).u.ilk.waiting = e.u.ilk.waiting := rfl
@[simp] theorem setRoute_u_clu (n : Nat) (f : Route → Route) (e : Ev) : (e.setRoute n f).u.clu = e.u.clu := rfl
@[simp] theorem setRoute_u_ase (n : Nat) (f : Route → Route) (e : Ev) : (e.setRoute n f).u.ase = e.u.ase := rfl
@[simp] theorem setRoute_u_watches (n : Nat) (f : Route → Route) (e : Ev) : (e.setRoute n f).u.watches = e.u.watches := rfl
@[simp] theorem setRoute_u_ttc (n : Nat) (f : Route → Route) (e : Ev) : (e.setRoute n f).u.ttc = e.u.ttc := rfl
@[simp] theorem setRoute_u_clock (n : Nat) (f : Route → Route) (e : Ev) : (e.setRoute n f).u.clock = e.u.clock := rfl
@[simp] theorem setRoute_u_entries (n : Nat) (f : Route → Route) (e : Ev) : (e.setRoute n f).u.entries = e.u.entries := rfl
@[simp] theorem setRoute_u_biu (n : Nat) (f : Route → Route) (e : Ev) : (e.setRoute n f).u.biu = e.u.biu := rfl
@[simp] theorem setRoute_u_bdr (n : Nat) (f : Route → Route) (e : Ev) : (e.setRoute n f).u.bdr = e.u.bdr := rfl
@[simp] theorem setRoute_u_lnk (n : Nat) (f : Route → Route) (e : Ev) : (e.setRoute n f).u.lnk = e.u.lnk := rfl
@[simp] theorem setRoute_u_record (n : Nat) (f : Route → Route) (e : Ev) : (e.setRoute n f).u.record = e.u.record := rfl
@[simp] theorem setRoute_u_free (n : Nat) (f : Route → Route) (e : Ev) : (e.setRoute n f).u.free = e.u.free := rfl
@[simp] theorem setRoute_causes (n : Nat) (f : Route → Route) (e : Ev) : (e.setRoute n f).causes = e.causes := rfl
@[simp] theorem setRoute_granted (n : Nat) (f : Route → Route) (e : Ev) : (e.setRoute n f).granted = e.granted := rfl
@[simp] theorem setRoute_newest (n : Nat) (f : Route → Route) (e : Ev) : (e.setRoute n f).newest = e.newest := rfl
@[simp] theorem setRoute_holders (n : Nat) (f : Route → Route) (e : Ev) : (e.setRoute n f).holders = e.holders := rfl
@[simp] theorem setRoute_signals (n : Nat) (f : Route → Route) (e : Ev) : (e.setRoute n f).signals = e.signals := rfl
@[simp] theorem setRoute_scan (n : Nat) (f : Route → Route) (e : Ev) : (e.setRoute n f).scan = e.scan := rfl
@[simp] theorem setRoute_examine (n : Nat) (f : Route → Route) (e : Ev) : (e.setRoute n f).examine = e.examine := rfl
@[simp] theorem setRoute_compose (n : Nat) (f : Route → Route) (e : Ev) : (e.setRoute n f).compose = e.compose := rfl

/-! ### setWaiting -/

@[simp] theorem setWaiting_u_filters (f : List Request → List Request) (e : Ev) : (e.setWaiting f).u.filters = e.u.filters := rfl
@[simp] theorem setWaiting_u_bkt (f : List Request → List Request) (e : Ev) : (e.setWaiting f).u.bkt = e.u.bkt := rfl
@[simp] theorem setWaiting_u_trk (f : List Request → List Request) (e : Ev) : (e.setWaiting f).u.trk = e.u.trk := rfl
@[simp] theorem setWaiting_u_tdu (f : List Request → List Request) (e : Ev) : (e.setWaiting f).u.tdu = e.u.tdu := rfl
@[simp] theorem setWaiting_u_ilk_routes (f : List Request → List Request) (e : Ev) : (e.setWaiting f).u.ilk.routes = e.u.ilk.routes := rfl
@[simp] theorem setWaiting_u_ilk_waiting (f : List Request → List Request) (e : Ev) : (e.setWaiting f).u.ilk.waiting = f e.u.ilk.waiting := rfl
@[simp] theorem setWaiting_u_clu (f : List Request → List Request) (e : Ev) : (e.setWaiting f).u.clu = e.u.clu := rfl
@[simp] theorem setWaiting_u_ase (f : List Request → List Request) (e : Ev) : (e.setWaiting f).u.ase = e.u.ase := rfl
@[simp] theorem setWaiting_u_watches (f : List Request → List Request) (e : Ev) : (e.setWaiting f).u.watches = e.u.watches := rfl
@[simp] theorem setWaiting_u_ttc (f : List Request → List Request) (e : Ev) : (e.setWaiting f).u.ttc = e.u.ttc := rfl
@[simp] theorem setWaiting_u_clock (f : List Request → List Request) (e : Ev) : (e.setWaiting f).u.clock = e.u.clock := rfl
@[simp] theorem setWaiting_u_entries (f : List Request → List Request) (e : Ev) : (e.setWaiting f).u.entries = e.u.entries := rfl
@[simp] theorem setWaiting_u_biu (f : List Request → List Request) (e : Ev) : (e.setWaiting f).u.biu = e.u.biu := rfl
@[simp] theorem setWaiting_u_bdr (f : List Request → List Request) (e : Ev) : (e.setWaiting f).u.bdr = e.u.bdr := rfl
@[simp] theorem setWaiting_u_lnk (f : List Request → List Request) (e : Ev) : (e.setWaiting f).u.lnk = e.u.lnk := rfl
@[simp] theorem setWaiting_u_record (f : List Request → List Request) (e : Ev) : (e.setWaiting f).u.record = e.u.record := rfl
@[simp] theorem setWaiting_u_free (f : List Request → List Request) (e : Ev) : (e.setWaiting f).u.free = e.u.free := rfl
@[simp] theorem setWaiting_causes (f : List Request → List Request) (e : Ev) : (e.setWaiting f).causes = e.causes := rfl
@[simp] theorem setWaiting_granted (f : List Request → List Request) (e : Ev) : (e.setWaiting f).granted = e.granted := rfl
@[simp] theorem setWaiting_newest (f : List Request → List Request) (e : Ev) : (e.setWaiting f).newest = e.newest := rfl
@[simp] theorem setWaiting_holders (f : List Request → List Request) (e : Ev) : (e.setWaiting f).holders = e.holders := rfl
@[simp] theorem setWaiting_signals (f : List Request → List Request) (e : Ev) : (e.setWaiting f).signals = e.signals := rfl
@[simp] theorem setWaiting_scan (f : List Request → List Request) (e : Ev) : (e.setWaiting f).scan = e.scan := rfl
@[simp] theorem setWaiting_examine (f : List Request → List Request) (e : Ev) : (e.setWaiting f).examine = e.examine := rfl
@[simp] theorem setWaiting_compose (f : List Request → List Request) (e : Ev) : (e.setWaiting f).compose = e.compose := rfl

/-! ### setClaim -/

@[simp] theorem setClaim_u_filters (n : Nat) (f : Claim → Claim) (e : Ev) : (e.setClaim n f).u.filters = e.u.filters := rfl
@[simp] theorem setClaim_u_bkt (n : Nat) (f : Claim → Claim) (e : Ev) : (e.setClaim n f).u.bkt = e.u.bkt := rfl
@[simp] theorem setClaim_u_trk (n : Nat) (f : Claim → Claim) (e : Ev) : (e.setClaim n f).u.trk = e.u.trk := rfl
@[simp] theorem setClaim_u_tdu (n : Nat) (f : Claim → Claim) (e : Ev) : (e.setClaim n f).u.tdu = e.u.tdu := rfl
@[simp] theorem setClaim_u_ilk (n : Nat) (f : Claim → Claim) (e : Ev) : (e.setClaim n f).u.ilk = e.u.ilk := rfl
@[simp] theorem setClaim_u_clu_claims (n : Nat) (f : Claim → Claim) (e : Ev) : (e.setClaim n f).u.clu.claims = e.u.clu.claims.modify n f := rfl
@[simp] theorem setClaim_u_clu_table (n : Nat) (f : Claim → Claim) (e : Ev) : (e.setClaim n f).u.clu.table = e.u.clu.table := rfl
@[simp] theorem setClaim_u_clu_reception (n : Nat) (f : Claim → Claim) (e : Ev) : (e.setClaim n f).u.clu.reception = e.u.clu.reception := rfl
@[simp] theorem setClaim_u_ase (n : Nat) (f : Claim → Claim) (e : Ev) : (e.setClaim n f).u.ase = e.u.ase := rfl
@[simp] theorem setClaim_u_watches (n : Nat) (f : Claim → Claim) (e : Ev) : (e.setClaim n f).u.watches = e.u.watches := rfl
@[simp] theorem setClaim_u_ttc (n : Nat) (f : Claim → Claim) (e : Ev) : (e.setClaim n f).u.ttc = e.u.ttc := rfl
@[simp] theorem setClaim_u_clock (n : Nat) (f : Claim → Claim) (e : Ev) : (e.setClaim n f).u.clock = e.u.clock := rfl
@[simp] theorem setClaim_u_entries (n : Nat) (f : Claim → Claim) (e : Ev) : (e.setClaim n f).u.entries = e.u.entries := rfl
@[simp] theorem setClaim_u_biu (n : Nat) (f : Claim → Claim) (e : Ev) : (e.setClaim n f).u.biu = e.u.biu := rfl
@[simp] theorem setClaim_u_bdr (n : Nat) (f : Claim → Claim) (e : Ev) : (e.setClaim n f).u.bdr = e.u.bdr := rfl
@[simp] theorem setClaim_u_lnk (n : Nat) (f : Claim → Claim) (e : Ev) : (e.setClaim n f).u.lnk = e.u.lnk := rfl
@[simp] theorem setClaim_u_record (n : Nat) (f : Claim → Claim) (e : Ev) : (e.setClaim n f).u.record = e.u.record := rfl
@[simp] theorem setClaim_u_free (n : Nat) (f : Claim → Claim) (e : Ev) : (e.setClaim n f).u.free = e.u.free := rfl
@[simp] theorem setClaim_causes (n : Nat) (f : Claim → Claim) (e : Ev) : (e.setClaim n f).causes = e.causes := rfl
@[simp] theorem setClaim_granted (n : Nat) (f : Claim → Claim) (e : Ev) : (e.setClaim n f).granted = e.granted := rfl
@[simp] theorem setClaim_newest (n : Nat) (f : Claim → Claim) (e : Ev) : (e.setClaim n f).newest = e.newest := rfl
@[simp] theorem setClaim_holders (n : Nat) (f : Claim → Claim) (e : Ev) : (e.setClaim n f).holders = e.holders := rfl
@[simp] theorem setClaim_signals (n : Nat) (f : Claim → Claim) (e : Ev) : (e.setClaim n f).signals = e.signals := rfl
@[simp] theorem setClaim_scan (n : Nat) (f : Claim → Claim) (e : Ev) : (e.setClaim n f).scan = e.scan := rfl
@[simp] theorem setClaim_examine (n : Nat) (f : Claim → Claim) (e : Ev) : (e.setClaim n f).examine = e.examine := rfl
@[simp] theorem setClaim_compose (n : Nat) (f : Claim → Claim) (e : Ev) : (e.setClaim n f).compose = e.compose := rfl

/-! ### setTable -/

@[simp] theorem setTable_u_filters (f : List ClaimRecord → List ClaimRecord) (e : Ev) : (e.setTable f).u.filters = e.u.filters := rfl
@[simp] theorem setTable_u_bkt (f : List ClaimRecord → List ClaimRecord) (e : Ev) : (e.setTable f).u.bkt = e.u.bkt := rfl
@[simp] theorem setTable_u_trk (f : List ClaimRecord → List ClaimRecord) (e : Ev) : (e.setTable f).u.trk = e.u.trk := rfl
@[simp] theorem setTable_u_tdu (f : List ClaimRecord → List ClaimRecord) (e : Ev) : (e.setTable f).u.tdu = e.u.tdu := rfl
@[simp] theorem setTable_u_ilk (f : List ClaimRecord → List ClaimRecord) (e : Ev) : (e.setTable f).u.ilk = e.u.ilk := rfl
@[simp] theorem setTable_u_clu_claims (f : List ClaimRecord → List ClaimRecord) (e : Ev) : (e.setTable f).u.clu.claims = e.u.clu.claims := rfl
@[simp] theorem setTable_u_clu_table (f : List ClaimRecord → List ClaimRecord) (e : Ev) : (e.setTable f).u.clu.table = f e.u.clu.table := rfl
@[simp] theorem setTable_u_clu_reception (f : List ClaimRecord → List ClaimRecord) (e : Ev) : (e.setTable f).u.clu.reception = e.u.clu.reception := rfl
@[simp] theorem setTable_u_ase (f : List ClaimRecord → List ClaimRecord) (e : Ev) : (e.setTable f).u.ase = e.u.ase := rfl
@[simp] theorem setTable_u_watches (f : List ClaimRecord → List ClaimRecord) (e : Ev) : (e.setTable f).u.watches = e.u.watches := rfl
@[simp] theorem setTable_u_ttc (f : List ClaimRecord → List ClaimRecord) (e : Ev) : (e.setTable f).u.ttc = e.u.ttc := rfl
@[simp] theorem setTable_u_clock (f : List ClaimRecord → List ClaimRecord) (e : Ev) : (e.setTable f).u.clock = e.u.clock := rfl
@[simp] theorem setTable_u_entries (f : List ClaimRecord → List ClaimRecord) (e : Ev) : (e.setTable f).u.entries = e.u.entries := rfl
@[simp] theorem setTable_u_biu (f : List ClaimRecord → List ClaimRecord) (e : Ev) : (e.setTable f).u.biu = e.u.biu := rfl
@[simp] theorem setTable_u_bdr (f : List ClaimRecord → List ClaimRecord) (e : Ev) : (e.setTable f).u.bdr = e.u.bdr := rfl
@[simp] theorem setTable_u_lnk (f : List ClaimRecord → List ClaimRecord) (e : Ev) : (e.setTable f).u.lnk = e.u.lnk := rfl
@[simp] theorem setTable_u_record (f : List ClaimRecord → List ClaimRecord) (e : Ev) : (e.setTable f).u.record = e.u.record := rfl
@[simp] theorem setTable_u_free (f : List ClaimRecord → List ClaimRecord) (e : Ev) : (e.setTable f).u.free = e.u.free := rfl
@[simp] theorem setTable_causes (f : List ClaimRecord → List ClaimRecord) (e : Ev) : (e.setTable f).causes = e.causes := rfl
@[simp] theorem setTable_granted (f : List ClaimRecord → List ClaimRecord) (e : Ev) : (e.setTable f).granted = e.granted := rfl
@[simp] theorem setTable_newest (f : List ClaimRecord → List ClaimRecord) (e : Ev) : (e.setTable f).newest = e.newest := rfl
@[simp] theorem setTable_holders (f : List ClaimRecord → List ClaimRecord) (e : Ev) : (e.setTable f).holders = e.holders := rfl
@[simp] theorem setTable_signals (f : List ClaimRecord → List ClaimRecord) (e : Ev) : (e.setTable f).signals = e.signals := rfl
@[simp] theorem setTable_scan (f : List ClaimRecord → List ClaimRecord) (e : Ev) : (e.setTable f).scan = e.scan := rfl
@[simp] theorem setTable_examine (f : List ClaimRecord → List ClaimRecord) (e : Ev) : (e.setTable f).examine = e.examine := rfl
@[simp] theorem setTable_compose (f : List ClaimRecord → List ClaimRecord) (e : Ev) : (e.setTable f).compose = e.compose := rfl

/-! ### setSignal -/

@[simp] theorem setSignal_u_filters (n : Nat) (f : Signal → Signal) (e : Ev) : (e.setSignal n f).u.filters = e.u.filters := rfl
@[simp] theorem setSignal_u_bkt (n : Nat) (f : Signal → Signal) (e : Ev) : (e.setSignal n f).u.bkt = e.u.bkt := rfl
@[simp] theorem setSignal_u_trk (n : Nat) (f : Signal → Signal) (e : Ev) : (e.setSignal n f).u.trk = e.u.trk := rfl
@[simp] theorem setSignal_u_tdu (n : Nat) (f : Signal → Signal) (e : Ev) : (e.setSignal n f).u.tdu = e.u.tdu := rfl
@[simp] theorem setSignal_u_ilk (n : Nat) (f : Signal → Signal) (e : Ev) : (e.setSignal n f).u.ilk = e.u.ilk := rfl
@[simp] theorem setSignal_u_clu (n : Nat) (f : Signal → Signal) (e : Ev) : (e.setSignal n f).u.clu = e.u.clu := rfl
@[simp] theorem setSignal_u_ase_signals (n : Nat) (f : Signal → Signal) (e : Ev) : (e.setSignal n f).u.ase.signals = e.u.ase.signals.modify n f := rfl
@[simp] theorem setSignal_u_ase_stop (n : Nat) (f : Signal → Signal) (e : Ev) : (e.setSignal n f).u.ase.stop = e.u.ase.stop := rfl
@[simp] theorem setSignal_u_watches (n : Nat) (f : Signal → Signal) (e : Ev) : (e.setSignal n f).u.watches = e.u.watches := rfl
@[simp] theorem setSignal_u_ttc (n : Nat) (f : Signal → Signal) (e : Ev) : (e.setSignal n f).u.ttc = e.u.ttc := rfl
@[simp] theorem setSignal_u_clock (n : Nat) (f : Signal → Signal) (e : Ev) : (e.setSignal n f).u.clock = e.u.clock := rfl
@[simp] theorem setSignal_u_entries (n : Nat) (f : Signal → Signal) (e : Ev) : (e.setSignal n f).u.entries = e.u.entries := rfl
@[simp] theorem setSignal_u_biu (n : Nat) (f : Signal → Signal) (e : Ev) : (e.setSignal n f).u.biu = e.u.biu := rfl
@[simp] theorem setSignal_u_bdr (n : Nat) (f : Signal → Signal) (e : Ev) : (e.setSignal n f).u.bdr = e.u.bdr := rfl
@[simp] theorem setSignal_u_lnk (n : Nat) (f : Signal → Signal) (e : Ev) : (e.setSignal n f).u.lnk = e.u.lnk := rfl
@[simp] theorem setSignal_u_record (n : Nat) (f : Signal → Signal) (e : Ev) : (e.setSignal n f).u.record = e.u.record := rfl
@[simp] theorem setSignal_u_free (n : Nat) (f : Signal → Signal) (e : Ev) : (e.setSignal n f).u.free = e.u.free := rfl
@[simp] theorem setSignal_causes (n : Nat) (f : Signal → Signal) (e : Ev) : (e.setSignal n f).causes = e.causes := rfl
@[simp] theorem setSignal_granted (n : Nat) (f : Signal → Signal) (e : Ev) : (e.setSignal n f).granted = e.granted := rfl
@[simp] theorem setSignal_newest (n : Nat) (f : Signal → Signal) (e : Ev) : (e.setSignal n f).newest = e.newest := rfl
@[simp] theorem setSignal_holders (n : Nat) (f : Signal → Signal) (e : Ev) : (e.setSignal n f).holders = e.holders := rfl
@[simp] theorem setSignal_signals (n : Nat) (f : Signal → Signal) (e : Ev) : (e.setSignal n f).signals = e.signals := rfl
@[simp] theorem setSignal_scan (n : Nat) (f : Signal → Signal) (e : Ev) : (e.setSignal n f).scan = e.scan := rfl
@[simp] theorem setSignal_examine (n : Nat) (f : Signal → Signal) (e : Ev) : (e.setSignal n f).examine = e.examine := rfl
@[simp] theorem setSignal_compose (n : Nat) (f : Signal → Signal) (e : Ev) : (e.setSignal n f).compose = e.compose := rfl

/-! ### setWatch -/

@[simp] theorem setWatch_u_filters (w : Nat) (x : Option Watch) (e : Ev) : (e.setWatch w x).u.filters = e.u.filters := rfl
@[simp] theorem setWatch_u_bkt (w : Nat) (x : Option Watch) (e : Ev) : (e.setWatch w x).u.bkt = e.u.bkt := rfl
@[simp] theorem setWatch_u_trk (w : Nat) (x : Option Watch) (e : Ev) : (e.setWatch w x).u.trk = e.u.trk := rfl
@[simp] theorem setWatch_u_tdu (w : Nat) (x : Option Watch) (e : Ev) : (e.setWatch w x).u.tdu = e.u.tdu := rfl
@[simp] theorem setWatch_u_ilk (w : Nat) (x : Option Watch) (e : Ev) : (e.setWatch w x).u.ilk = e.u.ilk := rfl
@[simp] theorem setWatch_u_clu (w : Nat) (x : Option Watch) (e : Ev) : (e.setWatch w x).u.clu = e.u.clu := rfl
@[simp] theorem setWatch_u_ase (w : Nat) (x : Option Watch) (e : Ev) : (e.setWatch w x).u.ase = e.u.ase := rfl
@[simp] theorem setWatch_u_watches (w : Nat) (x : Option Watch) (e : Ev) : (e.setWatch w x).u.watches = e.u.watches.set w x := rfl
@[simp] theorem setWatch_u_ttc (w : Nat) (x : Option Watch) (e : Ev) : (e.setWatch w x).u.ttc = e.u.ttc := rfl
@[simp] theorem setWatch_u_clock (w : Nat) (x : Option Watch) (e : Ev) : (e.setWatch w x).u.clock = e.u.clock := rfl
@[simp] theorem setWatch_u_entries (w : Nat) (x : Option Watch) (e : Ev) : (e.setWatch w x).u.entries = e.u.entries := rfl
@[simp] theorem setWatch_u_biu (w : Nat) (x : Option Watch) (e : Ev) : (e.setWatch w x).u.biu = e.u.biu := rfl
@[simp] theorem setWatch_u_bdr (w : Nat) (x : Option Watch) (e : Ev) : (e.setWatch w x).u.bdr = e.u.bdr := rfl
@[simp] theorem setWatch_u_lnk (w : Nat) (x : Option Watch) (e : Ev) : (e.setWatch w x).u.lnk = e.u.lnk := rfl
@[simp] theorem setWatch_u_record (w : Nat) (x : Option Watch) (e : Ev) : (e.setWatch w x).u.record = e.u.record := rfl
@[simp] theorem setWatch_u_free (w : Nat) (x : Option Watch) (e : Ev) : (e.setWatch w x).u.free = e.u.free := rfl
@[simp] theorem setWatch_causes (w : Nat) (x : Option Watch) (e : Ev) : (e.setWatch w x).causes = e.causes := rfl
@[simp] theorem setWatch_granted (w : Nat) (x : Option Watch) (e : Ev) : (e.setWatch w x).granted = e.granted := rfl
@[simp] theorem setWatch_newest (w : Nat) (x : Option Watch) (e : Ev) : (e.setWatch w x).newest = e.newest := rfl
@[simp] theorem setWatch_holders (w : Nat) (x : Option Watch) (e : Ev) : (e.setWatch w x).holders = e.holders := rfl
@[simp] theorem setWatch_signals (w : Nat) (x : Option Watch) (e : Ev) : (e.setWatch w x).signals = e.signals := rfl
@[simp] theorem setWatch_scan (w : Nat) (x : Option Watch) (e : Ev) : (e.setWatch w x).scan = e.scan := rfl
@[simp] theorem setWatch_examine (w : Nat) (x : Option Watch) (e : Ev) : (e.setWatch w x).examine = e.examine := rfl
@[simp] theorem setWatch_compose (w : Nat) (x : Option Watch) (e : Ev) : (e.setWatch w x).compose = e.compose := rfl

/-! ### ttc -/

@[simp] theorem ttc_u_filters (f : Turntable → Turntable) (e : Ev) : (e.ttc f).u.filters = e.u.filters := rfl
@[simp] theorem ttc_u_bkt (f : Turntable → Turntable) (e : Ev) : (e.ttc f).u.bkt = e.u.bkt := rfl
@[simp] theorem ttc_u_trk (f : Turntable → Turntable) (e : Ev) : (e.ttc f).u.trk = e.u.trk := rfl
@[simp] theorem ttc_u_tdu (f : Turntable → Turntable) (e : Ev) : (e.ttc f).u.tdu = e.u.tdu := rfl
@[simp] theorem ttc_u_ilk (f : Turntable → Turntable) (e : Ev) : (e.ttc f).u.ilk = e.u.ilk := rfl
@[simp] theorem ttc_u_clu (f : Turntable → Turntable) (e : Ev) : (e.ttc f).u.clu = e.u.clu := rfl
@[simp] theorem ttc_u_ase (f : Turntable → Turntable) (e : Ev) : (e.ttc f).u.ase = e.u.ase := rfl
@[simp] theorem ttc_u_watches (f : Turntable → Turntable) (e : Ev) : (e.ttc f).u.watches = e.u.watches := rfl
@[simp] theorem ttc_u_ttc (f : Turntable → Turntable) (e : Ev) : (e.ttc f).u.ttc = f e.u.ttc := rfl
@[simp] theorem ttc_u_clock (f : Turntable → Turntable) (e : Ev) : (e.ttc f).u.clock = e.u.clock := rfl
@[simp] theorem ttc_u_entries (f : Turntable → Turntable) (e : Ev) : (e.ttc f).u.entries = e.u.entries := rfl
@[simp] theorem ttc_u_biu (f : Turntable → Turntable) (e : Ev) : (e.ttc f).u.biu = e.u.biu := rfl
@[simp] theorem ttc_u_bdr (f : Turntable → Turntable) (e : Ev) : (e.ttc f).u.bdr = e.u.bdr := rfl
@[simp] theorem ttc_u_lnk (f : Turntable → Turntable) (e : Ev) : (e.ttc f).u.lnk = e.u.lnk := rfl
@[simp] theorem ttc_u_record (f : Turntable → Turntable) (e : Ev) : (e.ttc f).u.record = e.u.record := rfl
@[simp] theorem ttc_u_free (f : Turntable → Turntable) (e : Ev) : (e.ttc f).u.free = e.u.free := rfl
@[simp] theorem ttc_causes (f : Turntable → Turntable) (e : Ev) : (e.ttc f).causes = e.causes := rfl
@[simp] theorem ttc_granted (f : Turntable → Turntable) (e : Ev) : (e.ttc f).granted = e.granted := rfl
@[simp] theorem ttc_newest (f : Turntable → Turntable) (e : Ev) : (e.ttc f).newest = e.newest := rfl
@[simp] theorem ttc_holders (f : Turntable → Turntable) (e : Ev) : (e.ttc f).holders = e.holders := rfl
@[simp] theorem ttc_signals (f : Turntable → Turntable) (e : Ev) : (e.ttc f).signals = e.signals := rfl
@[simp] theorem ttc_scan (f : Turntable → Turntable) (e : Ev) : (e.ttc f).scan = e.scan := rfl
@[simp] theorem ttc_examine (f : Turntable → Turntable) (e : Ev) : (e.ttc f).examine = e.examine := rfl
@[simp] theorem ttc_compose (f : Turntable → Turntable) (e : Ev) : (e.ttc f).compose = e.compose := rfl

/-! ### clock -/

@[simp] theorem clock_u_filters (f : Clock → Clock) (e : Ev) : (e.clock f).u.filters = e.u.filters := rfl
@[simp] theorem clock_u_bkt (f : Clock → Clock) (e : Ev) : (e.clock f).u.bkt = e.u.bkt := rfl
@[simp] theorem clock_u_trk (f : Clock → Clock) (e : Ev) : (e.clock f).u.trk = e.u.trk := rfl
@[simp] theorem clock_u_tdu (f : Clock → Clock) (e : Ev) : (e.clock f).u.tdu = e.u.tdu := rfl
@[simp] theorem clock_u_ilk (f : Clock → Clock) (e : Ev) : (e.clock f).u.ilk = e.u.ilk := rfl
@[simp] theorem clock_u_clu (f : Clock → Clock) (e : Ev) : (e.clock f).u.clu = e.u.clu := rfl
@[simp] theorem clock_u_ase (f : Clock → Clock) (e : Ev) : (e.clock f).u.ase = e.u.ase := rfl
@[simp] theorem clock_u_watches (f : Clock → Clock) (e : Ev) : (e.clock f).u.watches = e.u.watches := rfl
@[simp] theorem clock_u_ttc (f : Clock → Clock) (e : Ev) : (e.clock f).u.ttc = e.u.ttc := rfl
@[simp] theorem clock_u_clock (f : Clock → Clock) (e : Ev) : (e.clock f).u.clock = f e.u.clock := rfl
@[simp] theorem clock_u_entries (f : Clock → Clock) (e : Ev) : (e.clock f).u.entries = e.u.entries := rfl
@[simp] theorem clock_u_biu (f : Clock → Clock) (e : Ev) : (e.clock f).u.biu = e.u.biu := rfl
@[simp] theorem clock_u_bdr (f : Clock → Clock) (e : Ev) : (e.clock f).u.bdr = e.u.bdr := rfl
@[simp] theorem clock_u_lnk (f : Clock → Clock) (e : Ev) : (e.clock f).u.lnk = e.u.lnk := rfl
@[simp] theorem clock_u_record (f : Clock → Clock) (e : Ev) : (e.clock f).u.record = e.u.record := rfl
@[simp] theorem clock_u_free (f : Clock → Clock) (e : Ev) : (e.clock f).u.free = e.u.free := rfl
@[simp] theorem clock_causes (f : Clock → Clock) (e : Ev) : (e.clock f).causes = e.causes := rfl
@[simp] theorem clock_granted (f : Clock → Clock) (e : Ev) : (e.clock f).granted = e.granted := rfl
@[simp] theorem clock_newest (f : Clock → Clock) (e : Ev) : (e.clock f).newest = e.newest := rfl
@[simp] theorem clock_holders (f : Clock → Clock) (e : Ev) : (e.clock f).holders = e.holders := rfl
@[simp] theorem clock_signals (f : Clock → Clock) (e : Ev) : (e.clock f).signals = e.signals := rfl
@[simp] theorem clock_scan (f : Clock → Clock) (e : Ev) : (e.clock f).scan = e.scan := rfl
@[simp] theorem clock_examine (f : Clock → Clock) (e : Ev) : (e.clock f).examine = e.examine := rfl
@[simp] theorem clock_compose (f : Clock → Clock) (e : Ev) : (e.clock f).compose = e.compose := rfl

/-! ### setEntry -/

@[simp] theorem setEntry_u_filters (i : Nat) (f : Entry → Entry) (e : Ev) : (e.setEntry i f).u.filters = e.u.filters := rfl
@[simp] theorem setEntry_u_bkt (i : Nat) (f : Entry → Entry) (e : Ev) : (e.setEntry i f).u.bkt = e.u.bkt := rfl
@[simp] theorem setEntry_u_trk (i : Nat) (f : Entry → Entry) (e : Ev) : (e.setEntry i f).u.trk = e.u.trk := rfl
@[simp] theorem setEntry_u_tdu (i : Nat) (f : Entry → Entry) (e : Ev) : (e.setEntry i f).u.tdu = e.u.tdu := rfl
@[simp] theorem setEntry_u_ilk (i : Nat) (f : Entry → Entry) (e : Ev) : (e.setEntry i f).u.ilk = e.u.ilk := rfl
@[simp] theorem setEntry_u_clu (i : Nat) (f : Entry → Entry) (e : Ev) : (e.setEntry i f).u.clu = e.u.clu := rfl
@[simp] theorem setEntry_u_ase (i : Nat) (f : Entry → Entry) (e : Ev) : (e.setEntry i f).u.ase = e.u.ase := rfl
@[simp] theorem setEntry_u_watches (i : Nat) (f : Entry → Entry) (e : Ev) : (e.setEntry i f).u.watches = e.u.watches := rfl
@[simp] theorem setEntry_u_ttc (i : Nat) (f : Entry → Entry) (e : Ev) : (e.setEntry i f).u.ttc = e.u.ttc := rfl
@[simp] theorem setEntry_u_clock (i : Nat) (f : Entry → Entry) (e : Ev) : (e.setEntry i f).u.clock = e.u.clock := rfl
@[simp] theorem setEntry_u_entries (i : Nat) (f : Entry → Entry) (e : Ev) : (e.setEntry i f).u.entries = e.u.entries.modify i (Option.map f) := rfl
@[simp] theorem setEntry_u_biu (i : Nat) (f : Entry → Entry) (e : Ev) : (e.setEntry i f).u.biu = e.u.biu := rfl
@[simp] theorem setEntry_u_bdr (i : Nat) (f : Entry → Entry) (e : Ev) : (e.setEntry i f).u.bdr = e.u.bdr := rfl
@[simp] theorem setEntry_u_lnk (i : Nat) (f : Entry → Entry) (e : Ev) : (e.setEntry i f).u.lnk = e.u.lnk := rfl
@[simp] theorem setEntry_u_record (i : Nat) (f : Entry → Entry) (e : Ev) : (e.setEntry i f).u.record = e.u.record := rfl
@[simp] theorem setEntry_u_free (i : Nat) (f : Entry → Entry) (e : Ev) : (e.setEntry i f).u.free = e.u.free := rfl
@[simp] theorem setEntry_causes (i : Nat) (f : Entry → Entry) (e : Ev) : (e.setEntry i f).causes = e.causes := rfl
@[simp] theorem setEntry_granted (i : Nat) (f : Entry → Entry) (e : Ev) : (e.setEntry i f).granted = e.granted := rfl
@[simp] theorem setEntry_newest (i : Nat) (f : Entry → Entry) (e : Ev) : (e.setEntry i f).newest = e.newest := rfl
@[simp] theorem setEntry_holders (i : Nat) (f : Entry → Entry) (e : Ev) : (e.setEntry i f).holders = e.holders := rfl
@[simp] theorem setEntry_signals (i : Nat) (f : Entry → Entry) (e : Ev) : (e.setEntry i f).signals = e.signals := rfl
@[simp] theorem setEntry_scan (i : Nat) (f : Entry → Entry) (e : Ev) : (e.setEntry i f).scan = e.scan := rfl
@[simp] theorem setEntry_examine (i : Nat) (f : Entry → Entry) (e : Ev) : (e.setEntry i f).examine = e.examine := rfl
@[simp] theorem setEntry_compose (i : Nat) (f : Entry → Entry) (e : Ev) : (e.setEntry i f).compose = e.compose := rfl

/-! ### setButton -/

@[simp] theorem setButton_u_filters (k : Nat) (f : Button → Button) (e : Ev) : (e.setButton k f).u.filters = e.u.filters := rfl
@[simp] theorem setButton_u_bkt (k : Nat) (f : Button → Button) (e : Ev) : (e.setButton k f).u.bkt = e.u.bkt := rfl
@[simp] theorem setButton_u_trk (k : Nat) (f : Button → Button) (e : Ev) : (e.setButton k f).u.trk = e.u.trk := rfl
@[simp] theorem setButton_u_tdu (k : Nat) (f : Button → Button) (e : Ev) : (e.setButton k f).u.tdu = e.u.tdu := rfl
@[simp] theorem setButton_u_ilk (k : Nat) (f : Button → Button) (e : Ev) : (e.setButton k f).u.ilk = e.u.ilk := rfl
@[simp] theorem setButton_u_clu (k : Nat) (f : Button → Button) (e : Ev) : (e.setButton k f).u.clu = e.u.clu := rfl
@[simp] theorem setButton_u_ase (k : Nat) (f : Button → Button) (e : Ev) : (e.setButton k f).u.ase = e.u.ase := rfl
@[simp] theorem setButton_u_watches (k : Nat) (f : Button → Button) (e : Ev) : (e.setButton k f).u.watches = e.u.watches := rfl
@[simp] theorem setButton_u_ttc (k : Nat) (f : Button → Button) (e : Ev) : (e.setButton k f).u.ttc = e.u.ttc := rfl
@[simp] theorem setButton_u_clock (k : Nat) (f : Button → Button) (e : Ev) : (e.setButton k f).u.clock = e.u.clock := rfl
@[simp] theorem setButton_u_entries (k : Nat) (f : Button → Button) (e : Ev) : (e.setButton k f).u.entries = e.u.entries := rfl
@[simp] theorem setButton_u_biu_buttons (k : Nat) (f : Button → Button) (e : Ev) : (e.setButton k f).u.biu.buttons = e.u.biu.buttons.modify k f := rfl
@[simp] theorem setButton_u_biu_ready (k : Nat) (f : Button → Button) (e : Ev) : (e.setButton k f).u.biu.ready = e.u.biu.ready := rfl
@[simp] theorem setButton_u_bdr (k : Nat) (f : Button → Button) (e : Ev) : (e.setButton k f).u.bdr = e.u.bdr := rfl
@[simp] theorem setButton_u_lnk (k : Nat) (f : Button → Button) (e : Ev) : (e.setButton k f).u.lnk = e.u.lnk := rfl
@[simp] theorem setButton_u_record (k : Nat) (f : Button → Button) (e : Ev) : (e.setButton k f).u.record = e.u.record := rfl
@[simp] theorem setButton_u_free (k : Nat) (f : Button → Button) (e : Ev) : (e.setButton k f).u.free = e.u.free := rfl
@[simp] theorem setButton_causes (k : Nat) (f : Button → Button) (e : Ev) : (e.setButton k f).causes = e.causes := rfl
@[simp] theorem setButton_granted (k : Nat) (f : Button → Button) (e : Ev) : (e.setButton k f).granted = e.granted := rfl
@[simp] theorem setButton_newest (k : Nat) (f : Button → Button) (e : Ev) : (e.setButton k f).newest = e.newest := rfl
@[simp] theorem setButton_holders (k : Nat) (f : Button → Button) (e : Ev) : (e.setButton k f).holders = e.holders := rfl
@[simp] theorem setButton_signals (k : Nat) (f : Button → Button) (e : Ev) : (e.setButton k f).signals = e.signals := rfl
@[simp] theorem setButton_scan (k : Nat) (f : Button → Button) (e : Ev) : (e.setButton k f).scan = e.scan := rfl
@[simp] theorem setButton_examine (k : Nat) (f : Button → Button) (e : Ev) : (e.setButton k f).examine = e.examine := rfl
@[simp] theorem setButton_compose (k : Nat) (f : Button → Button) (e : Ev) : (e.setButton k f).compose = e.compose := rfl

/-! ### setCarry -/

@[simp] theorem setCarry_u_filters (c : Option Carry) (e : Ev) : (e.setCarry c).u.filters = e.u.filters := rfl
@[simp] theorem setCarry_u_bkt (c : Option Carry) (e : Ev) : (e.setCarry c).u.bkt = e.u.bkt := rfl
@[simp] theorem setCarry_u_trk_carry (c : Option Carry) (e : Ev) : (e.setCarry c).u.trk.carry = c := rfl
@[simp] theorem setCarry_u_trk_lapse (c : Option Carry) (e : Ev) : (e.setCarry c).u.trk.lapse = e.u.trk.lapse := rfl
@[simp] theorem setCarry_u_tdu (c : Option Carry) (e : Ev) : (e.setCarry c).u.tdu = e.u.tdu := rfl
@[simp] theorem setCarry_u_ilk (c : Option Carry) (e : Ev) : (e.setCarry c).u.ilk = e.u.ilk := rfl
@[simp] theorem setCarry_u_clu (c : Option Carry) (e : Ev) : (e.setCarry c).u.clu = e.u.clu := rfl
@[simp] theorem setCarry_u_ase (c : Option Carry) (e : Ev) : (e.setCarry c).u.ase = e.u.ase := rfl
@[simp] theorem setCarry_u_watches (c : Option Carry) (e : Ev) : (e.setCarry c).u.watches = e.u.watches := rfl
@[simp] theorem setCarry_u_ttc (c : Option Carry) (e : Ev) : (e.setCarry c).u.ttc = e.u.ttc := rfl
@[simp] theorem setCarry_u_clock (c : Option Carry) (e : Ev) : (e.setCarry c).u.clock = e.u.clock := rfl
@[simp] theorem setCarry_u_entries (c : Option Carry) (e : Ev) : (e.setCarry c).u.entries = e.u.entries := rfl
@[simp] theorem setCarry_u_biu (c : Option Carry) (e : Ev) : (e.setCarry c).u.biu = e.u.biu := rfl
@[simp] theorem setCarry_u_bdr (c : Option Carry) (e : Ev) : (e.setCarry c).u.bdr = e.u.bdr := rfl
@[simp] theorem setCarry_u_lnk (c : Option Carry) (e : Ev) : (e.setCarry c).u.lnk = e.u.lnk := rfl
@[simp] theorem setCarry_u_record (c : Option Carry) (e : Ev) : (e.setCarry c).u.record = e.u.record := rfl
@[simp] theorem setCarry_u_free (c : Option Carry) (e : Ev) : (e.setCarry c).u.free = e.u.free := rfl
@[simp] theorem setCarry_causes (c : Option Carry) (e : Ev) : (e.setCarry c).causes = e.causes := rfl
@[simp] theorem setCarry_granted (c : Option Carry) (e : Ev) : (e.setCarry c).granted = e.granted := rfl
@[simp] theorem setCarry_newest (c : Option Carry) (e : Ev) : (e.setCarry c).newest = e.newest := rfl
@[simp] theorem setCarry_holders (c : Option Carry) (e : Ev) : (e.setCarry c).holders = e.holders := rfl
@[simp] theorem setCarry_signals (c : Option Carry) (e : Ev) : (e.setCarry c).signals = e.signals := rfl
@[simp] theorem setCarry_scan (c : Option Carry) (e : Ev) : (e.setCarry c).scan = e.scan := rfl
@[simp] theorem setCarry_examine (c : Option Carry) (e : Ev) : (e.setCarry c).examine = e.examine := rfl
@[simp] theorem setCarry_compose (c : Option Carry) (e : Ev) : (e.setCarry c).compose = e.compose := rfl

/-! ### writeFault -/

@[simp] theorem writeFault_u_filters (k : FaultKind) (x : Item) (e : Ev) : (e.writeFault k x).u.filters = e.u.filters := rfl
@[simp] theorem writeFault_u_bkt (k : FaultKind) (x : Item) (e : Ev) : (e.writeFault k x).u.bkt = e.u.bkt := rfl
@[simp] theorem writeFault_u_trk (k : FaultKind) (x : Item) (e : Ev) : (e.writeFault k x).u.trk = e.u.trk := rfl
@[simp] theorem writeFault_u_tdu (k : FaultKind) (x : Item) (e : Ev) : (e.writeFault k x).u.tdu = e.u.tdu := rfl
@[simp] theorem writeFault_u_ilk (k : FaultKind) (x : Item) (e : Ev) : (e.writeFault k x).u.ilk = e.u.ilk := rfl
@[simp] theorem writeFault_u_clu (k : FaultKind) (x : Item) (e : Ev) : (e.writeFault k x).u.clu = e.u.clu := rfl
@[simp] theorem writeFault_u_ase (k : FaultKind) (x : Item) (e : Ev) : (e.writeFault k x).u.ase = e.u.ase := rfl
@[simp] theorem writeFault_u_watches (k : FaultKind) (x : Item) (e : Ev) : (e.writeFault k x).u.watches = e.u.watches := rfl
@[simp] theorem writeFault_u_ttc (k : FaultKind) (x : Item) (e : Ev) : (e.writeFault k x).u.ttc = e.u.ttc := rfl
@[simp] theorem writeFault_u_clock (k : FaultKind) (x : Item) (e : Ev) : (e.writeFault k x).u.clock = e.u.clock := rfl
@[simp] theorem writeFault_u_entries (k : FaultKind) (x : Item) (e : Ev) : (e.writeFault k x).u.entries = e.u.entries := rfl
@[simp] theorem writeFault_u_biu (k : FaultKind) (x : Item) (e : Ev) : (e.writeFault k x).u.biu = e.u.biu := rfl
@[simp] theorem writeFault_u_bdr (k : FaultKind) (x : Item) (e : Ev) : (e.writeFault k x).u.bdr = e.u.bdr := rfl
@[simp] theorem writeFault_u_lnk (k : FaultKind) (x : Item) (e : Ev) : (e.writeFault k x).u.lnk = e.u.lnk := rfl
@[simp] theorem writeFault_u_record (k : FaultKind) (x : Item) (e : Ev) : (e.writeFault k x).u.record = ⟨k, x, e.u.scaleMinute, saturate e.u.record.count⟩ := rfl
@[simp] theorem writeFault_u_free (k : FaultKind) (x : Item) (e : Ev) : (e.writeFault k x).u.free = e.u.free := rfl
@[simp] theorem writeFault_causes (k : FaultKind) (x : Item) (e : Ev) : (e.writeFault k x).causes = e.causes := rfl
@[simp] theorem writeFault_granted (k : FaultKind) (x : Item) (e : Ev) : (e.writeFault k x).granted = e.granted := rfl
@[simp] theorem writeFault_newest (k : FaultKind) (x : Item) (e : Ev) : (e.writeFault k x).newest = e.newest := rfl
@[simp] theorem writeFault_holders (k : FaultKind) (x : Item) (e : Ev) : (e.writeFault k x).holders = e.holders := rfl
@[simp] theorem writeFault_signals (k : FaultKind) (x : Item) (e : Ev) : (e.writeFault k x).signals = e.signals := rfl
@[simp] theorem writeFault_scan (k : FaultKind) (x : Item) (e : Ev) : (e.writeFault k x).scan = e.scan := rfl
@[simp] theorem writeFault_examine (k : FaultKind) (x : Item) (e : Ev) : (e.writeFault k x).examine = e.examine := rfl
@[simp] theorem writeFault_compose (k : FaultKind) (x : Item) (e : Ev) : (e.writeFault k x).compose = e.compose := rfl

/-! ### drawn -/

@[simp] theorem drawn_u_filters (e : Ev) : e.drawn.u.filters = e.u.filters := rfl
@[simp] theorem drawn_u_bkt (e : Ev) : e.drawn.u.bkt = e.u.bkt := rfl
@[simp] theorem drawn_u_trk (e : Ev) : e.drawn.u.trk = e.u.trk := rfl
@[simp] theorem drawn_u_tdu (e : Ev) : e.drawn.u.tdu = e.u.tdu := rfl
@[simp] theorem drawn_u_ilk (e : Ev) : e.drawn.u.ilk = e.u.ilk := rfl
@[simp] theorem drawn_u_clu (e : Ev) : e.drawn.u.clu = e.u.clu := rfl
@[simp] theorem drawn_u_ase (e : Ev) : e.drawn.u.ase = e.u.ase := rfl
@[simp] theorem drawn_u_watches (e : Ev) : e.drawn.u.watches = e.u.watches := rfl
@[simp] theorem drawn_u_ttc (e : Ev) : e.drawn.u.ttc = e.u.ttc := rfl
@[simp] theorem drawn_u_clock (e : Ev) : e.drawn.u.clock = e.u.clock := rfl
@[simp] theorem drawn_u_entries (e : Ev) : e.drawn.u.entries = e.u.entries := rfl
@[simp] theorem drawn_u_biu (e : Ev) : e.drawn.u.biu = e.u.biu := rfl
@[simp] theorem drawn_u_bdr (e : Ev) : e.drawn.u.bdr = e.u.bdr := rfl
@[simp] theorem drawn_u_lnk (e : Ev) : e.drawn.u.lnk = e.u.lnk := rfl
@[simp] theorem drawn_u_record (e : Ev) : e.drawn.u.record = e.u.record := rfl
@[simp] theorem drawn_u_free (e : Ev) : e.drawn.u.free = e.u.free + 1 := rfl
@[simp] theorem drawn_causes (e : Ev) : e.drawn.causes = e.causes := rfl
@[simp] theorem drawn_granted (e : Ev) : e.drawn.granted = e.granted := rfl
@[simp] theorem drawn_newest (e : Ev) : e.drawn.newest = e.newest := rfl
@[simp] theorem drawn_holders (e : Ev) : e.drawn.holders = e.holders := rfl
@[simp] theorem drawn_signals (e : Ev) : e.drawn.signals = e.signals := rfl
@[simp] theorem drawn_scan (e : Ev) : e.drawn.scan = e.scan := rfl
@[simp] theorem drawn_examine (e : Ev) : e.drawn.examine = e.examine := rfl
@[simp] theorem drawn_compose (e : Ev) : e.drawn.compose = e.compose := rfl

/-! ### callScan -/

@[simp] theorem callScan_u (e : Ev) : e.callScan.u = e.u := rfl
@[simp] theorem callScan_causes (e : Ev) : e.callScan.causes = e.causes := rfl
@[simp] theorem callScan_granted (e : Ev) : e.callScan.granted = e.granted := rfl
@[simp] theorem callScan_newest (e : Ev) : e.callScan.newest = e.newest := rfl
@[simp] theorem callScan_holders (e : Ev) : e.callScan.holders = e.holders := rfl
@[simp] theorem callScan_signals (e : Ev) : e.callScan.signals = e.signals := rfl
@[simp] theorem callScan_scan (e : Ev) : e.callScan.scan = true := rfl
@[simp] theorem callScan_examine (e : Ev) : e.callScan.examine = e.examine := rfl
@[simp] theorem callScan_compose (e : Ev) : e.callScan.compose = e.compose := rfl

/-! ### callExamine -/

@[simp] theorem callExamine_u (e : Ev) : e.callExamine.u = e.u := rfl
@[simp] theorem callExamine_causes (e : Ev) : e.callExamine.causes = e.causes := rfl
@[simp] theorem callExamine_granted (e : Ev) : e.callExamine.granted = e.granted := rfl
@[simp] theorem callExamine_newest (e : Ev) : e.callExamine.newest = e.newest := rfl
@[simp] theorem callExamine_holders (e : Ev) : e.callExamine.holders = e.holders := rfl
@[simp] theorem callExamine_signals (e : Ev) : e.callExamine.signals = e.signals := rfl
@[simp] theorem callExamine_scan (e : Ev) : e.callExamine.scan = e.scan := rfl
@[simp] theorem callExamine_examine (e : Ev) : e.callExamine.examine = true := rfl
@[simp] theorem callExamine_compose (e : Ev) : e.callExamine.compose = e.compose := rfl

/-! ### callCompose -/

@[simp] theorem callCompose_u (e : Ev) : e.callCompose.u = e.u := rfl
@[simp] theorem callCompose_causes (e : Ev) : e.callCompose.causes = e.causes := rfl
@[simp] theorem callCompose_granted (e : Ev) : e.callCompose.granted = e.granted := rfl
@[simp] theorem callCompose_newest (e : Ev) : e.callCompose.newest = e.newest := rfl
@[simp] theorem callCompose_holders (e : Ev) : e.callCompose.holders = e.holders := rfl
@[simp] theorem callCompose_signals (e : Ev) : e.callCompose.signals = e.signals := rfl
@[simp] theorem callCompose_scan (e : Ev) : e.callCompose.scan = e.scan := rfl
@[simp] theorem callCompose_examine (e : Ev) : e.callCompose.examine = e.examine := rfl
@[simp] theorem callCompose_compose (e : Ev) : e.callCompose.compose = true := rfl

/-! ### raise -/

@[simp] theorem raise_u (b : Nat) (c : Cause) (e : Ev) : (e.raise b c).u = e.u := rfl
@[simp] theorem raise_causes (b : Nat) (c : Cause) (e : Ev) : (e.raise b c).causes = e.causes ++ [(b, c)] := rfl
@[simp] theorem raise_granted (b : Nat) (c : Cause) (e : Ev) : (e.raise b c).granted = e.granted := rfl
@[simp] theorem raise_newest (b : Nat) (c : Cause) (e : Ev) : (e.raise b c).newest = e.newest := rfl
@[simp] theorem raise_holders (b : Nat) (c : Cause) (e : Ev) : (e.raise b c).holders = e.holders := rfl
@[simp] theorem raise_signals (b : Nat) (c : Cause) (e : Ev) : (e.raise b c).signals = e.signals := rfl
@[simp] theorem raise_scan (b : Nat) (c : Cause) (e : Ev) : (e.raise b c).scan = e.scan := rfl
@[simp] theorem raise_examine (b : Nat) (c : Cause) (e : Ev) : (e.raise b c).examine = e.examine := rfl
@[simp] theorem raise_compose (b : Nat) (c : Cause) (e : Ev) : (e.raise b c).compose = e.compose := rfl

/-! ### reevaluate -/

@[simp] theorem reevaluate_u (n : Nat) (e : Ev) : (e.reevaluate n).u = e.u := rfl
@[simp] theorem reevaluate_causes (n : Nat) (e : Ev) : (e.reevaluate n).causes = e.causes := rfl
@[simp] theorem reevaluate_granted (n : Nat) (e : Ev) : (e.reevaluate n).granted = e.granted := rfl
@[simp] theorem reevaluate_newest (n : Nat) (e : Ev) : (e.reevaluate n).newest = e.newest := rfl
@[simp] theorem reevaluate_holders (n : Nat) (e : Ev) : (e.reevaluate n).holders = e.holders := rfl
@[simp] theorem reevaluate_signals (n : Nat) (e : Ev) : (e.reevaluate n).signals = setInsert n e.signals := rfl
@[simp] theorem reevaluate_scan (n : Nat) (e : Ev) : (e.reevaluate n).scan = e.scan := rfl
@[simp] theorem reevaluate_examine (n : Nat) (e : Ev) : (e.reevaluate n).examine = e.examine := rfl
@[simp] theorem reevaluate_compose (n : Nat) (e : Ev) : (e.reevaluate n).compose = e.compose := rfl

/-! ### State -/

@[simp] theorem event_sys (s : State) (f : Env → Ev → Ev) : (s.event f).sys = s.sys := by
  unfold State.event; rfl
@[simp] theorem event_pins (s : State) (f : Env → Ev → Ev) : (s.event f).pins = s.pins := by
  unfold State.event; rfl
@[simp] theorem event_pending (s : State) (f : Env → Ev → Ev) : (s.event f).pending = s.pending := by
  unfold State.event; rfl
@[simp] theorem event_units (s : State) (f : Env → Ev → Ev) :
    (s.event f).units = settle s.env (f s.env (.start s.units)) := rfl
@[simp] theorem setPins_sys (s : State) (f : Pins → Pins) : (s.setPins f).sys = s.sys := rfl
@[simp] theorem setPins_pins (s : State) (f : Pins → Pins) : (s.setPins f).pins = f s.pins := rfl
@[simp] theorem setPins_units (s : State) (f : Pins → Pins) : (s.setPins f).units = s.units := rfl
@[simp] theorem setPins_pending (s : State) (f : Pins → Pins) : (s.setPins f).pending = s.pending := rfl
@[simp] theorem become_sys (s : State) (y : Sys) (u : Units) (f : Env → Ev → Ev) : (s.become y u f).sys = y := rfl
@[simp] theorem become_pins (s : State) (y : Sys) (u : Units) (f : Env → Ev → Ev) : (s.become y u f).pins = s.pins := rfl
@[simp] theorem become_pending (s : State) (y : Sys) (u : Units) (f : Env → Ev → Ev) :
    (s.become y u f).pending = s.pending := rfl
@[simp] theorem become_units (s : State) (y : Sys) (u : Units) (f : Env → Ev → Ev) :
    (s.become y u f).units = settle ⟨y, s.pins⟩ (f ⟨y, s.pins⟩ (.start u)) := rfl
@[simp] theorem start_u (u : Units) : (Ev.start u).u = u := rfl
@[simp] theorem start_causes (u : Units) : (Ev.start u).causes = [] := rfl
@[simp] theorem start_granted (u : Units) : (Ev.start u).granted = [] := rfl
@[simp] theorem start_newest (u : Units) : (Ev.start u).newest = none := rfl
@[simp] theorem start_holders (u : Units) : (Ev.start u).holders = [] := rfl
@[simp] theorem start_signals (u : Units) : (Ev.start u).signals = [] := rfl
@[simp] theorem start_scan (u : Units) : (Ev.start u).scan = false := rfl
@[simp] theorem start_examine (u : Units) : (Ev.start u).examine = false := rfl
@[simp] theorem start_compose (u : Units) : (Ev.start u).compose = false := rfl

end Sys2Proof.Machine
end

