-- ==== Sys2Proof/Laws/Frames.lean ====
section
/-! SUPPORT. Frames and the invariant as one relation between two unit states, which every operation's lemma in
`Laws/` states, and the changes of one record from which operations are made. -/

namespace Sys2Proof.Machine

/-- What the Link Controller was asked to tell is still to be told: frames that wait or are in hand, marks, and the
contents of the slots. -/
structure Link.Onward (l l' : Link) : Prop where
  frames    : ∀ f, l.carries f → l'.carries f
  blocks    : ∀ b, l.reports b → l'.reports b
  signals   : ∀ n, l.reportsSignal n → l'.reportsSignal n
  turnouts  : ∀ t, l.tellsTurnout t → l'.tellsTurnout t
  dark      : ∀ n, l.tellsSignal n → l'.tellsSignal n
  lostClaim : ∀ n, l.tellsLostClaim n → l'.tellsLostClaim n
  lostTag   : ∀ b, l.tellsLostTag b → l'.tellsLostTag b
  stray     : ∀ b, l.tellsStray b → l'.tellsStray b

/-- From `u` to `t` an event changes at most the parts listed, keeps the invariant, and loses nothing that the link
was asked to tell. -/
structure Goes (ps : List Part) (u t : Units) : Prop where
  keeps  : u.keepsBut ps t
  sound  : u.sound → t.sound
  onward : u.lnk.Onward t.lnk

theorem Link.Onward.refl (l : Link) : l.Onward l :=
  ⟨fun _ h => h, fun _ h => h, fun _ h => h, fun _ h => h, fun _ h => h, fun _ h => h, fun _ h => h, fun _ h => h⟩

theorem Link.Onward.trans {a b c : Link} (h : a.Onward b) (k : b.Onward c) : a.Onward c :=
  ⟨fun x hx => k.frames x (h.frames x hx), fun x hx => k.blocks x (h.blocks x hx),
   fun x hx => k.signals x (h.signals x hx), fun x hx => k.turnouts x (h.turnouts x hx),
   fun x hx => k.dark x (h.dark x hx), fun x hx => k.lostClaim x (h.lostClaim x hx),
   fun x hx => k.lostTag x (h.lostTag x hx), fun x hx => k.stray x (h.stray x hx)⟩

theorem Part.agree_refl (u : Units) (p : Part) : p.agree u u := by
  cases p <;> simp [Part.agree]

theorem Part.agree_trans {a b c : Units} {p : Part} (h : p.agree a b) (k : p.agree b c) : p.agree a c := by
  cases p <;> simp_all [Part.agree]

namespace Goes

theorem refl (ps : List Part) (u : Units) : Goes ps u u :=
  ⟨fun p _ => p.agree_refl u, id, .refl _⟩

theorem mono {ps qs : List Part} {u t : Units} (h : Goes qs u t) (hq : ∀ p ∈ qs, p ∈ ps) : Goes ps u t :=
  ⟨fun p hp => h.keeps p fun hq' => hp (hq p hq'), h.sound, h.onward⟩

theorem trans {ps : List Part} {a b c : Units} (h : Goes ps a b) (k : Goes ps b c) : Goes ps a c :=
  ⟨fun p hp => Part.agree_trans (h.keeps p hp) (k.keeps p hp), fun s => k.sound (h.sound s), h.onward.trans k.onward⟩

/-- An operation that follows. -/
theorem after {ps qs : List Part} {a b c : Units} (h : Goes ps a b) (k : Goes qs b c) (hq : ∀ p ∈ qs, p ∈ ps) :
    Goes ps a c := h.trans (k.mono hq)

end Goes

/-- `Goes` between two events in progress. -/
def Ev.Goes (ps : List Part) (a b : Ev) : Prop := Machine.Goes ps a.u b.u

namespace Ev.Goes

theorem refl (ps : List Part) (e : Ev) : Ev.Goes ps e e := Machine.Goes.refl _ _

theorem mono {ps qs : List Part} {a b : Ev} (h : Ev.Goes qs a b) (hq : ∀ p ∈ qs, p ∈ ps) : Ev.Goes ps a b :=
  Machine.Goes.mono h hq

theorem trans {ps : List Part} {a b c : Ev} (h : Ev.Goes ps a b) (k : Ev.Goes ps b c) : Ev.Goes ps a c :=
  Machine.Goes.trans h k

/-- An operation that follows. -/
theorem after {ps qs : List Part} {a b c : Ev} (h : Ev.Goes ps a b) (k : Ev.Goes qs b c) (hq : ∀ p ∈ qs, p ∈ ps) :
    Ev.Goes ps a c := h.trans (k.mono hq)

/-- A fold of an operation over a list. -/
theorem foldl {α : Type} {ps : List Part} {g : Ev → α → Ev} (h : ∀ e x, Ev.Goes ps e (g e x)) (l : List α) (e : Ev) :
    Ev.Goes ps e (l.foldl g e) := by
  induction l generalizing e with
  | nil => exact .refl _ _
  | cons x xs ih => exact (h e x).trans (ih _)

end Ev.Goes

end Sys2Proof.Machine
end

