-- ==== Sys2Proof/Laws/Records.lean ====
section
/-! SUPPORT. What each change of one record does: the primitive operations of `Machine/Ops.lean` and of the units
that make them on a whole list. -/

namespace Sys2Proof.Machine

theorem setFilter_goes (n : Nat) (f : DetectorFilter → DetectorFilter) (e : Ev) :
    Ev.Goes [.filters] e (e.setFilter n f) :=
  ⟨by intro p hp; cases p <;> first | exact absurd (by decide) hp | simp [Part.agree, Ev.setFilter],
   by simp [Ev.setFilter, Units.sound, Units.sized, Units.clearHoldsNothing], .refl _⟩

theorem setBMirror_goes (i : Nat) (f : BlockMirror → BlockMirror) (e : Ev) :
    Ev.Goes [.mirrors] e (e.setBMirror i f) :=
  ⟨by intro p hp; cases p <;> first | exact absurd (by decide) hp | simp [Part.agree, Ev.setBMirror],
   by simp [Ev.setBMirror, Units.sound, Units.sized, Units.clearHoldsNothing], .refl _⟩

theorem setSMirror_goes (i : Nat) (f : SignalMirror → SignalMirror) (e : Ev) :
    Ev.Goes [.mirrors] e (e.setSMirror i f) :=
  ⟨by intro p hp; cases p <;> first | exact absurd (by decide) hp | simp [Part.agree, Ev.setSMirror],
   by simp [Ev.setSMirror, Units.sound, Units.sized, Units.clearHoldsNothing], .refl _⟩

theorem setTurnout_goes (t : Nat) (f : Turnout → Turnout) (e : Ev) :
    Ev.Goes [.turnouts] e (e.setTurnout t f) :=
  ⟨by intro p hp; cases p <;> first | exact absurd (by decide) hp | simp [Part.agree, Ev.setTurnout],
   by simp [Ev.setTurnout, Units.sound, Units.sized, Units.clearHoldsNothing], .refl _⟩

theorem setThrows_goes (f : List (Nat × Pos) → List (Nat × Pos)) (e : Ev) :
    Ev.Goes [.throws] e (e.setThrows f) :=
  ⟨by intro p hp; cases p <;> first | exact absurd (by decide) hp | simp [Part.agree, Ev.setThrows],
   by simp [Ev.setThrows, Units.sound, Units.sized, Units.clearHoldsNothing], .refl _⟩

theorem setCdu_goes (c : Cdu) (e : Ev) :
    Ev.Goes [.cdu] e (e.setCdu c) :=
  ⟨by intro p hp; cases p <;> first | exact absurd (by decide) hp | simp [Part.agree, Ev.setCdu],
   by simp [Ev.setCdu, Units.sound, Units.sized, Units.clearHoldsNothing], .refl _⟩

theorem setRoute_goes (n : Nat) (f : Route → Route) (e : Ev) :
    Ev.Goes [.routes] e (e.setRoute n f) :=
  ⟨by intro p hp; cases p <;> first | exact absurd (by decide) hp | simp [Part.agree, Ev.setRoute],
   by simp [Ev.setRoute, Units.sound, Units.sized, Units.clearHoldsNothing], .refl _⟩

theorem setWaiting_goes (f : List Request → List Request) (e : Ev) :
    Ev.Goes [.waiting] e (e.setWaiting f) :=
  ⟨by intro p hp; cases p <;> first | exact absurd (by decide) hp | simp [Part.agree, Ev.setWaiting],
   by simp [Ev.setWaiting, Units.sound, Units.sized, Units.clearHoldsNothing], .refl _⟩

theorem setClaim_goes (n : Nat) (f : Claim → Claim) (e : Ev) :
    Ev.Goes [.claims] e (e.setClaim n f) :=
  ⟨by intro p hp; cases p <;> first | exact absurd (by decide) hp | simp [Part.agree, Ev.setClaim],
   by simp [Ev.setClaim, Units.sound, Units.sized, Units.clearHoldsNothing], .refl _⟩

theorem setTable_goes (f : List ClaimRecord → List ClaimRecord) (e : Ev) :
    Ev.Goes [.claimTable] e (e.setTable f) :=
  ⟨by intro p hp; cases p <;> first | exact absurd (by decide) hp | simp [Part.agree, Ev.setTable],
   by simp [Ev.setTable, Units.sound, Units.sized, Units.clearHoldsNothing], .refl _⟩

theorem setWatch_goes (w : Nat) (x : Option Watch) (e : Ev) :
    Ev.Goes [.watches] e (e.setWatch w x) :=
  ⟨by intro p hp; cases p <;> first | exact absurd (by decide) hp | simp [Part.agree, Ev.setWatch],
   by simp [Ev.setWatch, Units.sound, Units.sized, Units.clearHoldsNothing], .refl _⟩

theorem ttc_goes (f : Turntable → Turntable) (e : Ev) :
    Ev.Goes [.table] e (e.ttc f) :=
  ⟨by intro p hp; cases p <;> first | exact absurd (by decide) hp | simp [Part.agree, Ev.ttc],
   by simp [Ev.ttc, Units.sound, Units.sized, Units.clearHoldsNothing], .refl _⟩

theorem clock_goes (f : Clock → Clock) (e : Ev) :
    Ev.Goes [.clock] e (e.clock f) :=
  ⟨by intro p hp; cases p <;> first | exact absurd (by decide) hp | simp [Part.agree, Ev.clock],
   by simp [Ev.clock, Units.sound, Units.sized, Units.clearHoldsNothing], .refl _⟩

theorem setEntry_goes (i : Nat) (f : Entry → Entry) (e : Ev) :
    Ev.Goes [.entries] e (e.setEntry i f) :=
  ⟨by intro p hp; cases p <;> first | exact absurd (by decide) hp | simp [Part.agree, Ev.setEntry],
   by simp [Ev.setEntry, Units.sound, Units.sized, Units.clearHoldsNothing], .refl _⟩

theorem setButton_goes (k : Nat) (f : Button → Button) (e : Ev) :
    Ev.Goes [.buttons] e (e.setButton k f) :=
  ⟨by intro p hp; cases p <;> first | exact absurd (by decide) hp | simp [Part.agree, Ev.setButton],
   by simp [Ev.setButton, Units.sound, Units.sized, Units.clearHoldsNothing], .refl _⟩

theorem setCarry_goes (c : Option Carry) (e : Ev) :
    Ev.Goes [.carry] e (e.setCarry c) :=
  ⟨by intro p hp; cases p <;> first | exact absurd (by decide) hp | simp [Part.agree, Ev.setCarry],
   by simp [Ev.setCarry, Units.sound, Units.sized, Units.clearHoldsNothing], .refl _⟩

theorem drawn_goes (e : Ev) :
    Ev.Goes [.free] e (e.drawn) :=
  ⟨by intro p hp; cases p <;> first | exact absurd (by decide) hp | simp [Part.agree, Ev.drawn],
   by simp [Ev.drawn, Units.sound, Units.sized, Units.clearHoldsNothing], .refl _⟩

theorem callScan_goes (e : Ev) :
    Ev.Goes [] e (e.callScan) :=
  ⟨by intro p hp; cases p <;> first | exact absurd (by decide) hp | simp [Part.agree, Ev.callScan],
   by simp [Ev.callScan, Units.sound, Units.sized, Units.clearHoldsNothing], .refl _⟩

theorem callExamine_goes (e : Ev) :
    Ev.Goes [] e (e.callExamine) :=
  ⟨by intro p hp; cases p <;> first | exact absurd (by decide) hp | simp [Part.agree, Ev.callExamine],
   by simp [Ev.callExamine, Units.sound, Units.sized, Units.clearHoldsNothing], .refl _⟩

theorem callCompose_goes (e : Ev) :
    Ev.Goes [] e (e.callCompose) :=
  ⟨by intro p hp; cases p <;> first | exact absurd (by decide) hp | simp [Part.agree, Ev.callCompose],
   by simp [Ev.callCompose, Units.sound, Units.sized, Units.clearHoldsNothing], .refl _⟩

theorem raise_goes (b : Nat) (c : Cause) (e : Ev) :
    Ev.Goes [] e (e.raise b c) :=
  ⟨by intro p hp; cases p <;> first | exact absurd (by decide) hp | simp [Part.agree, Ev.raise],
   by simp [Ev.raise, Units.sound, Units.sized, Units.clearHoldsNothing], .refl _⟩

theorem reevaluate_goes (n : Nat) (e : Ev) :
    Ev.Goes [] e (e.reevaluate n) :=
  ⟨by intro p hp; cases p <;> first | exact absurd (by decide) hp | simp [Part.agree, Ev.reevaluate],
   by simp [Ev.reevaluate, Units.sound, Units.sized, Units.clearHoldsNothing], .refl _⟩

theorem withdraw_goes (i : Nat) (e : Ev) :
    Ev.Goes [.waiting, .routes] e (e.withdraw i) :=
  ⟨by intro p hp; cases p <;> first | exact absurd (by decide) hp | simp [Part.agree, Ev.withdraw, Ev.setWaiting],
   by simp [Ev.withdraw, Units.sound, Units.sized, Units.clearHoldsNothing, Ev.setWaiting], .refl _⟩

theorem stepBack_goes (b : Nat) (e : Ev) :
    Ev.Goes [.watches] e (e.stepBack b) :=
  ⟨by intro p hp; cases p <;> first | exact absurd (by decide) hp | simp [Part.agree, Ev.stepBack],
   by simp [Ev.stepBack, Units.sound, Units.sized, Units.clearHoldsNothing], .refl _⟩

theorem dropWatches_goes (s : Nat) (e : Ev) :
    Ev.Goes [.watches] e (e.dropWatches s) :=
  ⟨by intro p hp; cases p <;> first | exact absurd (by decide) hp | simp [Part.agree, Ev.dropWatches],
   by simp [Ev.dropWatches, Units.sound, Units.sized, Units.clearHoldsNothing], .refl _⟩

theorem keepReady_goes (v : Env) (e : Ev) :
    Ev.Goes [.ready] e (e.keepReady v) :=
  ⟨by intro p hp; cases p <;> first | exact absurd (by decide) hp | simp [Part.agree, Ev.keepReady],
   by simp [Ev.keepReady, Units.sound, Units.sized, Units.clearHoldsNothing], .refl _⟩

theorem startTimers_goes (e : Ev) :
    Ev.Goes [.republish, .refresh] e (e.startTimers) :=
  ⟨by intro p hp; cases p <;> first | exact absurd (by decide) hp | simp [Part.agree, Ev.startTimers],
   by simp [Ev.startTimers, Units.sound, Units.sized, Units.clearHoldsNothing], .refl _⟩

/-- R201: the record takes one write; its count is at most 255. -/
theorem writeFault_goes (k : FaultKind) (item : Item) (e : Ev) : Ev.Goes [.record] e (e.writeFault k item) :=
  ⟨by intro p hp; cases p <;> first | exact absurd (by decide) hp | simp [Part.agree, Ev.writeFault, Units.writeFault],
   by
    simp only [Ev.writeFault, Units.writeFault, Units.sound, Units.sized, Units.clearHoldsNothing, saturate]
    rintro ⟨a, b, c, d⟩
    exact ⟨a, b, c, by split <;> omega⟩, .refl _⟩

theorem carryTimer_goes (v : Env) (e : Ev) : Ev.Goes [.lapse] e (e.carryTimer v) := by
  refine ⟨?_, ?_, ?_⟩
  · intro p hp
    cases p <;> first | exact absurd (by decide) hp | (unfold Ev.carryTimer; repeat' split) <;> simp [Part.agree]
  · unfold Ev.carryTimer; repeat' split
    all_goals exact id
  · unfold Ev.carryTimer; repeat' split
    all_goals exact .refl _

end Sys2Proof.Machine
end

