-- ==== Sys2Proof/Laws/Links.lean ====
section
/-! SUPPORT. The Link Controller's operations of `Machine/Flags.lean`: sets, slots, counters, queues. -/

namespace Sys2Proof.Machine

/-! ## Rising sets -/

@[simp] theorem mem_setInsert {m n : Nat} {s : List Nat} : m ∈ setInsert n s ↔ m = n ∨ m ∈ s := by
  induction s with
  | nil => simp [setInsert]
  | cons x xs ih =>
    unfold setInsert
    split
    · simp
    · split
      · subst_vars; simp
      · simp [ih]; tauto

theorem setInsert_rising {n : Nat} {s : List Nat} (h : s.Pairwise (· < ·)) : (setInsert n s).Pairwise (· < ·) := by
  induction s with
  | nil => simp [setInsert]
  | cons x xs ih =>
    have hx := List.pairwise_cons.1 h
    unfold setInsert
    split
    · rename_i hn
      exact List.pairwise_cons.2 ⟨fun y hy => by
        rcases List.mem_cons.1 hy with rfl | hy
        · exact hn
        · exact hn.trans (hx.1 y hy), h⟩
    · split
      · exact h
      · refine List.pairwise_cons.2 ⟨fun y hy => ?_, ih hx.2⟩
        rcases mem_setInsert.1 hy with rfl | hy
        · omega
        · exact hx.1 y hy

@[simp] theorem mem_setUnion {m : Nat} {ns s : List Nat} : m ∈ setUnion ns s ↔ m ∈ ns ∨ m ∈ s := by
  induction ns generalizing s with
  | nil => simp [setUnion]
  | cons x xs ih =>
    show m ∈ setUnion xs (setInsert x s) ↔ _
    rw [ih]; simp; tauto

theorem setUnion_rising {ns s : List Nat} (h : s.Pairwise (· < ·)) : (setUnion ns s).Pairwise (· < ·) := by
  induction ns generalizing s with
  | nil => exact h
  | cons x xs ih => exact ih (setInsert_rising h)

theorem saturate_le (n : Nat) : saturate n ≤ 255 := by unfold saturate; split <;> omega

/-! ## The frame of an operation on the link -/

/-- A change of the link alone: its frame, its bounds, and that nothing to be told is lost. -/
theorem link_goes {ps : List Part} {f : Link → Link} (e : Ev)
    (hk : e.u.keepsBut ps { e.u with lnk := f e.u.lnk }) (hs : e.u.lnk.sound → (f e.u.lnk).sound)
    (ho : e.u.lnk.Onward (f e.u.lnk)) : Ev.Goes ps e (e.link f) :=
  ⟨hk, fun ⟨a, b, c, d⟩ => ⟨a, b, hs c, d⟩, ho⟩

theorem pend_sound {k : Notice} {l : Link} (h : l.sound) : (l.pend k).sound := by
  unfold Link.pend
  split
  · exact h
  · rename_i hk
    obtain ⟨a, b, c, d, e⟩ := h
    exact ⟨a, b, c, d, by
      rw [List.nodup_append]
      exact ⟨e, by simp, by simp; rintro x hx rfl; exact hk hx⟩⟩

@[simp] theorem pend_rx (k : Notice) (l : Link) : (l.pend k).rx = l.rx := by unfold Link.pend; split <;> rfl
@[simp] theorem pend_urgent (k : Notice) (l : Link) : (l.pend k).urgent = l.urgent := by unfold Link.pend; split <;> rfl
@[simp] theorem pend_ordinary (k : Notice) (l : Link) : (l.pend k).ordinary = l.ordinary := by
  unfold Link.pend; split <;> rfl
@[simp] theorem pend_markBlocks (k : Notice) (l : Link) : (l.pend k).markBlocks = l.markBlocks := by
  unfold Link.pend; split <;> rfl
@[simp] theorem pend_markSignals (k : Notice) (l : Link) : (l.pend k).markSignals = l.markSignals := by
  unfold Link.pend; split <;> rfl
@[simp] theorem pend_faults (k : Notice) (l : Link) : (l.pend k).faults = l.faults := by unfold Link.pend; split <;> rfl
@[simp] theorem pend_tracking (k : Notice) (l : Link) : (l.pend k).tracking = l.tracking := by
  unfold Link.pend; split <;> rfl
@[simp] theorem pend_counters (k : Notice) (l : Link) : (l.pend k).counters = l.counters := by
  unfold Link.pend; split <;> rfl
@[simp] theorem pend_inHand (k : Notice) (l : Link) : (l.pend k).inHand = l.inHand := by unfold Link.pend; split <;> rfl
@[simp] theorem pend_idle (k : Notice) (l : Link) : (l.pend k).idle = l.idle := by unfold Link.pend; split <;> rfl
/-- A slot that becomes pending is in the order. -/
theorem mem_pend (k : Notice) (l : Link) : k ∈ (l.pend k).order := by unfold Link.pend; split <;> simp_all

/-- What is to be told, for a change of the link that leaves the frame in hand. -/
theorem onward_of {l l' : Link} (hi : l'.inHand = l.inHand) (hu : ∀ f ∈ l.urgent, f ∈ l'.urgent)
    (ho : ∀ f ∈ l.ordinary, f ∈ l'.ordinary) (hb : ∀ b ∈ l.markBlocks, b ∈ l'.markBlocks)
    (hn : ∀ n ∈ l.markSignals, n ∈ l'.markSignals) (ht : ∀ t ∈ l.faults.turnouts, t ∈ l'.faults.turnouts)
    (hd : ∀ t ∈ l.faults.signals, t ∈ l'.faults.signals) (hr : ∀ t ∈ l.faults.routes, t ∈ l'.faults.routes)
    (hl : ∀ t ∈ l.tracking.lost, t ∈ l'.tracking.lost) (hs : ∀ t ∈ l.tracking.stray, t ∈ l'.tracking.stray) :
    l.Onward l' where
  frames f h := by
    rcases h with h | h | h
    · exact .inl (ho f h)
    · exact .inr (.inl (hu f h))
    · exact .inr (.inr (by rw [hi]; exact h))
  blocks b h := h.imp (hb b) (by rw [hi]; exact id)
  signals b h := h.imp (hn b) (by rw [hi]; exact id)
  turnouts b h := h.imp (ht b) (by rw [hi]; exact id)
  dark b h := h.imp (hd b) (by rw [hi]; exact id)
  lostClaim b h := h.imp (hr b) (by rw [hi]; exact id)
  lostTag b h := h.imp (hl b) (by rw [hi]; exact id)
  stray b h := h.imp (hs b) (by rw [hi]; exact id)

end Sys2Proof.Machine
end

