-- ==== Sys2Proof/Laws/LinkOps.lean ====
section
/-! SUPPORT. What each named operation on the link does within an event. -/

namespace Sys2Proof.Machine

theorem link_raiseCrc_goes (e : Ev) : Ev.Goes [.counters] e (e.link Link.raiseCrc) := by
  refine link_goes e ?_ ?_ ?_
  · intro p hp; cases p <;> first | exact absurd (by decide) hp | simp [Part.agree, Link.raiseCrc]
  · rintro ⟨a, b, c⟩
    exact ⟨a, by simp_all [Counters.bounded, Link.raiseCrc, saturate_le], c⟩
  · apply onward_of <;> simp +contextual [Link.raiseCrc]

theorem link_raiseFraming_goes (e : Ev) : Ev.Goes [.counters] e (e.link Link.raiseFraming) := by
  refine link_goes e ?_ ?_ ?_
  · intro p hp; cases p <;> first | exact absurd (by decide) hp | simp [Part.agree, Link.raiseFraming]
  · rintro ⟨a, b, c⟩
    exact ⟨a, by simp_all [Counters.bounded, Link.raiseFraming, saturate_le], c⟩
  · apply onward_of <;> simp +contextual [Link.raiseFraming]

theorem link_raiseMissed_goes (e : Ev) : Ev.Goes [.counters] e (e.link Link.raiseMissed) := by
  refine link_goes e ?_ ?_ ?_
  · intro p hp; cases p <;> first | exact absurd (by decide) hp | simp [Part.agree, Link.raiseMissed]
  · rintro ⟨a, b, c⟩
    exact ⟨a, by simp_all [Counters.bounded, Link.raiseMissed, saturate_le], c⟩
  · apply onward_of <;> simp +contextual [Link.raiseMissed]

theorem link_clearCounters_goes (e : Ev) : Ev.Goes [.counters] e (e.link Link.clearCounters) := by
  refine link_goes e ?_ ?_ ?_
  · intro p hp; cases p <;> first | exact absurd (by decide) hp | simp [Part.agree, Link.clearCounters]
  · rintro ⟨a, b, c⟩
    exact ⟨a, by simp_all [Counters.bounded, Link.clearCounters], c⟩
  · apply onward_of <;> simp +contextual [Link.clearCounters]

theorem link_raiseGiveUp_goes (e : Ev) : Ev.Goes [.counters, .slots] e (e.link Link.raiseGiveUp) := by
  refine link_goes e ?_ ?_ ?_
  · intro p hp; cases p <;> first | exact absurd (by decide) hp | simp [Part.agree, Link.raiseGiveUp]
  · rintro ⟨a, b, c⟩
    exact pend_sound ⟨a, by simp_all [Counters.bounded, saturate_le], c⟩
  · apply onward_of <;> simp +contextual [Link.raiseGiveUp]

theorem link_raiseOverflow_goes (e : Ev) : Ev.Goes [.counters, .slots] e (e.link Link.raiseOverflow) := by
  refine link_goes e ?_ ?_ ?_
  · intro p hp; cases p <;> first | exact absurd (by decide) hp | simp [Part.agree, Link.raiseOverflow]
  · rintro ⟨a, b, c⟩
    exact pend_sound ⟨a, by simp_all [Counters.bounded, saturate_le], c⟩
  · apply onward_of <;> simp +contextual [Link.raiseOverflow]

theorem link_addFailedTurnout_goes (t : Nat) (e : Ev) : Ev.Goes [.slots] e (e.link (Link.addFailedTurnout t)) := by
  refine link_goes e ?_ ?_ ?_
  · intro p hp; cases p <;> first | exact absurd (by decide) hp | simp [Part.agree, Link.addFailedTurnout]
  · exact fun h => pend_sound h
  · apply onward_of <;> simp +contextual [Link.addFailedTurnout]

theorem link_addDarkSignal_goes (t : Nat) (e : Ev) : Ev.Goes [.slots] e (e.link (Link.addDarkSignal t)) := by
  refine link_goes e ?_ ?_ ?_
  · intro p hp; cases p <;> first | exact absurd (by decide) hp | simp [Part.agree, Link.addDarkSignal]
  · exact fun h => pend_sound h
  · apply onward_of <;> simp +contextual [Link.addDarkSignal]

theorem link_addLostClaim_goes (t : Nat) (e : Ev) : Ev.Goes [.slots] e (e.link (Link.addLostClaim t)) := by
  refine link_goes e ?_ ?_ ?_
  · intro p hp; cases p <;> first | exact absurd (by decide) hp | simp [Part.agree, Link.addLostClaim]
  · exact fun h => pend_sound h
  · apply onward_of <;> simp +contextual [Link.addLostClaim]

theorem link_setTurntableFault_goes (k : FaultKind) (e : Ev) : Ev.Goes [.slots] e (e.link (Link.setTurntableFault k)) := by
  refine link_goes e ?_ ?_ ?_
  · intro p hp; cases p <;> first | exact absurd (by decide) hp | simp [Part.agree, Link.setTurntableFault]
  · exact fun h => pend_sound h
  · apply onward_of <;> simp +contextual [Link.setTurntableFault]

theorem link_addStray_goes (t : Nat) (e : Ev) : Ev.Goes [.slots] e (e.link (Link.addStray t)) := by
  refine link_goes e ?_ ?_ ?_
  · intro p hp; cases p <;> first | exact absurd (by decide) hp | simp [Part.agree, Link.addStray]
  · exact fun h => pend_sound h
  · apply onward_of <;> simp +contextual [Link.addStray]

theorem link_addLostTag_goes (t : Nat) (e : Ev) : Ev.Goes [.slots] e (e.link (Link.addLostTag t)) := by
  refine link_goes e ?_ ?_ ?_
  · intro p hp; cases p <;> first | exact absurd (by decide) hp | simp [Part.agree, Link.addLostTag]
  · exact fun h => pend_sound h
  · apply onward_of <;> simp +contextual [Link.addLostTag]

theorem link_returnFaults_goes (c : FaultSlot) (e : Ev) : Ev.Goes [.slots] e (e.link (Link.returnFaults c)) := by
  refine link_goes e ?_ ?_ ?_
  · intro p hp; cases p <;> first | exact absurd (by decide) hp | simp [Part.agree, Link.returnFaults]
  · exact fun h => pend_sound h
  · apply onward_of <;> simp +contextual [Link.returnFaults]

theorem link_returnTracking_goes (c : TrackingSlot) (e : Ev) : Ev.Goes [.slots] e (e.link (Link.returnTracking c)) := by
  refine link_goes e ?_ ?_ ?_
  · intro p hp; cases p <;> first | exact absurd (by decide) hp | simp [Part.agree, Link.returnTracking]
  · exact fun h => pend_sound h
  · apply onward_of <;> simp +contextual [Link.returnTracking]

theorem link_pend_goes (k : Notice) (e : Ev) : Ev.Goes [.slots] e (e.link (Link.pend k)) := by
  refine link_goes e ?_ (fun h => pend_sound h) ?_
  · intro p hp; cases p <;> first | exact absurd (by decide) hp | simp [Part.agree]
  · apply onward_of <;> simp

theorem link_markBlock_goes (b : Nat) (e : Ev) : Ev.Goes [.marks] e (e.link (Link.markBlock b)) := by
  refine link_goes e ?_ ?_ ?_
  · intro p hp; cases p <;> first | exact absurd (by decide) hp | simp [Part.agree, Link.markBlock]
  · rintro ⟨a, b, c, d⟩
    exact ⟨a, b, setInsert_rising c, d⟩
  · apply onward_of <;> simp +contextual [Link.markBlock]

theorem link_markSignal_goes (b : Nat) (e : Ev) : Ev.Goes [.marks] e (e.link (Link.markSignal b)) := by
  refine link_goes e ?_ ?_ ?_
  · intro p hp; cases p <;> first | exact absurd (by decide) hp | simp [Part.agree, Link.markSignal]
  · rintro ⟨a, b, c, d, k⟩
    exact ⟨a, b, c, setInsert_rising d, k⟩
  · apply onward_of <;> simp +contextual [Link.markSignal]

theorem link_add_goes (f : Frame) (e : Ev) :
    Ev.Goes [.counters, .slots, .transmitter] e (e.link (Link.add f)) := by
  unfold Link.add
  by_cases hf : f.kind.urgent = true
  · by_cases hl : e.u.lnk.urgent.length < 4
    · refine link_goes e ?_ ?_ ?_
      · intro p hp; cases p <;> first | exact absurd (by decide) hp | simp [Part.agree, hf, Link.addUrgent, hl]
      · rintro ⟨⟨a, b, c⟩, d, k⟩
        simp only [hf, Link.addUrgent, hl, if_true]
        exact ⟨⟨a, by simp; omega, c⟩, d, k⟩
      · apply onward_of <;> simp +contextual [hf, Link.addUrgent, hl]
    · have := (link_raiseOverflow_goes e).mono (ps := [.counters, .slots, .transmitter]) (by decide)
      simpa [hf, Link.addUrgent, hl, Ev.link] using this
  · by_cases hl : e.u.lnk.ordinary.length < 16
    · refine link_goes e ?_ ?_ ?_
      · intro p hp; cases p <;> first | exact absurd (by decide) hp | simp [Part.agree, hf, Link.addOrdinary, hl]
      · rintro ⟨⟨a, b, c⟩, d, k⟩
        simp only [hf, Link.addOrdinary, hl, if_true]
        exact ⟨⟨a, b, by simp; omega⟩, d, k⟩
      · apply onward_of <;> simp +contextual [hf, Link.addOrdinary, hl]
    · have := (link_raiseOverflow_goes e).mono (ps := [.counters, .slots, .transmitter]) (by decide)
      simpa [hf, Link.addOrdinary, hl, Ev.link] using this

end Sys2Proof.Machine
end

