-- ==== Sys2Proof/Laws/Blocks.lean ====
section
/-! SUPPORT. Frames sent, marks, holders, trains and shown ranks: what the operations of `Machine/Ops.lean` that
several units call may change. -/

namespace Sys2Proof.Machine

/-! ## Frames and marks -/

theorem send_goes (v : Env) (d : Nat) (k : FrameKind) (p : List Byte) (e : Ev) :
    Ev.Goes [.counters, .slots, .transmitter] e (e.send v d k p) := by
  unfold Ev.send; split
  · exact link_add_goes _ _
  · exact .refl _ _

theorem publish_goes (v : Env) (b : Nat) (e : Ev) : Ev.Goes [.marks] e (e.publish v b) := by
  unfold Ev.publish; split
  · exact link_markBlock_goes _ _
  · exact .refl _ _

theorem publishSignal_goes (v : Env) (n : Nat) (e : Ev) : Ev.Goes [.marks] e (e.publishSignal v n) := by
  unfold Ev.publishSignal; split
  · exact link_markSignal_goes _ _
  · exact .refl _ _

@[simp] theorem publish_bkt (v : Env) (b : Nat) (e : Ev) : (e.publish v b).u.bkt = e.u.bkt := by
  unfold Ev.publish; split <;> rfl

/-! ## Block records -/

/-- A record of a list after one of its records is changed. -/
theorem mem_modify {α : Type} {l : List α} {n : Nat} {f : α → α} {x : α} (h : x ∈ l.modify n f) :
    x ∈ l ∨ ∃ y, l[n]? = some y ∧ x = f y := by
  rw [List.mem_iff_getElem?] at h
  obtain ⟨i, hi⟩ := h
  rw [List.getElem?_modify] at hi
  by_cases hn : n = i
  · subst hn
    simp only [if_true, Option.map_eq_map, Option.map_eq_some_iff] at hi
    obtain ⟨y, hy, rfl⟩ := hi
    exact .inr ⟨y, hy, rfl⟩
  · simp only [hn, if_false, Option.map_eq_map, Option.map_id_fun', id] at hi
    exact .inl (List.mem_of_getElem? hi)

/-- The record that block number `b` names. -/
theorem block_of {u : Units} {b : Nat} {x : Block} (h : u.bkt.blocks[b]? = some x) : u.block b = x := by
  simp [Units.block, List.getD, h]

/-- A change of one block record. -/
theorem setBlock_goes {b : Nat} {f : Block → Block} (e : Ev)
    (hf : ∀ x, e.u.bkt.blocks[b]? = some x → (f x).train = x.train) : Ev.Goes [.holders] e (e.setBlock b f) := by
  refine ⟨?_, ?_, .refl _⟩
  · intro p hp
    cases p <;> first | exact absurd (by decide) hp | simp [Part.agree, Ev.setBlock]
    apply List.ext_getElem?
    intro i
    simp only [List.getElem?_map, List.getElem?_modify]
    cases hx : e.u.bkt.blocks[i]? with
    | none => simp
    | some x =>
      by_cases hn : b = i
      · subst hn; simp [hf x hx]
      · simp [hn]
  · rintro ⟨a, b', c, d⟩
    refine ⟨by simpa [Ev.setBlock, Units.sized] using a, ?_, c, d⟩
    intro x hx ho
    rcases mem_modify hx with hx | ⟨y, hy, rfl⟩
    · exact b' x hx ho
    · have ht := hf y hy
      simp only [Block.train, Prod.mk.injEq] at ht
      have := b' y (List.mem_of_getElem? hy) (by rw [← ht.1]; exact ho)
      exact ⟨ht.2.1.trans this.1, ht.2.2.trans this.2⟩

/-- A change of what one block record says of its train, which law L1 allows. -/
theorem setBlock_train_goes {b : Nat} {f : Block → Block} (e : Ev)
    (hf : ∀ x, e.u.bkt.blocks[b]? = some x → (f x).holder = x.holder)
    (hl : ∀ x, e.u.bkt.blocks[b]? = some x → (f x).occupied = false → (f x).tag = .none ∧ (f x).dir = .unknown) :
    Ev.Goes [.occupancy] e (e.setBlock b f) := by
  refine ⟨?_, ?_, .refl _⟩
  · intro p hp
    cases p <;> first | exact absurd (by decide) hp | simp [Part.agree, Ev.setBlock]
    apply List.ext_getElem?
    intro i
    simp only [List.getElem?_map, List.getElem?_modify]
    cases hx : e.u.bkt.blocks[i]? with
    | none => simp
    | some x =>
      by_cases hn : b = i
      · subst hn; simp [hf x hx]
      · simp [hn]
  · rintro ⟨a, b', c, d⟩
    refine ⟨by simpa [Ev.setBlock, Units.sized] using a, ?_, c, d⟩
    intro x hx ho
    rcases mem_modify hx with hx | ⟨y, hy, rfl⟩
    · exact b' x hx ho
    · exact hl y hy ho

theorem carryAtHolder_goes (x : Block) (h : Holder) (e : Ev) : Ev.Goes [.carry] e (e.carryAtHolder x h) := by
  unfold Ev.carryAtHolder
  split
  · split
    · exact setCarry_goes _ _
    · exact .refl _ _
  · split
    · exact setCarry_goes _ _
    · exact .refl _ _

theorem setHolder_goes (v : Env) (b : Nat) (h : Holder) (e : Ev) :
    Ev.Goes [.holders, .carry] e (e.setHolder v b h) := by
  have k : Ev.Goes [.holders, .carry] e (e.setBlock b fun x => { x with holder := h }) :=
    Ev.Goes.mono (setBlock_goes e fun _ _ => rfl) (by decide)
  unfold Ev.setHolder
  dsimp only
  split
  · exact .refl _ _
  · split
    · refine Ev.Goes.after ?_ (carryAtHolder_goes _ _ _) (by decide)
      split <;> split <;> exact k
    · split <;> split <;> exact k

/-- A train written where the block is OCCUPIED, or the train of a CLEAR block. -/
theorem setTrain_goes (v : Env) (b : Nat) (t : Tag) (d : Dir) (e : Ev)
    (hb : b < e.u.bkt.blocks.length → (e.u.block b).occupied = true ∨ t = .none ∧ d = .unknown) :
    Ev.Goes [.occupancy, .marks] e (e.setTrain v b t d) := by
  have k' : Ev.Goes [.occupancy] e (e.setBlock b fun x => { x with tag := t, dir := d }) := by
    refine setBlock_train_goes e (fun _ _ => rfl) ?_
    intro x hx ho
    have hx' := block_of hx
    rcases hb (List.getElem?_eq_some_iff.1 hx).1 with h | h
    · rw [hx'] at h; simp [h] at ho
    · exact h
  have k : Ev.Goes [.occupancy, .marks] e ((e.setBlock b fun x => { x with tag := t, dir := d }).publish v b) :=
    Ev.Goes.after (k'.mono (by decide)) (publish_goes _ _ _) (by decide)
  unfold Ev.setTrain
  dsimp only
  split
  · exact .refl _ _
  · split <;> exact k

theorem setOccupied_goes (v : Env) (b : Nat) (e : Ev) :
    Ev.Goes [.occupancy, .marks] e (e.setOccupied v b true) := by
  have k' : Ev.Goes [.occupancy] e (e.setBlock b fun x => { x with occupied := true }) :=
    setBlock_train_goes e (fun _ _ => rfl) (fun _ _ h => by simp at h)
  have k : Ev.Goes [.occupancy, .marks] e ((e.setBlock b fun x => { x with occupied := true }).publish v b) :=
    Ev.Goes.after (k'.mono (by decide)) (publish_goes _ _ _) (by decide)
  unfold Ev.setOccupied
  dsimp only [if_true]
  split
  · exact .refl _ _
  · split <;> exact k

end Sys2Proof.Machine
end

