-- ==== Sys2Proof/Laws/Signals.lean ====
section
/-! SUPPORT. What a change of one signal record does. -/

namespace Sys2Proof.Machine

/-- A list with one record changed by a function that keeps what `g` reads. -/
theorem map_modify_of {α β : Type} {g : α → β} {f : α → α} (h : ∀ x, g (f x) = g x) (l : List α) (n : Nat) :
    (l.modify n f).map g = l.map g := by
  apply List.ext_getElem?
  intro i
  simp only [List.getElem?_map, List.getElem?_modify]
  by_cases hn : n = i <;> simp [hn, Function.comp_def, h]

theorem setSignal_goes (n : Nat) (f : Signal → Signal) (e : Ev) : Ev.Goes [.control, .ranks] e (e.setSignal n f) :=
  ⟨by intro p hp; cases p <;> first | exact absurd (by decide) hp | simp [Part.agree, Ev.setSignal],
   by simp [Ev.setSignal, Units.sound, Units.sized, Units.clearHoldsNothing], .refl _⟩

/-- A change of what a signal shows, or of its proving filter. -/
theorem setSignal_shown_goes {n : Nat} {f : Signal → Signal} (e : Ev) (hf : ∀ x, (f x).kept = x.kept) :
    Ev.Goes [.ranks] e (e.setSignal n f) :=
  ⟨by
    intro p hp
    by_cases hc : p = .control
    · subst hc; exact map_modify_of hf _ _
    · exact (setSignal_goes n f e).keeps p (by simp_all), (setSignal_goes n f e).sound, .refl _⟩

/-- A change of a signal's evaluated route or approach control. -/
theorem setSignal_kept_goes {n : Nat} {f : Signal → Signal} (e : Ev) (hf : ∀ x, (f x).shown = x.shown) :
    Ev.Goes [.control] e (e.setSignal n f) :=
  ⟨by
    intro p hp
    by_cases hc : p = .ranks
    · subst hc; exact map_modify_of hf _ _
    · exact (setSignal_goes n f e).keeps p (by simp_all), (setSignal_goes n f e).sound, .refl _⟩

end Sys2Proof.Machine
end

