-- ==== Sys2Proof/Laws/Service.lean ====
section
/-! SUPPORT. What each operation may change: frames, tracking, requests, timetable and signals. One lemma per operation of
`Machine/Ops.lean`, `Machine/Tracker.lean`, `Machine/Requests.lean`, `Machine/Timetable.lean`, `Machine/Aspects.lean`. -/

namespace Sys2Proof.Machine

/-! ## Updates written in place -/

theorem newest_goes (x : Option Nat) (e : Ev) : Ev.Goes [] e { e with newest := x } := Machine.Goes.refl _ _
theorem granted_goes (x : List Nat) (e : Ev) : Ev.Goes [] e { e with granted := x } := Machine.Goes.refl _ _
theorem signals_goes (x : List Nat) (e : Ev) : Ev.Goes [] e { e with signals := x } := Machine.Goes.refl _ _

theorem reception_goes (x : Option Arrival) (e : Ev) : Ev.Goes [.reception] e { e with u.clu.reception := x } :=
  ⟨by intro p hp; cases p <;> first | exact absurd (by decide) hp | simp [Part.agree], id, .refl _⟩

theorem stop_goes (x : StopState) (e : Ev) : Ev.Goes [.stop] e { e with u.ase.stop := x } :=
  ⟨by intro p hp; cases p <;> first | exact absurd (by decide) hp | simp [Part.agree], id, .refl _⟩

theorem republishTimer_goes (x : Timer) (e : Ev) : Ev.Goes [.republish] e { e with u.bkt.republish := x } :=
  ⟨by intro p hp; cases p <;> first | exact absurd (by decide) hp | simp [Part.agree], id, .refl _⟩

theorem loadEntry_goes (i : Nat) (x : Option Entry) (e : Ev) :
    Ev.Goes [.entries] e { e with u.entries := e.u.entries.set i x } :=
  ⟨by intro p hp; cases p <;> first | exact absurd (by decide) hp | simp [Part.agree],
   by simp [Units.sound, Units.sized, Units.clearHoldsNothing], .refl _⟩


/-! ## Ops -/

theorem answer_goes (v : Env) (dest : Nat) (k : FrameKind) (item : Nat) (c : Code) (e : Ev) :
    Ev.Goes [.counters, .slots, .transmitter] e (e.answer v dest k item c) := by
  unfold Ev.answer
  try dsimp only
  repeat' first
    | with_reducible apply Ev.Goes.refl
    | decide
    | split
    | with_reducible apply Ev.Goes.after ?_ (send_goes _ _ _ _ _) ?_

theorem report_goes (v : Env) (dest : ReportTo) (n : Nat) (o : RouteOutcome) (e : Ev) :
    Ev.Goes [.counters, .slots, .transmitter] e (e.report v dest n o) := by
  unfold Ev.report
  try dsimp only
  repeat' first
    | with_reducible apply Ev.Goes.refl
    | decide
    | split
    | with_reducible apply Ev.Goes.after ?_ (send_goes _ _ _ _ _) ?_

theorem reportCode_goes (v : Env) (dest : ReportTo) (n : Nat) (o : RouteOutcome) (c : Code) (item : Item) (owners : Nat) (e : Ev) :
    Ev.Goes [.counters, .slots, .transmitter] e (e.reportCode v dest n o c item owners) := by
  unfold Ev.reportCode
  try dsimp only
  repeat' first
    | with_reducible apply Ev.Goes.refl
    | decide
    | split
    | with_reducible apply Ev.Goes.after ?_ (send_goes _ _ _ _ _) ?_

theorem publishAll_goes (v : Env) (e : Ev) :
    Ev.Goes [.marks] e (e.publishAll v) := by
  unfold Ev.publishAll
  try dsimp only
  repeat' first
    | with_reducible apply Ev.Goes.refl
    | decide
    | with_reducible apply Ev.Goes.trans ?_ (Ev.Goes.foldl (fun _ _ => ?_) _ _)
    | split
    | with_reducible apply Ev.Goes.after ?_ (publish_goes _ _ _) ?_
    | with_reducible apply Ev.Goes.after ?_ (publishSignal_goes _ _ _) ?_

theorem setHolders_goes (v : Env) (bs : List Nat) (h : Holder) (e : Ev) :
    Ev.Goes [.holders, .carry] e (e.setHolders v bs h) := by
  unfold Ev.setHolders
  try dsimp only
  repeat' first
    | with_reducible apply Ev.Goes.refl
    | decide
    | with_reducible apply Ev.Goes.trans ?_ (Ev.Goes.foldl (fun _ _ => ?_) _ _)
    | split
    | with_reducible apply Ev.Goes.after ?_ (setHolder_goes _ _ _ _) ?_


/-! ## Tracker -/

/-- R21: a block that has become OCCUPIED takes its train. -/
theorem trackOccupied_goes (v : Env) (b : Nat) (e : Ev)
    (hb : b < e.u.bkt.blocks.length → (e.u.block b).occupied = true) :
    Ev.Goes [.occupancy, .carry, .marks, .slots] e (e.trackOccupied v b) := by
  have k : ∀ t d, Ev.Goes [.occupancy, .carry, .marks, .slots] e (e.setTrain v b t d) := fun t d =>
    (setTrain_goes v b t d e fun h => .inl (hb h)).mono (by decide)
  unfold Ev.trackOccupied
  split
  · exact (k _ _).after (setCarry_goes _ _) (by decide)
  · split
    · exact k _ _
    · exact (k _ _).after (link_addStray_goes _ _) (by decide)

theorem searchTag_goes (v : Env) (b : Nat) (t : Nat) (e : Ev) :
    Ev.Goes [.slots] e (e.searchTag v b t) := by
  unfold Ev.searchTag
  try dsimp only
  repeat' first
    | with_reducible apply Ev.Goes.refl
    | decide
    | split
    | with_reducible apply Ev.Goes.after ?_ (link_addLostTag_goes _ _) ?_

theorem trackClear_goes (v : Env) (b : Nat) (e : Ev) :
    Ev.Goes [.occupancy, .marks, .slots] e (e.trackClear v b) := by
  have k : Ev.Goes [.occupancy, .marks, .slots] e (e.setTrain v b .none .unknown) :=
    (setTrain_goes v b .none .unknown e fun _ => .inr ⟨rfl, rfl⟩).mono (by decide)
  unfold Ev.trackClear
  dsimp only
  split
  · exact k
  · split
    · exact k.after (searchTag_goes _ _ _ _) (by decide)
    · exact k

theorem carryLapse_goes (v : Env) (e : Ev) :
    Ev.Goes [.carry, .slots] e (e.carryLapse v) := by
  unfold Ev.carryLapse
  try dsimp only
  repeat' first
    | with_reducible apply Ev.Goes.refl
    | decide
    | split
    | with_reducible apply Ev.Goes.after ?_ (searchTag_goes _ _ _ _) ?_
    | with_reducible apply Ev.Goes.after ?_ (setCarry_goes _ _) ?_

theorem reverseDeck_goes (v : Env) (d : Nat) (e : Ev) :
    Ev.Goes [.occupancy, .carry, .marks] e (e.reverseDeck v d) := by
  have k : Ev.Goes [.occupancy, .carry, .marks] e
      (if (e.u.block d).occupied then e.setTrain v d (e.u.block d).tag (reverseDir (e.u.block d).dir) else e) := by
    split
    · rename_i h
      exact (setTrain_goes _ _ _ _ _ fun _ => .inl h).mono (by decide)
    · exact .refl _ _
  unfold Ev.reverseDeck
  dsimp only
  split
  · exact k.after (setCarry_goes _ _) (by decide)
  · exact k

/-- R28: a TAG SET that passes its checks names an OCCUPIED block. -/
theorem tagSetCheck_none {v : Env} {u : Units} {b f : Nat} (h : tagSetCheck v u b f = none) :
    (u.block b).occupied = true := by
  unfold tagSetCheck at h
  repeat' split at h
  all_goals simp_all

theorem tagSet_goes (v : Env) (f : Frame) (e : Ev) :
    Ev.Goes [.occupancy, .carry, .counters, .marks, .slots, .transmitter] e (e.tagSet v f) := by
  unfold Ev.tagSet
  dsimp only
  split
  · exact (answer_goes _ _ _ _ _ _).mono (by decide)
  · rename_i h
    refine Ev.Goes.after ?_ (answer_goes _ _ _ _ _ _) (by decide)
    have k := setTrain_goes v _ (.known (tagField (f.payload.getD 1 0) (f.payload.getD 2 0)))
      (e.u.block (payloadAt f.payload 0)).dir e fun _ => .inl (tagSetCheck_none h)
    split
    · exact (k.mono (by decide)).after (setCarry_goes _ _) (by decide)
    · exact k.mono (by decide)


/-! ## Requests -/

theorem addRequest_goes (r : Request) (e : Ev) :
    Ev.Goes [.waiting] e (e.addRequest r) := by
  unfold Ev.addRequest
  try dsimp only
  repeat' first
    | with_reducible apply Ev.Goes.refl
    | decide
    | split
    | with_reducible apply Ev.Goes.after ?_ (callScan_goes _) ?_
    | with_reducible apply Ev.Goes.after ?_ (setWaiting_goes _ _) ?_

theorem endBusy_goes (v : Env) (k : Nat) (e : Ev) :
    Ev.Goes [.buttons] e (e.endBusy v k) := by
  unfold Ev.endBusy
  try dsimp only
  repeat' first
    | with_reducible apply Ev.Goes.refl
    | decide
    | split
    | with_reducible apply Ev.Goes.after ?_ (setButton_goes _ _ _) ?_

theorem endBusyFor_goes (v : Env) (i : Nat) (e : Ev) :
    Ev.Goes [.buttons] e (e.endBusyFor v i) := by
  unfold Ev.endBusyFor
  try dsimp only
  repeat' first
    | with_reducible apply Ev.Goes.refl
    | decide
    | with_reducible apply Ev.Goes.trans ?_ (Ev.Goes.foldl (fun _ _ => ?_) _ _)
    | split
    | with_reducible apply Ev.Goes.after ?_ (endBusy_goes _ _ _) ?_

theorem testBars_goes (v : Env) (e : Ev) :
    Ev.Goes [.buttons] e (e.testBars v) := by
  unfold Ev.testBars
  try dsimp only
  repeat' first
    | with_reducible apply Ev.Goes.refl
    | decide
    | with_reducible apply Ev.Goes.trans ?_ (Ev.Goes.foldl (fun _ _ => ?_) _ _)
    | split
    | with_reducible apply Ev.Goes.after ?_ (setButton_goes _ _ _) ?_


/-! ## Timetable -/

theorem setStatus_goes (v : Env) (i : Nat) (st : EntryStatus) (e : Ev) :
    Ev.Goes [.entries, .buttons] e (e.setStatus v i st) := by
  unfold Ev.setStatus
  try dsimp only
  repeat' first
    | with_reducible apply Ev.Goes.refl
    | decide
    | split
    | with_reducible apply Ev.Goes.after ?_ (callCompose_goes _) ?_
    | with_reducible apply Ev.Goes.after ?_ (endBusyFor_goes _ _ _) ?_
    | with_reducible apply Ev.Goes.after ?_ (setEntry_goes _ _ _) ?_

theorem setPassed_goes (i : Nat) (e : Ev) :
    Ev.Goes [.entries] e (e.setPassed i) := by
  unfold Ev.setPassed
  try dsimp only
  repeat' first
    | with_reducible apply Ev.Goes.refl
    | decide
    | split
    | with_reducible apply Ev.Goes.after ?_ (setEntry_goes _ _ _) ?_

theorem tellSet_goes (v : Env) (i : Nat) (e : Ev) :
    Ev.Goes [.entries, .buttons] e (e.tellSet v i) := by
  unfold Ev.tellSet
  try dsimp only
  repeat' first
    | with_reducible apply Ev.Goes.refl
    | decide
    | split
    | with_reducible apply Ev.Goes.after ?_ (setStatus_goes _ _ _ _) ?_

theorem tellLost_goes (v : Env) (i : Nat) (e : Ev) :
    Ev.Goes [.entries, .buttons] e (e.tellLost v i) := by
  unfold Ev.tellLost
  try dsimp only
  repeat' first
    | with_reducible apply Ev.Goes.refl
    | decide
    | split
    | with_reducible apply Ev.Goes.after ?_ (setStatus_goes _ _ _ _) ?_

theorem triggerStep_goes (v : Env) (m i : Nat) (e : Ev) :
    Ev.Goes [.waiting, .entries, .buttons] e (e.triggerStep v m i) := by
  unfold Ev.triggerStep
  try dsimp only
  repeat' first
    | with_reducible apply Ev.Goes.refl
    | decide
    | split
    | with_reducible apply Ev.Goes.after ?_ (addRequest_goes _ _) ?_
    | with_reducible apply Ev.Goes.after ?_ (setStatus_goes _ _ _ _) ?_

theorem passedStep_goes (m i : Nat) (e : Ev) :
    Ev.Goes [.entries] e (e.passedStep m i) := by
  unfold Ev.passedStep
  try dsimp only
  repeat' first
    | with_reducible apply Ev.Goes.refl
    | decide
    | split
    | with_reducible apply Ev.Goes.after ?_ (setPassed_goes _ _) ?_

theorem deadlineStep_goes (v : Env) (m i : Nat) (e : Ev) :
    Ev.Goes [.routes, .waiting, .entries, .buttons] e (e.deadlineStep v m i) := by
  unfold Ev.deadlineStep
  try dsimp only
  repeat' first
    | with_reducible apply Ev.Goes.refl
    | decide
    | split
    | with_reducible apply Ev.Goes.after ?_ (setStatus_goes _ _ _ _) ?_
    | with_reducible apply Ev.Goes.after ?_ (withdraw_goes _ _) ?_

theorem rearmStep_goes (v : Env) (m i : Nat) (e : Ev) :
    Ev.Goes [.entries, .buttons] e (e.rearmStep v m i) := by
  unfold Ev.rearmStep
  try dsimp only
  repeat' first
    | with_reducible apply Ev.Goes.refl
    | decide
    | split
    | with_reducible apply Ev.Goes.after ?_ (setStatus_goes _ _ _ _) ?_

theorem rolloverEntry_goes (v : Env) (m i : Nat) (e : Ev) :
    Ev.Goes [.routes, .waiting, .entries, .buttons] e (e.rolloverEntry v m i) := by
  unfold Ev.rolloverEntry
  try dsimp only
  repeat' first
    | with_reducible apply Ev.Goes.refl
    | decide
    | split
    | with_reducible apply Ev.Goes.after ?_ (deadlineStep_goes _ _ _ _) ?_
    | with_reducible apply Ev.Goes.after ?_ (passedStep_goes _ _ _) ?_
    | with_reducible apply Ev.Goes.after ?_ (rearmStep_goes _ _ _ _) ?_
    | with_reducible apply Ev.Goes.after ?_ (triggerStep_goes _ _ _ _) ?_

theorem timetableRollover_goes (v : Env) (m : Nat) (e : Ev) :
    Ev.Goes [.routes, .waiting, .entries, .buttons] e (e.timetableRollover v m) := by
  unfold Ev.timetableRollover
  try dsimp only
  repeat' first
    | with_reducible apply Ev.Goes.refl
    | decide
    | with_reducible apply Ev.Goes.trans ?_ (Ev.Goes.foldl (fun _ _ => ?_) _ _)
    | split
    | with_reducible apply Ev.Goes.after ?_ (rolloverEntry_goes _ _ _ _) ?_

theorem skippedStep_goes (v : Env) (m i : Nat) (e : Ev) :
    Ev.Goes [.routes, .waiting, .entries, .buttons] e (e.skippedStep v m i) := by
  unfold Ev.skippedStep
  try dsimp only
  repeat' first
    | with_reducible apply Ev.Goes.refl
    | decide
    | split
    | with_reducible apply Ev.Goes.after ?_ (setStatus_goes _ _ _ _) ?_
    | with_reducible apply Ev.Goes.after ?_ (withdraw_goes _ _) ?_

theorem skipMinute_goes (v : Env) (m : Nat) (e : Ev) :
    Ev.Goes [.routes, .waiting, .entries, .buttons] e (e.skipMinute v m) := by
  unfold Ev.skipMinute
  try dsimp only
  repeat' first
    | with_reducible apply Ev.Goes.refl
    | decide
    | with_reducible apply Ev.Goes.trans ?_ (Ev.Goes.foldl (fun _ _ => ?_) _ _)
    | split
    | with_reducible apply Ev.Goes.after ?_ (deadlineStep_goes _ _ _ _) ?_
    | with_reducible apply Ev.Goes.after ?_ (passedStep_goes _ _ _) ?_
    | with_reducible apply Ev.Goes.after ?_ (rearmStep_goes _ _ _ _) ?_
    | with_reducible apply Ev.Goes.after ?_ (skippedStep_goes _ _ _ _) ?_

theorem departures_goes (v : Env) (b : Nat) (dropped : Tag) (e : Ev) :
    Ev.Goes [.entries, .buttons] e (e.departures v b dropped) := by
  unfold Ev.departures
  try dsimp only
  repeat' first
    | with_reducible apply Ev.Goes.refl
    | decide
    | with_reducible apply Ev.Goes.trans ?_ (Ev.Goes.foldl (fun _ _ => ?_) _ _)
    | split
    | with_reducible apply Ev.Goes.after ?_ (setStatus_goes _ _ _ _) ?_

theorem demand_goes (v : Env) (i k : Nat) (e : Ev) :
    Ev.Goes [.waiting, .entries, .buttons] e (e.demand v i k) := by
  unfold Ev.demand
  try dsimp only
  repeat' first
    | with_reducible apply Ev.Goes.refl
    | decide
    | split
    | with_reducible apply Ev.Goes.after ?_ (addRequest_goes _ _) ?_
    | with_reducible apply Ev.Goes.after ?_ (setEntry_goes _ _ _) ?_
    | with_reducible apply Ev.Goes.after ?_ (setStatus_goes _ _ _ _) ?_

theorem timetableLoad_goes (v : Env) (f : Frame) (e : Ev) :
    Ev.Goes [.routes, .waiting, .entries, .buttons, .counters, .slots, .transmitter] e (e.timetableLoad v f) := by
  unfold Ev.timetableLoad
  try dsimp only
  repeat' first
    | with_reducible apply Ev.Goes.refl
    | decide
    | split
    | with_reducible apply Ev.Goes.after ?_ (answer_goes _ _ _ _ _ _) ?_
    | with_reducible apply Ev.Goes.after ?_ (callCompose_goes _) ?_
    | with_reducible apply Ev.Goes.after ?_ (endBusyFor_goes _ _ _) ?_
    | with_reducible apply Ev.Goes.after ?_ (withdraw_goes _ _) ?_
    | with_reducible apply Ev.Goes.after ?_ (loadEntry_goes _ _ _) ?_

theorem cancelEntry_goes (v : Env) (i : Nat) (e : Ev) :
    Ev.Goes [.routes, .waiting, .entries, .buttons] e (e.cancelEntry v i) := by
  unfold Ev.cancelEntry
  try dsimp only
  repeat' first
    | with_reducible apply Ev.Goes.refl
    | decide
    | split
    | with_reducible apply Ev.Goes.after ?_ (setStatus_goes _ _ _ _) ?_
    | with_reducible apply Ev.Goes.after ?_ (withdraw_goes _ _) ?_

theorem timetableCancel_goes (v : Env) (f : Frame) (e : Ev) :
    Ev.Goes [.routes, .waiting, .entries, .buttons, .counters, .slots, .transmitter] e (e.timetableCancel v f) := by
  unfold Ev.timetableCancel
  try dsimp only
  repeat' first
    | with_reducible apply Ev.Goes.refl
    | decide
    | split
    | with_reducible apply Ev.Goes.after ?_ (answer_goes _ _ _ _ _ _) ?_
    | with_reducible apply Ev.Goes.after ?_ (cancelEntry_goes _ _ _) ?_

theorem newEpoch_goes (v : Env) (e : Ev) :
    Ev.Goes [.routes, .waiting, .entries, .buttons] e (e.newEpoch v) := by
  unfold Ev.newEpoch
  try dsimp only
  repeat' first
    | with_reducible apply Ev.Goes.refl
    | decide
    | with_reducible apply Ev.Goes.trans ?_ (Ev.Goes.foldl (fun _ _ => ?_) _ _)
    | split
    | with_reducible apply Ev.Goes.after ?_ (callCompose_goes _) ?_
    | with_reducible apply Ev.Goes.after ?_ (endBusyFor_goes _ _ _) ?_
    | with_reducible apply Ev.Goes.after ?_ (setEntry_goes _ _ _) ?_
    | with_reducible apply Ev.Goes.after ?_ (withdraw_goes _ _) ?_


/-! ## Aspects -/

theorem reachBehind_goes (v : Env) (s : SignalRef) (e : Ev) :
    Ev.Goes [] e (e.reachBehind v s) := by
  unfold Ev.reachBehind
  try dsimp only
  repeat' first
    | with_reducible apply Ev.Goes.refl
    | decide
    | with_reducible apply Ev.Goes.trans ?_ (Ev.Goes.foldl (fun _ _ => ?_) _ _)
    | split
    | with_reducible apply Ev.Goes.after ?_ (reevaluate_goes _ _) ?_

theorem raiseAspect_goes (v : Env) (n : Nat) (e : Ev) :
    Ev.Goes [] e (e.raiseAspect v n) := by
  unfold Ev.raiseAspect
  try dsimp only
  repeat' first
    | with_reducible apply Ev.Goes.refl
    | decide
    | split
    | with_reducible apply Ev.Goes.after ?_ (raise_goes _ _ _) ?_

theorem signalChanged_goes (v : Env) (n : Nat) (e : Ev) :
    Ev.Goes [.marks] e (e.signalChanged v n) := by
  unfold Ev.signalChanged
  try dsimp only
  repeat' first
    | with_reducible apply Ev.Goes.refl
    | decide
    | split
    | with_reducible apply Ev.Goes.after ?_ (publishSignal_goes _ _ _) ?_
    | with_reducible apply Ev.Goes.after ?_ (raiseAspect_goes _ _ _) ?_
    | with_reducible apply Ev.Goes.after ?_ (reachBehind_goes _ _ _) ?_

theorem evaluate_goes (v : Env) (n : Nat) (e : Ev) :
    Ev.Goes [.ranks, .marks] e (e.evaluate v n) := by
  unfold Ev.evaluate
  try dsimp only
  repeat' first
    | with_reducible apply Ev.Goes.refl
    | decide
    | split
    | with_reducible apply Ev.Goes.after ?_ (signalChanged_goes _ _ _) ?_
    | with_reducible apply Ev.Goes.after ?_ (setSignal_shown_goes _ ?_) ?_
    | exact fun _ => rfl

theorem evaluateAll_goes (v : Env) (k : Nat) (e : Ev) : Ev.Goes [.ranks, .marks] e (Ev.evaluateAll v k e) := by
  induction k generalizing e with
  | zero => exact Ev.Goes.foldl (fun _ _ => evaluate_goes _ _ _) _ _
  | succ k ih =>
    unfold Ev.evaluateAll
    split
    · exact .refl _ _
    · exact (((signals_goes _ e).mono (by decide)).after (evaluate_goes _ _ _) (by decide)).trans (ih _)

theorem approachControl_goes (v : Env) (n : Nat) (e : Ev) :
    Ev.Goes [.control] e (e.approachControl v n) := by
  unfold Ev.approachControl
  try dsimp only
  repeat' first
    | with_reducible apply Ev.Goes.refl
    | decide
    | split
    | with_reducible apply Ev.Goes.after ?_ (reevaluate_goes _ _) ?_
    | with_reducible apply Ev.Goes.after ?_ (setSignal_kept_goes _ ?_) ?_
    | exact fun _ => rfl

theorem approachChanged_goes (v : Env) (r : BlockRef) (e : Ev) :
    Ev.Goes [.control] e (e.approachChanged v r) := by
  unfold Ev.approachChanged
  try dsimp only
  repeat' first
    | with_reducible apply Ev.Goes.refl
    | decide
    | with_reducible apply Ev.Goes.trans ?_ (Ev.Goes.foldl (fun _ _ => ?_) _ _)
    | split
    | with_reducible apply Ev.Goes.after ?_ (approachControl_goes _ _ _) ?_

theorem releaseControl_goes (n : Nat) (e : Ev) :
    Ev.Goes [.control] e (e.releaseControl n) := by
  unfold Ev.releaseControl
  try dsimp only
  repeat' first
    | with_reducible apply Ev.Goes.refl
    | decide
    | split
    | with_reducible apply Ev.Goes.after ?_ (reevaluate_goes _ _) ?_
    | with_reducible apply Ev.Goes.after ?_ (setSignal_kept_goes _ ?_) ?_
    | exact fun _ => rfl

theorem setEvaluated_goes (n : Nat) (k : Option Nat) (e : Ev) :
    Ev.Goes [.control] e (e.setEvaluated n k) := by
  unfold Ev.setEvaluated
  try dsimp only
  repeat' first
    | with_reducible apply Ev.Goes.refl
    | decide
    | split
    | with_reducible apply Ev.Goes.after ?_ (reevaluate_goes _ _) ?_
    | with_reducible apply Ev.Goes.after ?_ (setSignal_kept_goes _ ?_) ?_
    | exact fun _ => rfl

theorem endEvaluated_goes (n k : Nat) (e : Ev) : Ev.Goes [.control] e (e.endEvaluated n k) := by
  unfold Ev.endEvaluated
  split
  · exact setEvaluated_goes n none e
  · exact .refl _ e

theorem routeStateChanged_goes (v : Env) (n : Nat) (e : Ev) :
    Ev.Goes [.control] e (e.routeStateChanged v n) := by
  unfold Ev.routeStateChanged
  try dsimp only
  repeat' first
    | with_reducible apply Ev.Goes.refl
    | decide
    | split
    | with_reducible apply Ev.Goes.after ?_ (approachControl_goes _ _ _) ?_
    | with_reducible apply Ev.Goes.after ?_ (reevaluate_goes _ _) ?_

theorem occupancyReaches_goes (v : Env) (b : Nat) (e : Ev) :
    Ev.Goes [] e (e.occupancyReaches v b) := by
  unfold Ev.occupancyReaches
  try dsimp only
  repeat' first
    | with_reducible apply Ev.Goes.refl
    | decide
    | with_reducible apply Ev.Goes.trans ?_ (Ev.Goes.foldl (fun _ _ => ?_) _ _)
    | split
    | with_reducible apply Ev.Goes.after ?_ (reevaluate_goes _ _) ?_

theorem turnoutReaches_goes (v : Env) (t : Nat) (e : Ev) :
    Ev.Goes [] e (e.turnoutReaches v t) := by
  unfold Ev.turnoutReaches
  try dsimp only
  repeat' first
    | with_reducible apply Ev.Goes.refl
    | decide
    | with_reducible apply Ev.Goes.trans ?_ (Ev.Goes.foldl (fun _ _ => ?_) _ _)
    | split
    | with_reducible apply Ev.Goes.after ?_ (reevaluate_goes _ _) ?_

theorem claimReaches_goes (v : Env) (k : Nat) (e : Ev) :
    Ev.Goes [] e (e.claimReaches v k) := by
  unfold Ev.claimReaches
  try dsimp only
  repeat' first
    | with_reducible apply Ev.Goes.refl
    | decide
    | split
    | with_reducible apply Ev.Goes.after ?_ (reevaluate_goes _ _) ?_

theorem lampInput_goes (v : Env) (n : Nat) (active : Bool) (e : Ev) :
    Ev.Goes [.ranks] e (e.lampInput v n active) := by
  unfold Ev.lampInput
  try dsimp only
  repeat' first
    | with_reducible apply Ev.Goes.refl
    | decide
    | split
    | with_reducible apply Ev.Goes.after ?_ (setSignal_shown_goes _ ?_) ?_
    | exact fun _ => rfl

theorem lampProven_goes (v : Env) (n : Nat) (e : Ev) :
    Ev.Goes [.control, .ranks, .record, .marks, .slots] e (e.lampProven v n) := by
  unfold Ev.lampProven
  try dsimp only
  repeat' first
    | with_reducible apply Ev.Goes.refl
    | decide
    | split
    | with_reducible apply Ev.Goes.after ?_ (link_addDarkSignal_goes _ _) ?_
    | with_reducible apply Ev.Goes.after ?_ (link_add_goes _ _) ?_
    | with_reducible apply Ev.Goes.after ?_ (signalChanged_goes _ _ _) ?_
    | with_reducible apply Ev.Goes.after ?_ (writeFault_goes _ _ _) ?_
    | with_reducible apply Ev.Goes.after ?_ (setSignal_goes _ _ _) ?_

theorem reevaluateSignals_goes (v : Env) (e : Ev) :
    Ev.Goes [] e (e.reevaluateSignals v) := by
  unfold Ev.reevaluateSignals
  try dsimp only
  repeat' first
    | with_reducible apply Ev.Goes.refl
    | decide
    | with_reducible apply Ev.Goes.trans ?_ (Ev.Goes.foldl (fun _ _ => ?_) _ _)
    | split
    | with_reducible apply Ev.Goes.after ?_ (reevaluate_goes _ _) ?_

end Sys2Proof.Machine
end

