-- ==== Sys2Proof/Laws/Interlocking.lean ====
section
/-! SUPPORT. What each operation may change: turnouts, routes, watches and claims. One lemma per operation of
`Machine/Drives.lean`, `Machine/Routes.lean`, `Machine/Turnouts.lean`, `Machine/Watches.lean`, `Machine/Acceptance.lean`, `Machine/Claims.lean`. -/

namespace Sys2Proof.Machine

/-! ## Drives -/

theorem setHolds_goes (t : Nat) (f : Turnout → Turnout) (e : Ev) :
    Ev.Goes [.turnouts] e (e.setHolds t f) := by
  unfold Ev.setHolds
  try dsimp only
  repeat' first
    | with_reducible apply Ev.Goes.refl
    | decide
    | split
    | with_reducible apply Ev.Goes.after ?_ (callScan_goes _) ?_
    | with_reducible apply Ev.Goes.after ?_ (setTurnout_goes _ _ _) ?_

theorem holdPath_goes (n t : Nat) (e : Ev) :
    Ev.Goes [.turnouts] e (e.holdPath n t) := by
  unfold Ev.holdPath
  try dsimp only
  repeat' first
    | with_reducible apply Ev.Goes.refl
    | decide
    | split
    | with_reducible apply Ev.Goes.after ?_ (setHolds_goes _ _ _) ?_

theorem holdFlank_goes (t : Nat) (e : Ev) :
    Ev.Goes [.turnouts] e (e.holdFlank t) := by
  unfold Ev.holdFlank
  try dsimp only
  repeat' first
    | with_reducible apply Ev.Goes.refl
    | decide
    | split
    | with_reducible apply Ev.Goes.after ?_ (setHolds_goes _ _ _) ?_

theorem dropPath_goes (n t : Nat) (e : Ev) :
    Ev.Goes [.turnouts] e (e.dropPath n t) := by
  unfold Ev.dropPath
  try dsimp only
  repeat' first
    | with_reducible apply Ev.Goes.refl
    | decide
    | split
    | with_reducible apply Ev.Goes.after ?_ (setHolds_goes _ _ _) ?_

theorem dropFlank_goes (t : Nat) (e : Ev) :
    Ev.Goes [.turnouts] e (e.dropFlank t) := by
  unfold Ev.dropFlank
  try dsimp only
  repeat' first
    | with_reducible apply Ev.Goes.refl
    | decide
    | split
    | with_reducible apply Ev.Goes.after ?_ (setHolds_goes _ _ _) ?_

theorem settleRequester_goes (v : Env) (t : Nat) (c : Code) (e : Ev) :
    Ev.Goes [.turnouts, .counters, .slots, .transmitter] e (e.settleRequester v t c) := by
  unfold Ev.settleRequester
  try dsimp only
  repeat' first
    | with_reducible apply Ev.Goes.refl
    | decide
    | split
    | with_reducible apply Ev.Goes.after ?_ (answer_goes _ _ _ _ _ _) ?_
    | with_reducible apply Ev.Goes.after ?_ (setTurnout_goes _ _ _) ?_

theorem startEntry_goes (v : Env) (t : Nat) (e : Ev) :
    Ev.Goes [.turnouts, .throws, .cdu] e (e.startEntry v t) := by
  unfold Ev.startEntry
  try dsimp only
  repeat' first
    | with_reducible apply Ev.Goes.refl
    | decide
    | split
    | with_reducible apply Ev.Goes.after ?_ (setCdu_goes _ _) ?_
    | with_reducible apply Ev.Goes.after ?_ (setThrows_goes _ _) ?_
    | with_reducible apply Ev.Goes.after ?_ (setTurnout_goes _ _ _) ?_

theorem arbiter_goes (v : Env) (e : Ev) :
    Ev.Goes [.turnouts, .throws, .cdu] e (e.arbiter v) := by
  unfold Ev.arbiter
  try dsimp only
  repeat' first
    | with_reducible apply Ev.Goes.refl
    | decide
    | with_reducible apply Ev.Goes.trans ?_ (Ev.Goes.foldl (fun _ _ => ?_) _ _)
    | split
    | with_reducible apply Ev.Goes.after ?_ (startEntry_goes _ _ _) ?_

theorem arbiterAtClear_goes (v : Env) (b : Nat) (e : Ev) :
    Ev.Goes [.turnouts, .throws, .cdu] e (e.arbiterAtClear v b) := by
  unfold Ev.arbiterAtClear
  try dsimp only
  repeat' first
    | with_reducible apply Ev.Goes.refl
    | decide
    | split
    | with_reducible apply Ev.Goes.after ?_ (arbiter_goes _ _) ?_

theorem withdrawThrow_goes (v : Env) (t : Nat) (e : Ev) :
    Ev.Goes [.turnouts, .throws] e (e.withdrawThrow v t) := by
  unfold Ev.withdrawThrow
  try dsimp only
  repeat' first
    | with_reducible apply Ev.Goes.refl
    | decide
    | split
    | with_reducible apply Ev.Goes.after ?_ (setThrows_goes _ _) ?_
    | with_reducible apply Ev.Goes.after ?_ (setTurnout_goes _ _ _) ?_
    | with_reducible apply Ev.Goes.after ?_ (turnoutReaches_goes _ _ _) ?_

theorem withdrawThrows_goes (v : Env) (r : RouteCfg) (e : Ev) :
    Ev.Goes [.turnouts, .throws] e (e.withdrawThrows v r) := by
  unfold Ev.withdrawThrows
  try dsimp only
  repeat' first
    | with_reducible apply Ev.Goes.refl
    | decide
    | with_reducible apply Ev.Goes.trans ?_ (Ev.Goes.foldl (fun _ _ => ?_) _ _)
    | split
    | with_reducible apply Ev.Goes.after ?_ (withdrawThrow_goes _ _ _) ?_


/-! ## Routes -/

theorem openClaim_goes (v : Env) (n : Nat) (r : RouteCfg) (p : ForeignPart) (st : ClaimStatus) (e : Ev) :
    Ev.Goes [.claims, .counters, .slots, .transmitter] e (e.openClaim v n r p st) := by
  unfold Ev.openClaim
  try dsimp only
  repeat' first
    | with_reducible apply Ev.Goes.refl
    | decide
    | split
    | with_reducible apply Ev.Goes.after ?_ (send_goes _ _ _ _ _) ?_
    | with_reducible apply Ev.Goes.after ?_ (setClaim_goes _ _ _) ?_

theorem setClaimState_goes (v : Env) (n : Nat) (f : Claim → Claim) (e : Ev) :
    Ev.Goes [.claims] e (e.setClaimState v n f) := by
  unfold Ev.setClaimState
  try dsimp only
  repeat' first
    | with_reducible apply Ev.Goes.refl
    | decide
    | split
    | with_reducible apply Ev.Goes.after ?_ (claimReaches_goes _ _ _) ?_
    | with_reducible apply Ev.Goes.after ?_ (setClaim_goes _ _ _) ?_

theorem releaseClaim_goes (v : Env) (owner tag : Nat) (e : Ev) :
    Ev.Goes [.counters, .slots, .transmitter] e (e.releaseClaim v owner tag) := by
  unfold Ev.releaseClaim
  try dsimp only
  repeat' first
    | with_reducible apply Ev.Goes.refl
    | decide
    | split
    | with_reducible apply Ev.Goes.after ?_ (send_goes _ _ _ _ _) ?_

theorem closeClaim_goes (v : Env) (n : Nat) (r : RouteCfg) (e : Ev) :
    Ev.Goes [.claims, .counters, .slots, .transmitter] e (e.closeClaim v n r) := by
  unfold Ev.closeClaim
  try dsimp only
  repeat' first
    | with_reducible apply Ev.Goes.refl
    | decide
    | split
    | with_reducible apply Ev.Goes.after ?_ (releaseClaim_goes _ _ _ _) ?_
    | with_reducible apply Ev.Goes.after ?_ (setClaimState_goes _ _ _ _) ?_

theorem routeReachesTable_goes (r : RouteCfg) (e : Ev) :
    Ev.Goes [] e (e.routeReachesTable r) := by
  unfold Ev.routeReachesTable
  try dsimp only
  repeat' first
    | with_reducible apply Ev.Goes.refl
    | decide
    | split
    | with_reducible apply Ev.Goes.after ?_ (callExamine_goes _) ?_

theorem setRouteState_goes (v : Env) (n : Nat) (r : RouteCfg) (st : RouteState) (e : Ev) :
    Ev.Goes [.routes, .control] e (e.setRouteState v n r st) := by
  unfold Ev.setRouteState
  try dsimp only
  repeat' first
    | with_reducible apply Ev.Goes.refl
    | decide
    | split
    | with_reducible apply Ev.Goes.after ?_ (routeReachesTable_goes _ _) ?_
    | with_reducible apply Ev.Goes.after ?_ (routeStateChanged_goes _ _ _) ?_
    | with_reducible apply Ev.Goes.after ?_ (setRoute_goes _ _ _) ?_

theorem routeIdle_goes (n : Nat) (r : RouteCfg) (e : Ev) :
    Ev.Goes [.routes, .control] e (e.routeIdle n r) := by
  unfold Ev.routeIdle
  try dsimp only
  repeat' first
    | with_reducible apply Ev.Goes.refl
    | decide
    | split
    | with_reducible apply Ev.Goes.after ?_ (routeReachesTable_goes _ _) ?_
    | with_reducible apply Ev.Goes.after ?_ (endEvaluated_goes _ _ _) ?_
    | with_reducible apply Ev.Goes.after ?_ (setRoute_goes _ _ _) ?_

theorem routeSet_goes (v : Env) (n : Nat) (r : RouteCfg) (e : Ev) :
    Ev.Goes [.routes, .control, .entries, .buttons, .counters, .slots, .transmitter] e (e.routeSet v n r) := by
  unfold Ev.routeSet
  try dsimp only
  repeat' first
    | with_reducible apply Ev.Goes.refl
    | decide
    | split
    | with_reducible apply Ev.Goes.after ?_ (report_goes _ _ _ _ _) ?_
    | with_reducible apply Ev.Goes.after ?_ (setRoute_goes _ _ _) ?_
    | with_reducible apply Ev.Goes.after ?_ (setRouteState_goes _ _ _ _ _) ?_
    | with_reducible apply Ev.Goes.after ?_ (tellSet_goes _ _ _) ?_

theorem routeThrowing_goes (v : Env) (n : Nat) (r : RouteCfg) (e : Ev) :
    Ev.Goes [.routes, .control, .entries, .buttons, .counters, .slots, .transmitter] e (e.routeThrowing v n r) := by
  unfold Ev.routeThrowing
  try dsimp only
  repeat' first
    | with_reducible apply Ev.Goes.refl
    | decide
    | split
    | with_reducible apply Ev.Goes.after ?_ (routeSet_goes _ _ _ _) ?_
    | with_reducible apply Ev.Goes.after ?_ (setRouteState_goes _ _ _ _ _) ?_

theorem freeOfRoute_goes (v : Env) (n b : Nat) (e : Ev) :
    Ev.Goes [.holders, .carry] e (e.freeOfRoute v n b) := by
  unfold Ev.freeOfRoute
  try dsimp only
  repeat' first
    | with_reducible apply Ev.Goes.refl
    | decide
    | split
    | with_reducible apply Ev.Goes.after ?_ (setHolder_goes _ _ _ _) ?_

theorem dropPathIn_goes (v : Env) (n : Nat) (r : RouteCfg) (b : Nat) (e : Ev) :
    Ev.Goes [.turnouts] e (e.dropPathIn v n r b) := by
  unfold Ev.dropPathIn
  try dsimp only
  repeat' first
    | with_reducible apply Ev.Goes.refl
    | decide
    | with_reducible apply Ev.Goes.trans ?_ (Ev.Goes.foldl (fun _ _ => ?_) _ _)
    | split
    | with_reducible apply Ev.Goes.after ?_ (dropPath_goes _ _ _) ?_

theorem releasePathBlock_goes (v : Env) (n : Nat) (r : RouteCfg) (i : Nat) (e : Ev) :
    Ev.Goes [.holders, .carry, .turnouts, .routes] e (e.releasePathBlock v n r i) := by
  unfold Ev.releasePathBlock
  try dsimp only
  repeat' first
    | with_reducible apply Ev.Goes.refl
    | decide
    | split
    | with_reducible apply Ev.Goes.after ?_ (dropPathIn_goes _ _ _ _ _) ?_
    | with_reducible apply Ev.Goes.after ?_ (freeOfRoute_goes _ _ _ _) ?_
    | with_reducible apply Ev.Goes.after ?_ (setRoute_goes _ _ _) ?_

theorem releaseOverlap_goes (v : Env) (n : Nat) (r : RouteCfg) (e : Ev) :
    Ev.Goes [.holders, .carry, .turnouts, .routes] e (e.releaseOverlap v n r) := by
  unfold Ev.releaseOverlap
  try dsimp only
  repeat' first
    | with_reducible apply Ev.Goes.refl
    | decide
    | split
    | with_reducible apply Ev.Goes.after ?_ (dropPathIn_goes _ _ _ _ _) ?_
    | with_reducible apply Ev.Goes.after ?_ (freeOfRoute_goes _ _ _ _) ?_
    | with_reducible apply Ev.Goes.after ?_ (setRoute_goes _ _ _) ?_

theorem releaseTurnouts_goes (n : Nat) (r : RouteCfg) (e : Ev) :
    Ev.Goes [.turnouts] e (e.releaseTurnouts n r) := by
  unfold Ev.releaseTurnouts
  try dsimp only
  repeat' first
    | with_reducible apply Ev.Goes.refl
    | decide
    | with_reducible apply Ev.Goes.trans ?_ (Ev.Goes.foldl (fun _ _ => ?_) _ _)
    | split
    | with_reducible apply Ev.Goes.after ?_ (dropFlank_goes _ _) ?_
    | with_reducible apply Ev.Goes.after ?_ (dropPath_goes _ _ _) ?_

theorem releaseHolds_goes (v : Env) (n : Nat) (r : RouteCfg) (e : Ev) :
    Ev.Goes [.holders, .carry, .turnouts] e (e.releaseHolds v n r) := by
  unfold Ev.releaseHolds
  try dsimp only
  repeat' first
    | with_reducible apply Ev.Goes.refl
    | decide
    | with_reducible apply Ev.Goes.trans ?_ (Ev.Goes.foldl (fun _ _ => ?_) _ _)
    | split
    | with_reducible apply Ev.Goes.after ?_ (freeOfRoute_goes _ _ _ _) ?_
    | with_reducible apply Ev.Goes.after ?_ (releaseTurnouts_goes _ _ _) ?_

theorem rejoin_goes (v : Env) (a : Request) (e : Ev) :
    Ev.Goes [.waiting, .entries, .buttons] e (e.rejoin v a) := by
  unfold Ev.rejoin
  try dsimp only
  repeat' first
    | with_reducible apply Ev.Goes.refl
    | decide
    | split
    | with_reducible apply Ev.Goes.after ?_ (callScan_goes _) ?_
    | with_reducible apply Ev.Goes.after ?_ (setWaiting_goes _ _) ?_
    | with_reducible apply Ev.Goes.after ?_ (tellLost_goes _ _ _) ?_

theorem routeFail_goes (v : Env) (n : Nat) (r : RouteCfg) (c : Code) (item : Item) (owners : Nat) (e : Ev) :
    Ev.Goes [.holders, .carry, .turnouts, .throws, .routes, .waiting, .claims, .control, .entries, .buttons, .counters, .slots, .transmitter] e (e.routeFail v n r c item owners) := by
  unfold Ev.routeFail
  try dsimp only
  repeat' first
    | with_reducible apply Ev.Goes.refl
    | decide
    | split
    | with_reducible apply Ev.Goes.after ?_ (callScan_goes _) ?_
    | with_reducible apply Ev.Goes.after ?_ (closeClaim_goes _ _ _ _) ?_
    | with_reducible apply Ev.Goes.after ?_ (rejoin_goes _ _ _) ?_
    | with_reducible apply Ev.Goes.after ?_ (releaseHolds_goes _ _ _ _) ?_
    | with_reducible apply Ev.Goes.after ?_ (reportCode_goes _ _ _ _ _ _ _ _) ?_
    | with_reducible apply Ev.Goes.after ?_ (routeIdle_goes _ _ _) ?_
    | with_reducible apply Ev.Goes.after ?_ (withdrawThrows_goes _ _ _) ?_

theorem routeMeetsTurnout_goes (v : Env) (t n : Nat) (e : Ev) :
    Ev.Goes [.holders, .carry, .turnouts, .throws, .routes, .waiting, .claims, .control, .entries, .buttons, .counters, .slots, .transmitter] e (e.routeMeetsTurnout v t n) := by
  unfold Ev.routeMeetsTurnout
  try dsimp only
  repeat' first
    | with_reducible apply Ev.Goes.refl
    | decide
    | split
    | with_reducible apply Ev.Goes.after ?_ (routeFail_goes _ _ _ _ _ _ _) ?_
    | with_reducible apply Ev.Goes.after ?_ (routeSet_goes _ _ _ _) ?_

theorem turnoutChanged_goes (v : Env) (t : Nat) (e : Ev) :
    Ev.Goes [.holders, .carry, .turnouts, .throws, .routes, .waiting, .claims, .control, .entries, .buttons, .counters, .slots, .transmitter] e (e.turnoutChanged v t) := by
  unfold Ev.turnoutChanged
  try dsimp only
  repeat' first
    | with_reducible apply Ev.Goes.refl
    | decide
    | with_reducible apply Ev.Goes.trans ?_ (Ev.Goes.foldl (fun _ _ => ?_) _ _)
    | split
    | with_reducible apply Ev.Goes.after ?_ (routeMeetsTurnout_goes _ _ _ _) ?_
    | with_reducible apply Ev.Goes.after ?_ (turnoutReaches_goes _ _ _) ?_

theorem routeEndIfDone_goes (v : Env) (n : Nat) (r : RouteCfg) (e : Ev) :
    Ev.Goes [.turnouts, .routes, .claims, .control, .counters, .slots, .transmitter] e (e.routeEndIfDone v n r) := by
  unfold Ev.routeEndIfDone
  try dsimp only
  repeat' first
    | with_reducible apply Ev.Goes.refl
    | decide
    | split
    | with_reducible apply Ev.Goes.after ?_ (closeClaim_goes _ _ _ _) ?_
    | with_reducible apply Ev.Goes.after ?_ (releaseTurnouts_goes _ _ _) ?_
    | with_reducible apply Ev.Goes.after ?_ (report_goes _ _ _ _ _) ?_
    | with_reducible apply Ev.Goes.after ?_ (routeIdle_goes _ _ _) ?_

theorem routeMeetsOccupied_goes (v : Env) (n : Nat) (r : RouteCfg) (i : Nat) (e : Ev) :
    Ev.Goes [.routes, .control] e (e.routeMeetsOccupied v n r i) := by
  unfold Ev.routeMeetsOccupied
  try dsimp only
  repeat' first
    | with_reducible apply Ev.Goes.refl
    | decide
    | split
    | with_reducible apply Ev.Goes.after ?_ (setRoute_goes _ _ _) ?_
    | with_reducible apply Ev.Goes.after ?_ (setRouteState_goes _ _ _ _ _) ?_

theorem routeMeetsClear_goes (v : Env) (n : Nat) (r : RouteCfg) (i : Nat) (e : Ev) :
    Ev.Goes [.holders, .carry, .turnouts, .routes, .claims, .control, .counters, .slots, .transmitter] e (e.routeMeetsClear v n r i) := by
  unfold Ev.routeMeetsClear
  try dsimp only
  repeat' first
    | with_reducible apply Ev.Goes.refl
    | decide
    | split
    | with_reducible apply Ev.Goes.after ?_ (releaseOverlap_goes _ _ _ _) ?_
    | with_reducible apply Ev.Goes.after ?_ (releasePathBlock_goes _ _ _ _ _) ?_
    | with_reducible apply Ev.Goes.after ?_ (routeEndIfDone_goes _ _ _ _) ?_
    | with_reducible apply Ev.Goes.after ?_ (setRoute_goes _ _ _) ?_

theorem routeGivenUp_goes (v : Env) (n : Nat) (r : RouteCfg) (e : Ev) :
    Ev.Goes [.holders, .carry, .turnouts, .routes, .claims, .control, .counters, .slots, .transmitter] e (e.routeGivenUp v n r) := by
  unfold Ev.routeGivenUp
  try dsimp only
  repeat' first
    | with_reducible apply Ev.Goes.refl
    | decide
    | split
    | with_reducible apply Ev.Goes.after ?_ (closeClaim_goes _ _ _ _) ?_
    | with_reducible apply Ev.Goes.after ?_ (releaseHolds_goes _ _ _ _) ?_
    | with_reducible apply Ev.Goes.after ?_ (routeIdle_goes _ _ _) ?_

theorem approachEnd_goes (v : Env) (n : Nat) (r : RouteCfg) (e : Ev) :
    Ev.Goes [.holders, .carry, .turnouts, .routes, .claims, .control, .counters, .slots, .transmitter] e (e.approachEnd v n r) := by
  unfold Ev.approachEnd
  try dsimp only
  repeat' first
    | with_reducible apply Ev.Goes.refl
    | decide
    | split
    | with_reducible apply Ev.Goes.after ?_ (report_goes _ _ _ _ _) ?_
    | with_reducible apply Ev.Goes.after ?_ (routeGivenUp_goes _ _ _ _) ?_

theorem approachCleared_goes (v : Env) (b : BlockRef) (n : Nat) (e : Ev) :
    Ev.Goes [.holders, .carry, .turnouts, .routes, .claims, .control, .counters, .slots, .transmitter] e (e.approachCleared v b n) := by
  unfold Ev.approachCleared
  try dsimp only
  repeat' first
    | with_reducible apply Ev.Goes.refl
    | decide
    | split
    | with_reducible apply Ev.Goes.after ?_ (approachEnd_goes _ _ _ _) ?_

theorem overlapCleared_goes (v : Env) (b n : Nat) (e : Ev) :
    Ev.Goes [.holders, .carry, .turnouts, .routes, .claims, .control, .counters, .slots, .transmitter] e (e.overlapCleared v b n) := by
  unfold Ev.overlapCleared
  try dsimp only
  repeat' first
    | with_reducible apply Ev.Goes.refl
    | decide
    | split
    | with_reducible apply Ev.Goes.after ?_ (releaseOverlap_goes _ _ _ _) ?_
    | with_reducible apply Ev.Goes.after ?_ (routeEndIfDone_goes _ _ _ _) ?_

theorem routesOccupied_goes (v : Env) (b : Nat) (e : Ev) :
    Ev.Goes [.routes, .control] e (e.routesOccupied v b) := by
  unfold Ev.routesOccupied
  try dsimp only
  repeat' first
    | with_reducible apply Ev.Goes.refl
    | decide
    | with_reducible apply Ev.Goes.trans ?_ (Ev.Goes.foldl (fun _ _ => ?_) _ _)
    | split
    | with_reducible apply Ev.Goes.after ?_ (routeMeetsOccupied_goes _ _ _ _ _) ?_

theorem routesClear_goes (v : Env) (b : Nat) (e : Ev) :
    Ev.Goes [.holders, .carry, .turnouts, .routes, .claims, .control, .counters, .slots, .transmitter] e (e.routesClear v b) := by
  unfold Ev.routesClear
  try dsimp only
  repeat' first
    | with_reducible apply Ev.Goes.refl
    | decide
    | with_reducible apply Ev.Goes.trans ?_ (Ev.Goes.foldl (fun _ _ => ?_) _ _)
    | split
    | with_reducible apply Ev.Goes.after ?_ (approachCleared_goes _ _ _ _) ?_
    | with_reducible apply Ev.Goes.after ?_ (overlapCleared_goes _ _ _ _) ?_
    | with_reducible apply Ev.Goes.after ?_ (routeMeetsClear_goes _ _ _ _ _) ?_

theorem approachExpiry_goes (v : Env) (n : Nat) (e : Ev) :
    Ev.Goes [.holders, .carry, .turnouts, .routes, .claims, .control, .counters, .slots, .transmitter] e (e.approachExpiry v n) := by
  unfold Ev.approachExpiry
  try dsimp only
  repeat' first
    | with_reducible apply Ev.Goes.refl
    | decide
    | split
    | with_reducible apply Ev.Goes.after ?_ (approachEnd_goes _ _ _ _) ?_

theorem forceRelease_goes (v : Env) (n : Nat) (r : RouteCfg) (e : Ev) :
    Ev.Goes [.holders, .carry, .turnouts, .routes, .claims, .control, .counters, .slots, .transmitter] e (e.forceRelease v n r) := by
  unfold Ev.forceRelease
  try dsimp only
  repeat' first
    | with_reducible apply Ev.Goes.refl
    | decide
    | with_reducible apply Ev.Goes.trans ?_ (Ev.Goes.foldl (fun _ _ => ?_) _ _)
    | split
    | with_reducible apply Ev.Goes.after ?_ (releaseOverlap_goes _ _ _ _) ?_
    | with_reducible apply Ev.Goes.after ?_ (releasePathBlock_goes _ _ _ _ _) ?_
    | with_reducible apply Ev.Goes.after ?_ (routeEndIfDone_goes _ _ _ _) ?_
    | with_reducible apply Ev.Goes.after ?_ (setRoute_goes _ _ _) ?_

theorem reportCancelled_goes (v : Env) (src n : Nat) (dest : Option ReportTo) (e : Ev) :
    Ev.Goes [.counters, .slots, .transmitter] e (e.reportCancelled v src n dest) := by
  unfold Ev.reportCancelled
  try dsimp only
  repeat' first
    | with_reducible apply Ev.Goes.refl
    | decide
    | split
    | with_reducible apply Ev.Goes.after ?_ (report_goes _ _ _ _ _) ?_

theorem cancelRoute_goes (v : Env) (src n : Nat) (r : RouteCfg) (e : Ev) :
    Ev.Goes [.holders, .carry, .turnouts, .throws, .routes, .claims, .control, .entries, .buttons, .counters, .slots, .transmitter] e (e.cancelRoute v src n r) := by
  unfold Ev.cancelRoute
  try dsimp only
  repeat' first
    | with_reducible apply Ev.Goes.refl
    | decide
    | split
    | with_reducible apply Ev.Goes.after ?_ (callScan_goes _) ?_
    | with_reducible apply Ev.Goes.after ?_ (closeClaim_goes _ _ _ _) ?_
    | with_reducible apply Ev.Goes.after ?_ (forceRelease_goes _ _ _ _) ?_
    | with_reducible apply Ev.Goes.after ?_ (releaseHolds_goes _ _ _ _) ?_
    | with_reducible apply Ev.Goes.after ?_ (report_goes _ _ _ _ _) ?_
    | with_reducible apply Ev.Goes.after ?_ (reportCancelled_goes _ _ _ _ _) ?_
    | with_reducible apply Ev.Goes.after ?_ (routeGivenUp_goes _ _ _ _) ?_
    | with_reducible apply Ev.Goes.after ?_ (routeIdle_goes _ _ _) ?_
    | with_reducible apply Ev.Goes.after ?_ (setRoute_goes _ _ _) ?_
    | with_reducible apply Ev.Goes.after ?_ (setRouteState_goes _ _ _ _ _) ?_
    | with_reducible apply Ev.Goes.after ?_ (tellLost_goes _ _ _) ?_
    | with_reducible apply Ev.Goes.after ?_ (withdrawThrows_goes _ _ _) ?_

theorem routeCancel_goes (v : Env) (f : Frame) (e : Ev) :
    Ev.Goes [.holders, .carry, .turnouts, .throws, .routes, .claims, .control, .entries, .buttons, .counters, .slots, .transmitter] e (e.routeCancel v f) := by
  unfold Ev.routeCancel
  try dsimp only
  repeat' first
    | with_reducible apply Ev.Goes.refl
    | decide
    | split
    | with_reducible apply Ev.Goes.after ?_ (cancelRoute_goes _ _ _ _ _) ?_
    | with_reducible apply Ev.Goes.after ?_ (reportCode_goes _ _ _ _ _ _ _ _) ?_


/-! ## Turnouts -/

theorem raiseTurnout_goes (v : Env) (t : Nat) (e : Ev) :
    Ev.Goes [] e (e.raiseTurnout v t) := by
  unfold Ev.raiseTurnout
  try dsimp only
  repeat' first
    | with_reducible apply Ev.Goes.refl
    | decide
    | split
    | with_reducible apply Ev.Goes.after ?_ (raise_goes _ _ _) ?_

theorem enterFailed_goes (v : Env) (t : Nat) (k : FaultKind) (e : Ev) :
    Ev.Goes [.holders, .carry, .turnouts, .throws, .cdu, .routes, .waiting, .claims, .control, .entries, .buttons, .record, .counters, .slots, .transmitter] e (e.enterFailed v t k) := by
  unfold Ev.enterFailed
  try dsimp only
  repeat' first
    | with_reducible apply Ev.Goes.refl
    | decide
    | split
    | with_reducible apply Ev.Goes.after ?_ (arbiter_goes _ _) ?_
    | with_reducible apply Ev.Goes.after ?_ (link_addFailedTurnout_goes _ _) ?_
    | with_reducible apply Ev.Goes.after ?_ (link_add_goes _ _) ?_
    | with_reducible apply Ev.Goes.after ?_ (raiseTurnout_goes _ _ _) ?_
    | with_reducible apply Ev.Goes.after ?_ (setThrows_goes _ _) ?_
    | with_reducible apply Ev.Goes.after ?_ (setTurnout_goes _ _ _) ?_
    | with_reducible apply Ev.Goes.after ?_ (settleRequester_goes _ _ _ _) ?_
    | with_reducible apply Ev.Goes.after ?_ (turnoutChanged_goes _ _ _) ?_
    | with_reducible apply Ev.Goes.after ?_ (writeFault_goes _ _ _) ?_

theorem proofWhileQueued_goes (v : Env) (t : Nat) (e : Ev) :
    Ev.Goes [.holders, .carry, .turnouts, .throws, .routes, .waiting, .claims, .control, .entries, .buttons, .counters, .slots, .transmitter] e (e.proofWhileQueued v t) := by
  unfold Ev.proofWhileQueued
  try dsimp only
  repeat' first
    | with_reducible apply Ev.Goes.refl
    | decide
    | split
    | with_reducible apply Ev.Goes.after ?_ (setThrows_goes _ _) ?_
    | with_reducible apply Ev.Goes.after ?_ (setTurnout_goes _ _ _) ?_
    | with_reducible apply Ev.Goes.after ?_ (settleRequester_goes _ _ _ _) ?_
    | with_reducible apply Ev.Goes.after ?_ (turnoutChanged_goes _ _ _) ?_

theorem joinQueue_goes (v : Env) (t : Nat) (e : Ev) :
    Ev.Goes [.holders, .carry, .turnouts, .throws, .cdu, .routes, .waiting, .claims, .control, .entries, .buttons, .counters, .slots, .transmitter] e (e.joinQueue v t) := by
  unfold Ev.joinQueue
  try dsimp only
  repeat' first
    | with_reducible apply Ev.Goes.refl
    | decide
    | split
    | with_reducible apply Ev.Goes.after ?_ (arbiter_goes _ _) ?_
    | with_reducible apply Ev.Goes.after ?_ (proofWhileQueued_goes _ _ _) ?_
    | with_reducible apply Ev.Goes.after ?_ (setThrows_goes _ _) ?_
    | with_reducible apply Ev.Goes.after ?_ (setTurnout_goes _ _ _) ?_
    | with_reducible apply Ev.Goes.after ?_ (turnoutReaches_goes _ _ _) ?_

theorem driveEnd_goes (v : Env) (t : Nat) (proven : Bool) (e : Ev) :
    Ev.Goes [.holders, .carry, .turnouts, .throws, .cdu, .routes, .waiting, .claims, .control, .entries, .buttons, .record, .counters, .slots, .transmitter] e (e.driveEnd v t proven) := by
  unfold Ev.driveEnd
  try dsimp only
  repeat' first
    | with_reducible apply Ev.Goes.refl
    | decide
    | split
    | with_reducible apply Ev.Goes.after ?_ (arbiter_goes _ _) ?_
    | with_reducible apply Ev.Goes.after ?_ (enterFailed_goes _ _ _ _) ?_
    | with_reducible apply Ev.Goes.after ?_ (joinQueue_goes _ _ _) ?_
    | with_reducible apply Ev.Goes.after ?_ (setTurnout_goes _ _ _) ?_
    | with_reducible apply Ev.Goes.after ?_ (settleRequester_goes _ _ _ _) ?_
    | with_reducible apply Ev.Goes.after ?_ (turnoutChanged_goes _ _ _) ?_

theorem replaceRequester_goes (v : Env) (t : Nat) (source : Option Nat) (e : Ev) :
    Ev.Goes [.turnouts, .counters, .slots, .transmitter] e (e.replaceRequester v t source) := by
  unfold Ev.replaceRequester
  try dsimp only
  repeat' first
    | with_reducible apply Ev.Goes.refl
    | decide
    | split
    | with_reducible apply Ev.Goes.after ?_ (setTurnout_goes _ _ _) ?_
    | with_reducible apply Ev.Goes.after ?_ (settleRequester_goes _ _ _ _) ?_

theorem throw_goes (v : Env) (t : Nat) (p : Pos) (source : Option Nat) (e : Ev) :
    Ev.Goes [.holders, .carry, .turnouts, .throws, .cdu, .routes, .waiting, .claims, .control, .entries, .buttons, .counters, .slots, .transmitter] e (e.throw v t p source) := by
  unfold Ev.throw
  try dsimp only
  repeat' first
    | with_reducible apply Ev.Goes.refl
    | decide
    | split
    | with_reducible apply Ev.Goes.after ?_ (callScan_goes _) ?_
    | with_reducible apply Ev.Goes.after ?_ (joinQueue_goes _ _ _) ?_
    | with_reducible apply Ev.Goes.after ?_ (proofWhileQueued_goes _ _ _) ?_
    | with_reducible apply Ev.Goes.after ?_ (replaceRequester_goes _ _ _ _) ?_
    | with_reducible apply Ev.Goes.after ?_ (setThrows_goes _ _) ?_
    | with_reducible apply Ev.Goes.after ?_ (setTurnout_goes _ _ _) ?_

theorem settleAt_goes (v : Env) (t : Nat) (p : Pos) (e : Ev) :
    Ev.Goes [.holders, .carry, .turnouts, .throws, .routes, .waiting, .claims, .control, .entries, .buttons, .counters, .slots, .transmitter] e (e.settleAt v t p) := by
  unfold Ev.settleAt
  try dsimp only
  repeat' first
    | with_reducible apply Ev.Goes.refl
    | decide
    | split
    | with_reducible apply Ev.Goes.after ?_ (callScan_goes _) ?_
    | with_reducible apply Ev.Goes.after ?_ (setTurnout_goes _ _ _) ?_
    | with_reducible apply Ev.Goes.after ?_ (turnoutChanged_goes _ _ _) ?_

theorem feedbackWhileMoving_goes (v : Env) (t : Nat) (p : Option Pos) (e : Ev) :
    Ev.Goes [.holders, .carry, .turnouts, .throws, .cdu, .routes, .waiting, .claims, .control, .entries, .buttons, .record, .counters, .slots, .transmitter] e (e.feedbackWhileMoving v t p) := by
  unfold Ev.feedbackWhileMoving
  try dsimp only
  repeat' first
    | with_reducible apply Ev.Goes.refl
    | decide
    | split
    | with_reducible apply Ev.Goes.after ?_ (driveEnd_goes _ _ _ _) ?_

theorem feedbackReaction_goes (v : Env) (t : Nat) (p : Option Pos) (e : Ev) :
    Ev.Goes [.holders, .carry, .turnouts, .throws, .cdu, .routes, .waiting, .claims, .control, .entries, .buttons, .record, .counters, .slots, .transmitter] e (e.feedbackReaction v t p) := by
  unfold Ev.feedbackReaction
  try dsimp only
  repeat' first
    | with_reducible apply Ev.Goes.refl
    | decide
    | split
    | with_reducible apply Ev.Goes.after ?_ (enterFailed_goes _ _ _ _) ?_
    | with_reducible apply Ev.Goes.after ?_ (feedbackWhileMoving_goes _ _ _ _) ?_
    | with_reducible apply Ev.Goes.after ?_ (proofWhileQueued_goes _ _ _) ?_
    | with_reducible apply Ev.Goes.after ?_ (setTurnout_goes _ _ _) ?_
    | with_reducible apply Ev.Goes.after ?_ (settleAt_goes _ _ _ _) ?_
    | with_reducible apply Ev.Goes.after ?_ (turnoutChanged_goes _ _ _) ?_

theorem feedbackChange_goes (v : Env) (t : Nat) (normal reverse : Bool) (e : Ev) :
    Ev.Goes [.holders, .carry, .turnouts, .throws, .cdu, .routes, .waiting, .claims, .control, .entries, .buttons, .record, .counters, .slots, .transmitter] e (e.feedbackChange v t normal reverse) := by
  unfold Ev.feedbackChange
  try dsimp only
  repeat' first
    | with_reducible apply Ev.Goes.refl
    | decide
    | split
    | with_reducible apply Ev.Goes.after ?_ (enterFailed_goes _ _ _ _) ?_
    | with_reducible apply Ev.Goes.after ?_ (feedbackReaction_goes _ _ _ _) ?_
    | with_reducible apply Ev.Goes.after ?_ (setTurnout_goes _ _ _) ?_

theorem contactInput_goes (v : Env) (t : Nat) (c : Contact) (level : Bool) (e : Ev) :
    Ev.Goes [.turnouts] e (e.contactInput v t c level) := by
  unfold Ev.contactInput
  try dsimp only
  repeat' first
    | with_reducible apply Ev.Goes.refl
    | decide
    | split
    | with_reducible apply Ev.Goes.after ?_ (setTurnout_goes _ _ _) ?_

theorem judgePulse_goes (v : Env) (t : Nat) (e : Ev) :
    Ev.Goes [.holders, .carry, .turnouts, .throws, .cdu, .routes, .waiting, .claims, .control, .entries, .buttons, .record, .counters, .slots, .transmitter] e (e.judgePulse v t) := by
  unfold Ev.judgePulse
  try dsimp only
  repeat' first
    | with_reducible apply Ev.Goes.refl
    | decide
    | split
    | with_reducible apply Ev.Goes.after ?_ (driveEnd_goes _ _ _ _) ?_
    | with_reducible apply Ev.Goes.after ?_ (setTurnout_goes _ _ _) ?_

theorem pulseEnd_goes (v : Env) (e : Ev) :
    Ev.Goes [.holders, .carry, .turnouts, .throws, .cdu, .routes, .waiting, .claims, .control, .entries, .buttons, .record, .counters, .slots, .transmitter] e (e.pulseEnd v) := by
  unfold Ev.pulseEnd
  try dsimp only
  repeat' first
    | with_reducible apply Ev.Goes.refl
    | decide
    | split
    | with_reducible apply Ev.Goes.after ?_ (judgePulse_goes _ _ _) ?_
    | with_reducible apply Ev.Goes.after ?_ (setCdu_goes _ _) ?_

theorem rechargeExpiry_goes (v : Env) (e : Ev) :
    Ev.Goes [.turnouts, .throws, .cdu] e (e.rechargeExpiry v) := by
  unfold Ev.rechargeExpiry
  try dsimp only
  repeat' first
    | with_reducible apply Ev.Goes.refl
    | decide
    | split
    | with_reducible apply Ev.Goes.after ?_ (arbiter_goes _ _) ?_
    | with_reducible apply Ev.Goes.after ?_ (setCdu_goes _ _) ?_

theorem windowExpiry_goes (v : Env) (t : Nat) (e : Ev) :
    Ev.Goes [.holders, .carry, .turnouts, .throws, .cdu, .routes, .waiting, .claims, .control, .entries, .buttons, .record, .counters, .slots, .transmitter] e (e.windowExpiry v t) := by
  unfold Ev.windowExpiry
  try dsimp only
  repeat' first
    | with_reducible apply Ev.Goes.refl
    | decide
    | split
    | with_reducible apply Ev.Goes.after ?_ (driveEnd_goes _ _ _ _) ?_

theorem motorExpiry_goes (v : Env) (t : Nat) (e : Ev) :
    Ev.Goes [.holders, .carry, .turnouts, .throws, .cdu, .routes, .waiting, .claims, .control, .entries, .buttons, .record, .counters, .slots, .transmitter] e (e.motorExpiry v t) := by
  unfold Ev.motorExpiry
  try dsimp only
  repeat' first
    | with_reducible apply Ev.Goes.refl
    | decide
    | split
    | with_reducible apply Ev.Goes.after ?_ (driveEnd_goes _ _ _ _) ?_
    | with_reducible apply Ev.Goes.after ?_ (setTurnout_goes _ _ _) ?_

theorem turnoutRequest_goes (v : Env) (f : Frame) (e : Ev) :
    Ev.Goes [.holders, .carry, .turnouts, .throws, .cdu, .routes, .waiting, .claims, .control, .entries, .buttons, .counters, .slots, .transmitter] e (e.turnoutRequest v f) := by
  unfold Ev.turnoutRequest
  try dsimp only
  repeat' first
    | with_reducible apply Ev.Goes.refl
    | decide
    | split
    | with_reducible apply Ev.Goes.after ?_ (answer_goes _ _ _ _ _ _) ?_
    | with_reducible apply Ev.Goes.after ?_ (throw_goes _ _ _ _ _) ?_


/-! ## Watches -/

theorem possessionEnds_goes (w : Option Watch) (e : Ev) :
    Ev.Goes [] e (e.possessionEnds w) := by
  unfold Ev.possessionEnds
  try dsimp only
  repeat' first
    | with_reducible apply Ev.Goes.refl
    | decide
    | split
    | with_reducible apply Ev.Goes.after ?_ (callExamine_goes _) ?_
    | with_reducible apply Ev.Goes.after ?_ (callScan_goes _) ?_

theorem watchSet_goes (v : Env) (f : Frame) (e : Ev) :
    Ev.Goes [.watches, .counters, .slots, .transmitter] e (e.watchSet v f) := by
  have k : ∀ w, Ev.Goes [.watches, .counters, .slots, .transmitter] e
      (((e.possessionEnds (e.u.watch (payloadAt f.payload 0))).setWatch (payloadAt f.payload 0) w).answer v f.src
        .watchSet (payloadAt f.payload 0) .done) := fun w =>
    (((possessionEnds_goes _ e).mono (by decide)).after (setWatch_goes _ _ _) (by decide)).after
      (answer_goes _ _ _ _ _ _) (by decide)
  unfold Ev.watchSet
  dsimp only
  split
  · exact (answer_goes _ _ _ _ _ _).mono (by decide)
  · split
    · exact k _
    · exact k _

theorem watchClear_goes (v : Env) (f : Frame) (e : Ev) :
    Ev.Goes [.watches, .counters, .slots, .transmitter] e (e.watchClear v f) := by
  unfold Ev.watchClear
  try dsimp only
  repeat' first
    | with_reducible apply Ev.Goes.refl
    | decide
    | split
    | with_reducible apply Ev.Goes.after ?_ (answer_goes _ _ _ _ _ _) ?_
    | with_reducible apply Ev.Goes.after ?_ (possessionEnds_goes _ _) ?_
    | with_reducible apply Ev.Goes.after ?_ (setWatch_goes _ _ _) ?_

theorem testPossessions_goes (e : Ev) :
    Ev.Goes [.watches] e (e.testPossessions) := by
  unfold Ev.testPossessions
  try dsimp only
  repeat' first
    | with_reducible apply Ev.Goes.refl
    | decide
    | with_reducible apply Ev.Goes.trans ?_ (Ev.Goes.foldl (fun _ _ => ?_) _ _)
    | split
    | with_reducible apply Ev.Goes.after ?_ (setWatch_goes _ _ _) ?_
    | with_reducible apply Ev.Goes.after ?_ (granted_goes _ _) ?_

theorem notice_goes (v : Env) (n : Nat) (w : Watch) (bits : Byte) (b : Nat) (e : Ev) :
    Ev.Goes [.counters, .slots, .transmitter] e (e.notice v n w bits b) := by
  unfold Ev.notice
  try dsimp only
  repeat' first
    | with_reducible apply Ev.Goes.refl
    | decide
    | split
    | with_reducible apply Ev.Goes.after ?_ (send_goes _ _ _ _ _) ?_

theorem noticesOf_goes (v : Env) (n : Nat) (e : Ev) :
    Ev.Goes [.counters, .slots, .transmitter] e (e.noticesOf v n) := by
  unfold Ev.noticesOf
  try dsimp only
  repeat' first
    | with_reducible apply Ev.Goes.refl
    | decide
    | with_reducible apply Ev.Goes.trans ?_ (Ev.Goes.foldl (fun _ _ => ?_) _ _)
    | split
    | with_reducible apply Ev.Goes.after ?_ (notice_goes _ _ _ _ _ _) ?_

theorem notices_goes (v : Env) (e : Ev) :
    Ev.Goes [.counters, .slots, .transmitter] e (e.notices v) := by
  unfold Ev.notices
  try dsimp only
  repeat' first
    | with_reducible apply Ev.Goes.refl
    | decide
    | with_reducible apply Ev.Goes.trans ?_ (Ev.Goes.foldl (fun _ _ => ?_) _ _)
    | split
    | with_reducible apply Ev.Goes.after ?_ (noticesOf_goes _ _ _) ?_


/-! ## Acceptance -/

theorem throwForRoute_goes (v : Env) (x : Nat × Pos) (e : Ev) :
    Ev.Goes [.holders, .carry, .turnouts, .throws, .cdu, .routes, .waiting, .claims, .control, .entries, .buttons, .counters, .slots, .transmitter] e (e.throwForRoute v x) := by
  unfold Ev.throwForRoute
  try dsimp only
  repeat' first
    | with_reducible apply Ev.Goes.refl
    | decide
    | split
    | with_reducible apply Ev.Goes.after ?_ (throw_goes _ _ _ _ _) ?_

theorem takeHolds_goes (v : Env) (n : Nat) (r : RouteCfg) (e : Ev) :
    Ev.Goes [.holders, .carry, .turnouts, .throws, .cdu, .routes, .waiting, .claims, .control, .entries, .buttons, .counters, .slots, .transmitter] e (e.takeHolds v n r) := by
  unfold Ev.takeHolds
  try dsimp only
  repeat' first
    | with_reducible apply Ev.Goes.refl
    | decide
    | with_reducible apply Ev.Goes.trans ?_ (Ev.Goes.foldl (fun _ _ => ?_) _ _)
    | split
    | with_reducible apply Ev.Goes.after ?_ (holdFlank_goes _ _) ?_
    | with_reducible apply Ev.Goes.after ?_ (holdPath_goes _ _ _) ?_
    | with_reducible apply Ev.Goes.after ?_ (setHolders_goes _ _ _ _) ?_
    | with_reducible apply Ev.Goes.after ?_ (throwForRoute_goes _ _ _) ?_

theorem accept_goes (v : Env) (n : Nat) (r : RouteCfg) (dest : ReportTo) (a : Option Request) (e : Ev) :
    Ev.Goes [.holders, .carry, .turnouts, .throws, .cdu, .routes, .waiting, .claims, .control, .entries, .buttons, .counters, .slots, .transmitter] e (e.accept v n r dest a) := by
  unfold Ev.accept
  try dsimp only
  repeat' first
    | with_reducible apply Ev.Goes.refl
    | decide
    | split
    | with_reducible apply Ev.Goes.after ?_ (openClaim_goes _ _ _ _ _ _) ?_
    | with_reducible apply Ev.Goes.after ?_ (report_goes _ _ _ _ _) ?_
    | with_reducible apply Ev.Goes.after ?_ (routeThrowing_goes _ _ _ _) ?_
    | with_reducible apply Ev.Goes.after ?_ (setEvaluated_goes _ _ _) ?_
    | with_reducible apply Ev.Goes.after ?_ (setRoute_goes _ _ _) ?_
    | with_reducible apply Ev.Goes.after ?_ (setRouteState_goes _ _ _ _ _) ?_
    | with_reducible apply Ev.Goes.after ?_ (takeHolds_goes _ _ _ _) ?_

theorem routeRequest_goes (v : Env) (f : Frame) (e : Ev) :
    Ev.Goes [.holders, .carry, .turnouts, .throws, .cdu, .routes, .waiting, .claims, .control, .entries, .buttons, .counters, .slots, .transmitter] e (e.routeRequest v f) := by
  unfold Ev.routeRequest
  try dsimp only
  repeat' first
    | with_reducible apply Ev.Goes.refl
    | decide
    | split
    | with_reducible apply Ev.Goes.after ?_ (accept_goes _ _ _ _ _ _) ?_
    | with_reducible apply Ev.Goes.after ?_ (reportCode_goes _ _ _ _ _ _ _ _) ?_

theorem tryRequest_goes (v : Env) (q : Request) (e : Ev) :
    Ev.Goes [.holders, .carry, .turnouts, .throws, .cdu, .routes, .waiting, .claims, .control, .entries, .buttons, .counters, .slots, .transmitter] e (e.tryRequest v q) := by
  unfold Ev.tryRequest
  try dsimp only
  repeat' first
    | with_reducible apply Ev.Goes.refl
    | decide
    | split
    | with_reducible apply Ev.Goes.after ?_ (accept_goes _ _ _ _ _ _) ?_
    | with_reducible apply Ev.Goes.after ?_ (setWaiting_goes _ _) ?_

theorem scanList_goes (v : Env) (e : Ev) :
    Ev.Goes [.holders, .carry, .turnouts, .throws, .cdu, .routes, .waiting, .claims, .control, .entries, .buttons, .counters, .slots, .transmitter] e (e.scanList v) := by
  unfold Ev.scanList
  try dsimp only
  repeat' first
    | with_reducible apply Ev.Goes.refl
    | decide
    | with_reducible apply Ev.Goes.trans ?_ (Ev.Goes.foldl (fun _ _ => ?_) _ _)
    | split
    | with_reducible apply Ev.Goes.after ?_ (tryRequest_goes _ _ _) ?_


/-! ## Claims -/

theorem claimGrant_goes (v : Env) (f : Frame) (e : Ev) :
    Ev.Goes [.routes, .claims, .control, .entries, .buttons, .counters, .slots, .transmitter] e (e.claimGrant v f) := by
  unfold Ev.claimGrant
  try dsimp only
  repeat' first
    | with_reducible apply Ev.Goes.refl
    | decide
    | split
    | with_reducible apply Ev.Goes.after ?_ (releaseClaim_goes _ _ _ _) ?_
    | with_reducible apply Ev.Goes.after ?_ (routeThrowing_goes _ _ _ _) ?_
    | with_reducible apply Ev.Goes.after ?_ (setClaimState_goes _ _ _ _) ?_

theorem claimLost_goes (v : Env) (n : Nat) (e : Ev) :
    Ev.Goes [.claims, .slots] e (e.claimLost v n) := by
  unfold Ev.claimLost
  try dsimp only
  repeat' first
    | with_reducible apply Ev.Goes.refl
    | decide
    | split
    | with_reducible apply Ev.Goes.after ?_ (link_addLostClaim_goes _ _) ?_
    | with_reducible apply Ev.Goes.after ?_ (link_add_goes _ _) ?_
    | with_reducible apply Ev.Goes.after ?_ (setClaimState_goes _ _ _ _) ?_

theorem claimRefuse_goes (v : Env) (f : Frame) (e : Ev) :
    Ev.Goes [.holders, .carry, .turnouts, .throws, .routes, .waiting, .claims, .control, .entries, .buttons, .counters, .slots, .transmitter] e (e.claimRefuse v f) := by
  unfold Ev.claimRefuse
  try dsimp only
  repeat' first
    | with_reducible apply Ev.Goes.refl
    | decide
    | split
    | with_reducible apply Ev.Goes.after ?_ (claimLost_goes _ _ _) ?_
    | with_reducible apply Ev.Goes.after ?_ (routeFail_goes _ _ _ _ _ _ _) ?_
    | with_reducible apply Ev.Goes.after ?_ (setClaimState_goes _ _ _ _) ?_

theorem answerTimeout_goes (v : Env) (n : Nat) (e : Ev) :
    Ev.Goes [.holders, .carry, .turnouts, .throws, .routes, .waiting, .claims, .control, .entries, .buttons, .counters, .slots, .transmitter] e (e.answerTimeout v n) := by
  unfold Ev.answerTimeout
  try dsimp only
  repeat' first
    | with_reducible apply Ev.Goes.refl
    | decide
    | split
    | with_reducible apply Ev.Goes.after ?_ (claimLost_goes _ _ _) ?_
    | with_reducible apply Ev.Goes.after ?_ (releaseClaim_goes _ _ _ _) ?_
    | with_reducible apply Ev.Goes.after ?_ (routeFail_goes _ _ _ _ _ _ _) ?_
    | with_reducible apply Ev.Goes.after ?_ (setClaimState_goes _ _ _ _) ?_

theorem ownerWaitExpiry_goes (v : Env) (n : Nat) (e : Ev) :
    Ev.Goes [.claims, .slots] e (e.ownerWaitExpiry v n) := by
  unfold Ev.ownerWaitExpiry
  try dsimp only
  repeat' first
    | with_reducible apply Ev.Goes.refl
    | decide
    | split
    | with_reducible apply Ev.Goes.after ?_ (claimLost_goes _ _ _) ?_

theorem ownerAnnounced_goes (v : Env) (n : Nat) (r : RouteCfg) (p : ForeignPart) (e : Ev) :
    Ev.Goes [.holders, .carry, .turnouts, .throws, .routes, .waiting, .claims, .control, .entries, .buttons, .counters, .slots, .transmitter] e (e.ownerAnnounced v n r p) := by
  unfold Ev.ownerAnnounced
  try dsimp only
  repeat' first
    | with_reducible apply Ev.Goes.refl
    | decide
    | split
    | with_reducible apply Ev.Goes.after ?_ (releaseClaim_goes _ _ _ _) ?_
    | with_reducible apply Ev.Goes.after ?_ (routeFail_goes _ _ _ _ _ _ _) ?_
    | with_reducible apply Ev.Goes.after ?_ (setClaimState_goes _ _ _ _) ?_

theorem announcedOwner_goes (v : Env) (s : Nat) (e : Ev) :
    Ev.Goes [.holders, .carry, .turnouts, .throws, .routes, .waiting, .claims, .control, .entries, .buttons, .counters, .slots, .transmitter] e (e.announcedOwner v s) := by
  unfold Ev.announcedOwner
  try dsimp only
  repeat' first
    | with_reducible apply Ev.Goes.refl
    | decide
    | with_reducible apply Ev.Goes.trans ?_ (Ev.Goes.foldl (fun _ _ => ?_) _ _)
    | split
    | with_reducible apply Ev.Goes.after ?_ (ownerAnnounced_goes _ _ _ _ _) ?_

theorem reclaim_goes (v : Env) (s : Nat) (e : Ev) :
    Ev.Goes [.claims, .counters, .slots, .transmitter] e (e.reclaim v s) := by
  unfold Ev.reclaim
  try dsimp only
  repeat' first
    | with_reducible apply Ev.Goes.refl
    | decide
    | with_reducible apply Ev.Goes.trans ?_ (Ev.Goes.foldl (fun _ _ => ?_) _ _)
    | split
    | with_reducible apply Ev.Goes.after ?_ (openClaim_goes _ _ _ _ _ _) ?_

theorem freeArrival_goes (v : Env) (s : Nat) (bs : List Nat) (e : Ev) :
    Ev.Goes [.holders, .carry] e (e.freeArrival v s bs) := by
  unfold Ev.freeArrival
  try dsimp only
  repeat' first
    | with_reducible apply Ev.Goes.refl
    | decide
    | with_reducible apply Ev.Goes.trans ?_ (Ev.Goes.foldl (fun _ _ => ?_) _ _)
    | split
    | with_reducible apply Ev.Goes.after ?_ (setHolder_goes _ _ _ _) ?_

theorem receptionLost_goes (v : Env) (e : Ev) :
    Ev.Goes [.holders, .carry, .reception] e (e.receptionLost v) := by
  unfold Ev.receptionLost
  try dsimp only
  repeat' first
    | with_reducible apply Ev.Goes.refl
    | decide
    | split
    | with_reducible apply Ev.Goes.after ?_ (freeArrival_goes _ _ _ _) ?_
    | with_reducible apply Ev.Goes.after ?_ (reception_goes _ _) ?_

theorem blockListReceived_goes (v : Env) (bytes : List Byte) (e : Ev) :
    Ev.Goes [.holders, .carry, .reception] e (e.blockListReceived v bytes) := by
  unfold Ev.blockListReceived
  try dsimp only
  repeat' first
    | with_reducible apply Ev.Goes.refl
    | decide
    | split
    | with_reducible apply Ev.Goes.after ?_ (receptionLost_goes _ _) ?_
    | with_reducible apply Ev.Goes.after ?_ (setHolders_goes _ _ _ _) ?_
    | with_reducible apply Ev.Goes.after ?_ (reception_goes _ _) ?_

theorem claimAnswer_goes (v : Env) (dest tag result code block : Nat) (e : Ev) :
    Ev.Goes [.counters, .slots, .transmitter] e (e.claimAnswer v dest tag result code block) := by
  unfold Ev.claimAnswer
  try dsimp only
  repeat' first
    | with_reducible apply Ev.Goes.refl
    | decide
    | split
    | with_reducible apply Ev.Goes.after ?_ (send_goes _ _ _ _ _) ?_

theorem claimRequest_goes (v : Env) (f : Frame) (held : List Nat) (e : Ev) :
    Ev.Goes [.holders, .carry, .claimTable, .counters, .slots, .transmitter] e (e.claimRequest v f held) := by
  unfold Ev.claimRequest
  try dsimp only
  repeat' first
    | with_reducible apply Ev.Goes.refl
    | decide
    | split
    | with_reducible apply Ev.Goes.after ?_ (claimAnswer_goes _ _ _ _ _ _ _) ?_
    | with_reducible apply Ev.Goes.after ?_ (freeArrival_goes _ _ _ _) ?_
    | with_reducible apply Ev.Goes.after ?_ (setHolders_goes _ _ _ _) ?_
    | with_reducible apply Ev.Goes.after ?_ (setTable_goes _ _) ?_

theorem freeOfClaim_goes (v : Env) (x : ClaimRecord) (b : Nat) (e : Ev) :
    Ev.Goes [.holders, .carry] e (e.freeOfClaim v x b) := by
  unfold Ev.freeOfClaim
  try dsimp only
  repeat' first
    | with_reducible apply Ev.Goes.refl
    | decide
    | split
    | with_reducible apply Ev.Goes.after ?_ (setHolder_goes _ _ _ _) ?_

theorem claimsOccupied_goes (b : Nat) (e : Ev) :
    Ev.Goes [.claimTable] e (e.claimsOccupied b) := by
  unfold Ev.claimsOccupied
  try dsimp only
  repeat' first
    | with_reducible apply Ev.Goes.refl
    | decide
    | split
    | with_reducible apply Ev.Goes.after ?_ (setTable_goes _ _) ?_

theorem claimsClear_goes (v : Env) (b : Nat) (e : Ev) :
    Ev.Goes [.holders, .carry, .claimTable] e (e.claimsClear v b) := by
  unfold Ev.claimsClear
  try dsimp only
  repeat' first
    | with_reducible apply Ev.Goes.refl
    | decide
    | with_reducible apply Ev.Goes.trans ?_ (Ev.Goes.foldl (fun _ _ => ?_) _ _)
    | split
    | with_reducible apply Ev.Goes.after ?_ (freeOfClaim_goes _ _ _ _) ?_
    | with_reducible apply Ev.Goes.after ?_ (setTable_goes _ _) ?_

theorem claimRelease_goes (v : Env) (f : Frame) (e : Ev) :
    Ev.Goes [.holders, .carry, .claimTable] e (e.claimRelease v f) := by
  unfold Ev.claimRelease
  try dsimp only
  repeat' first
    | with_reducible apply Ev.Goes.refl
    | decide
    | with_reducible apply Ev.Goes.trans ?_ (Ev.Goes.foldl (fun _ _ => ?_) _ _)
    | split
    | with_reducible apply Ev.Goes.after ?_ (freeOfClaim_goes _ _ _ _) ?_
    | with_reducible apply Ev.Goes.after ?_ (setTable_goes _ _) ?_

theorem dropClaims_goes (v : Env) (s : Nat) (e : Ev) :
    Ev.Goes [.holders, .carry, .claimTable] e (e.dropClaims v s) := by
  unfold Ev.dropClaims
  try dsimp only
  repeat' first
    | with_reducible apply Ev.Goes.refl
    | decide
    | with_reducible apply Ev.Goes.trans ?_ (Ev.Goes.foldl (fun _ _ => ?_) _ _)
    | split
    | with_reducible apply Ev.Goes.after ?_ (freeOfClaim_goes _ _ _ _) ?_
    | with_reducible apply Ev.Goes.after ?_ (setTable_goes _ _) ?_

theorem claimPurge_goes (v : Env) (f : Frame) (e : Ev) :
    Ev.Goes [.holders, .carry, .claimTable, .counters, .slots, .transmitter] e (e.claimPurge v f) := by
  unfold Ev.claimPurge
  try dsimp only
  repeat' first
    | with_reducible apply Ev.Goes.refl
    | decide
    | split
    | with_reducible apply Ev.Goes.after ?_ (answer_goes _ _ _ _ _ _) ?_
    | with_reducible apply Ev.Goes.after ?_ (dropClaims_goes _ _ _) ?_

end Sys2Proof.Machine
end

