-- ==== Sys2Proof/Laws/Movement.lean ====
section
/-! SUPPORT. What each operation may change: the turntable, the clock, the board and the mirrors. One lemma per operation of
`Machine/Turntable.lean`, `Machine/Clock.lean`, `Machine/Board.lean`, `Machine/Mirrors.lean`. -/

namespace Sys2Proof.Machine

/-! ## Turntable -/

theorem setPhase_goes (v : Env) (p : Phase) (e : Ev) :
    Ev.Goes [.table, .ready] e (e.setPhase v p) := by
  unfold Ev.setPhase
  try dsimp only
  repeat' first
    | with_reducible apply Ev.Goes.refl
    | decide
    | split
    | with_reducible apply Ev.Goes.after ?_ (callCompose_goes _) ?_
    | with_reducible apply Ev.Goes.after ?_ (callExamine_goes _) ?_
    | with_reducible apply Ev.Goes.after ?_ (callScan_goes _) ?_
    | with_reducible apply Ev.Goes.after ?_ (keepReady_goes _ _) ?_
    | with_reducible apply Ev.Goes.after ?_ (ttc_goes _ _) ?_

theorem setMoves_goes (v : Env) (f : List MoveRequest → List MoveRequest) (e : Ev) :
    Ev.Goes [.table, .ready] e (e.setMoves v f) := by
  unfold Ev.setMoves
  try dsimp only
  repeat' first
    | with_reducible apply Ev.Goes.refl
    | decide
    | split
    | with_reducible apply Ev.Goes.after ?_ (callExamine_goes _) ?_
    | with_reducible apply Ev.Goes.after ?_ (keepReady_goes _ _) ?_
    | with_reducible apply Ev.Goes.after ?_ (ttc_goes _ _) ?_

theorem tellMove_goes (v : Env) (s : MoveSource) (o : MoveOutcome) (e : Ev) :
    Ev.Goes [.buttons, .counters, .slots, .transmitter] e (e.tellMove v s o) := by
  unfold Ev.tellMove
  try dsimp only
  repeat' first
    | with_reducible apply Ev.Goes.refl
    | decide
    | split
    | with_reducible apply Ev.Goes.after ?_ (endBusy_goes _ _ _) ?_
    | with_reducible apply Ev.Goes.after ?_ (send_goes _ _ _ _ _) ?_

theorem unhome_goes (e : Ev) :
    Ev.Goes [.table, .free] e (e.unhome) := by
  unfold Ev.unhome
  try dsimp only
  repeat' first
    | with_reducible apply Ev.Goes.refl
    | decide
    | split
    | with_reducible apply Ev.Goes.after ?_ (drawn_goes _) ?_
    | with_reducible apply Ev.Goes.after ?_ (ttc_goes _ _) ?_

theorem tableFault_goes (v : Env) (g : TurntableCfg) (k : FaultKind) (e : Ev) :
    Ev.Goes [.holders, .carry, .table, .buttons, .ready, .record, .free, .counters, .slots, .transmitter] e (e.tableFault v g k) := by
  unfold Ev.tableFault
  try dsimp only
  repeat' first
    | with_reducible apply Ev.Goes.refl
    | decide
    | with_reducible apply Ev.Goes.trans ?_ (Ev.Goes.foldl (fun _ _ => ?_) _ _)
    | split
    | with_reducible apply Ev.Goes.after ?_ (link_setTurntableFault_goes _ _) ?_
    | with_reducible apply Ev.Goes.after ?_ (setHolder_goes _ _ _ _) ?_
    | with_reducible apply Ev.Goes.after ?_ (setMoves_goes _ _ _) ?_
    | with_reducible apply Ev.Goes.after ?_ (setPhase_goes _ _ _) ?_
    | with_reducible apply Ev.Goes.after ?_ (tellMove_goes _ _ _ _) ?_
    | with_reducible apply Ev.Goes.after ?_ (ttc_goes _ _) ?_
    | with_reducible apply Ev.Goes.after ?_ (unhome_goes _) ?_
    | with_reducible apply Ev.Goes.after ?_ (writeFault_goes _ _ _) ?_

theorem abortEnd_goes (v : Env) (g : TurntableCfg) (m : Move) (e : Ev) :
    Ev.Goes [.holders, .carry, .table, .buttons, .ready, .record, .free, .counters, .slots, .transmitter] e (e.abortEnd v g m) := by
  unfold Ev.abortEnd
  try dsimp only
  repeat' first
    | with_reducible apply Ev.Goes.refl
    | decide
    | split
    | with_reducible apply Ev.Goes.after ?_ (setPhase_goes _ _ _) ?_
    | with_reducible apply Ev.Goes.after ?_ (tableFault_goes _ _ _ _) ?_
    | with_reducible apply Ev.Goes.after ?_ (tellMove_goes _ _ _ _) ?_
    | with_reducible apply Ev.Goes.after ?_ (ttc_goes _ _) ?_

theorem lastRunEnds_goes (v : Env) (g : TurntableCfg) (m : Move) (e : Ev) :
    Ev.Goes [.table, .ready] e (e.lastRunEnds v g m) := by
  unfold Ev.lastRunEnds
  try dsimp only
  repeat' first
    | with_reducible apply Ev.Goes.refl
    | decide
    | split
    | with_reducible apply Ev.Goes.after ?_ (setPhase_goes _ _ _) ?_
    | with_reducible apply Ev.Goes.after ?_ (ttc_goes _ _) ?_

theorem beginRun_goes (v : Env) (m : Move) (turn : Turn) (len : Nat) (p : Phase) (e : Ev) :
    Ev.Goes [.table, .ready] e (e.beginRun v m turn len p) := by
  unfold Ev.beginRun
  try dsimp only
  repeat' first
    | with_reducible apply Ev.Goes.refl
    | decide
    | split
    | with_reducible apply Ev.Goes.after ?_ (setPhase_goes _ _ _) ?_
    | with_reducible apply Ev.Goes.after ?_ (ttc_goes _ _) ?_

theorem beginPlan_goes (v : Env) (g : TurntableCfg) (m : Move) (e : Ev) :
    Ev.Goes [.table, .ready] e (e.beginPlan v g m) := by
  unfold Ev.beginPlan
  try dsimp only
  repeat' first
    | with_reducible apply Ev.Goes.refl
    | decide
    | split
    | with_reducible apply Ev.Goes.after ?_ (beginRun_goes _ _ _ _ _ _) ?_
    | with_reducible apply Ev.Goes.after ?_ (lastRunEnds_goes _ _ _ _) ?_

theorem unlocked_goes (v : Env) (g : TurntableCfg) (e : Ev) :
    Ev.Goes [.table, .ready] e (e.unlocked v g) := by
  unfold Ev.unlocked
  try dsimp only
  repeat' first
    | with_reducible apply Ev.Goes.refl
    | decide
    | split
    | with_reducible apply Ev.Goes.after ?_ (beginPlan_goes _ _ _ _) ?_
    | with_reducible apply Ev.Goes.after ?_ (setPhase_goes _ _ _) ?_
    | with_reducible apply Ev.Goes.after ?_ (ttc_goes _ _) ?_

theorem startMove_goes (v : Env) (g : TurntableCfg) (s : MoveSource) (r : Nat) (side : BridgeEnd) (e : Ev) :
    Ev.Goes [.holders, .carry, .watches, .table, .ready] e (e.startMove v g s r side) := by
  unfold Ev.startMove
  try dsimp only
  repeat' first
    | with_reducible apply Ev.Goes.refl
    | decide
    | split
    | with_reducible apply Ev.Goes.after ?_ (setHolder_goes _ _ _ _) ?_
    | with_reducible apply Ev.Goes.after ?_ (setPhase_goes _ _ _) ?_
    | with_reducible apply Ev.Goes.after ?_ (stepBack_goes _ _) ?_
    | with_reducible apply Ev.Goes.after ?_ (ttc_goes _ _) ?_
    | with_reducible apply Ev.Goes.after ?_ (unlocked_goes _ _ _) ?_

theorem examineMoves_goes (v : Env) (g : TurntableCfg) (k : Nat) (e : Ev) :
    Ev.Goes [.holders, .carry, .watches, .table, .buttons, .ready, .counters, .slots, .transmitter] e (Ev.examineMoves v g k e) := by
  induction k generalizing e with
  | zero => exact .refl _ _
  | succ k ih =>
    unfold Ev.examineMoves
    dsimp only
    repeat' first
      | with_reducible apply Ev.Goes.refl
      | split
      | with_reducible apply Ev.Goes.trans ?_ (ih _)
      | with_reducible apply Ev.Goes.after ?_ (tellMove_goes _ _ _ _) ?_
      | with_reducible apply Ev.Goes.after ?_ (setMoves_goes _ _ _) ?_
      | with_reducible apply Ev.Goes.after ?_ (startMove_goes _ _ _ _ _ _) ?_
      | decide

theorem examineTable_goes (v : Env) (e : Ev) :
    Ev.Goes [.holders, .carry, .watches, .table, .buttons, .ready, .counters, .slots, .transmitter] e (e.examineTable v) := by
  unfold Ev.examineTable
  try dsimp only
  repeat' first
    | with_reducible apply Ev.Goes.refl
    | decide
    | split
    | with_reducible apply Ev.Goes.after ?_ (examineMoves_goes _ _ _ _) ?_

theorem completeMove_goes (v : Env) (g : TurntableCfg) (e : Ev) :
    Ev.Goes [.occupancy, .holders, .carry, .table, .buttons, .ready, .counters, .marks, .slots, .transmitter] e (e.completeMove v g) := by
  unfold Ev.completeMove
  try dsimp only
  repeat' first
    | with_reducible apply Ev.Goes.refl
    | decide
    | split
    | with_reducible apply Ev.Goes.after ?_ (callExamine_goes _) ?_
    | with_reducible apply Ev.Goes.after ?_ (reverseDeck_goes _ _ _) ?_
    | with_reducible apply Ev.Goes.after ?_ (setHolder_goes _ _ _ _) ?_
    | with_reducible apply Ev.Goes.after ?_ (setPhase_goes _ _ _) ?_
    | with_reducible apply Ev.Goes.after ?_ (tellMove_goes _ _ _ _) ?_
    | with_reducible apply Ev.Goes.after ?_ (ttc_goes _ _) ?_

theorem confirmEngaged_goes (v : Env) (g : TurntableCfg) (e : Ev) :
    Ev.Goes [.occupancy, .holders, .carry, .table, .buttons, .ready, .counters, .marks, .slots, .transmitter] e (e.confirmEngaged v g) := by
  unfold Ev.confirmEngaged
  try dsimp only
  repeat' first
    | with_reducible apply Ev.Goes.refl
    | decide
    | split
    | with_reducible apply Ev.Goes.after ?_ (completeMove_goes _ _ _) ?_
    | with_reducible apply Ev.Goes.after ?_ (ttc_goes _ _) ?_

theorem confirmWithdrawn_goes (v : Env) (g : TurntableCfg) (e : Ev) :
    Ev.Goes [.table, .ready, .record, .slots] e (e.confirmWithdrawn v g) := by
  unfold Ev.confirmWithdrawn
  try dsimp only
  repeat' first
    | with_reducible apply Ev.Goes.refl
    | decide
    | split
    | with_reducible apply Ev.Goes.after ?_ (link_setTurntableFault_goes _ _) ?_
    | with_reducible apply Ev.Goes.after ?_ (ttc_goes _ _) ?_
    | with_reducible apply Ev.Goes.after ?_ (unlocked_goes _ _ _) ?_
    | with_reducible apply Ev.Goes.after ?_ (writeFault_goes _ _ _) ?_

theorem unlockExpiry_goes (v : Env) (g : TurntableCfg) (e : Ev) :
    Ev.Goes [.holders, .carry, .table, .buttons, .ready, .record, .free, .counters, .slots, .transmitter] e (e.unlockExpiry v g) := by
  unfold Ev.unlockExpiry
  try dsimp only
  repeat' first
    | with_reducible apply Ev.Goes.refl
    | decide
    | split
    | with_reducible apply Ev.Goes.after ?_ (tableFault_goes _ _ _ _) ?_

theorem lockExpiry_goes (v : Env) (g : TurntableCfg) (e : Ev) :
    Ev.Goes [.holders, .carry, .table, .buttons, .ready, .record, .free, .counters, .slots, .transmitter] e (e.lockExpiry v g) := by
  unfold Ev.lockExpiry
  try dsimp only
  repeat' first
    | with_reducible apply Ev.Goes.refl
    | decide
    | split
    | with_reducible apply Ev.Goes.after ?_ (tableFault_goes _ _ _ _) ?_

theorem rampDown_goes (v : Env) (g : TurntableCfg) (m : Move) (x : Run) (e : Ev) :
    Ev.Goes [.holders, .carry, .table, .buttons, .ready, .record, .free, .counters, .slots, .transmitter] e (e.rampDown v g m x) := by
  unfold Ev.rampDown
  try dsimp only
  repeat' first
    | with_reducible apply Ev.Goes.refl
    | decide
    | split
    | with_reducible apply Ev.Goes.after ?_ (abortEnd_goes _ _ _ _) ?_
    | with_reducible apply Ev.Goes.after ?_ (ttc_goes _ _) ?_

theorem abortMove_goes (v : Env) (e : Ev) :
    Ev.Goes [.holders, .carry, .table, .buttons, .ready, .record, .free, .counters, .slots, .transmitter] e (e.abortMove v) := by
  unfold Ev.abortMove
  try dsimp only
  repeat' first
    | with_reducible apply Ev.Goes.refl
    | decide
    | split
    | with_reducible apply Ev.Goes.after ?_ (abortEnd_goes _ _ _ _) ?_
    | with_reducible apply Ev.Goes.after ?_ (rampDown_goes _ _ _ _ _) ?_

theorem makeStep_goes (g : TurntableCfg) (turn : Turn) (e : Ev) :
    Ev.Goes [.table, .free] e (e.makeStep g turn) := by
  unfold Ev.makeStep
  try dsimp only
  repeat' first
    | with_reducible apply Ev.Goes.refl
    | decide
    | split
    | with_reducible apply Ev.Goes.after ?_ (drawn_goes _) ?_
    | with_reducible apply Ev.Goes.after ?_ (ttc_goes _ _) ?_

theorem homingStep_goes (v : Env) (g : TurntableCfg) (m : Move) (rise : Bool) (e : Ev) :
    Ev.Goes [.holders, .carry, .table, .buttons, .ready, .record, .free, .counters, .slots, .transmitter] e (e.homingStep v g m rise) := by
  unfold Ev.homingStep
  try dsimp only
  repeat' first
    | with_reducible apply Ev.Goes.refl
    | decide
    | split
    | with_reducible apply Ev.Goes.after ?_ (beginPlan_goes _ _ _ _) ?_
    | with_reducible apply Ev.Goes.after ?_ (makeStep_goes _ _ _) ?_
    | with_reducible apply Ev.Goes.after ?_ (tableFault_goes _ _ _ _) ?_
    | with_reducible apply Ev.Goes.after ?_ (ttc_goes _ _) ?_

theorem runEnds_goes (v : Env) (g : TurntableCfg) (m : Move) (e : Ev) :
    Ev.Goes [.table, .ready] e (e.runEnds v g m) := by
  unfold Ev.runEnds
  try dsimp only
  repeat' first
    | with_reducible apply Ev.Goes.refl
    | decide
    | split
    | with_reducible apply Ev.Goes.after ?_ (beginRun_goes _ _ _ _ _ _) ?_
    | with_reducible apply Ev.Goes.after ?_ (lastRunEnds_goes _ _ _ _) ?_

theorem afterStep_goes (v : Env) (g : TurntableCfg) (m : Move) (x : Run) (slip : Bool) (e : Ev) :
    Ev.Goes [.holders, .carry, .table, .buttons, .ready, .record, .free, .counters, .slots, .transmitter] e (e.afterStep v g m x slip) := by
  unfold Ev.afterStep
  try dsimp only
  repeat' first
    | with_reducible apply Ev.Goes.refl
    | decide
    | split
    | with_reducible apply Ev.Goes.after ?_ (abortEnd_goes _ _ _ _) ?_
    | with_reducible apply Ev.Goes.after ?_ (rampDown_goes _ _ _ _ _) ?_
    | with_reducible apply Ev.Goes.after ?_ (runEnds_goes _ _ _ _) ?_

theorem runStep_goes (v : Env) (g : TurntableCfg) (m : Move) (x : Run) (rise : Bool) (e : Ev) :
    Ev.Goes [.holders, .carry, .table, .buttons, .ready, .record, .free, .counters, .slots, .transmitter] e (e.runStep v g m x rise) := by
  unfold Ev.runStep
  try dsimp only
  repeat' first
    | with_reducible apply Ev.Goes.refl
    | decide
    | split
    | with_reducible apply Ev.Goes.after ?_ (afterStep_goes _ _ _ _ _ _) ?_
    | with_reducible apply Ev.Goes.after ?_ (makeStep_goes _ _ _) ?_
    | with_reducible apply Ev.Goes.after ?_ (ttc_goes _ _) ?_
    | with_reducible apply Ev.Goes.after ?_ (unhome_goes _) ?_

theorem stepExpiry_goes (v : Env) (g : TurntableCfg) (home : HomeSensor) (e : Ev) :
    Ev.Goes [.holders, .carry, .table, .buttons, .ready, .record, .free, .counters, .slots, .transmitter] e (e.stepExpiry v g home) := by
  unfold Ev.stepExpiry
  try dsimp only
  repeat' first
    | with_reducible apply Ev.Goes.refl
    | decide
    | split
    | with_reducible apply Ev.Goes.after ?_ (homingStep_goes _ _ _ _ _) ?_
    | with_reducible apply Ev.Goes.after ?_ (runStep_goes _ _ _ _ _ _) ?_

theorem leaveFault_goes (v : Env) (e : Ev) :
    Ev.Goes [.table, .ready] e (e.leaveFault v) := by
  unfold Ev.leaveFault
  try dsimp only
  repeat' first
    | with_reducible apply Ev.Goes.refl
    | decide
    | split
    | with_reducible apply Ev.Goes.after ?_ (setPhase_goes _ _ _) ?_

theorem queueMove_goes (v : Env) (q : MoveRequest) (e : Ev) :
    Ev.Goes [.table, .ready] e (e.queueMove v q) := by
  unfold Ev.queueMove
  try dsimp only
  repeat' first
    | with_reducible apply Ev.Goes.refl
    | decide
    | split
    | with_reducible apply Ev.Goes.after ?_ (setMoves_goes _ _ _) ?_

theorem moveRequest_goes (v : Env) (f : Frame) (e : Ev) :
    Ev.Goes [.table, .buttons, .ready, .counters, .slots, .transmitter] e (e.moveRequest v f) := by
  unfold Ev.moveRequest
  try dsimp only
  repeat' first
    | with_reducible apply Ev.Goes.refl
    | decide
    | split
    | with_reducible apply Ev.Goes.after ?_ (leaveFault_goes _ _) ?_
    | with_reducible apply Ev.Goes.after ?_ (queueMove_goes _ _ _) ?_
    | with_reducible apply Ev.Goes.after ?_ (tellMove_goes _ _ _ _) ?_

theorem cancelMoves_goes (v : Env) (f : Frame) (e : Ev) :
    Ev.Goes [.table, .buttons, .ready, .counters, .slots, .transmitter] e (e.cancelMoves v f) := by
  unfold Ev.cancelMoves
  try dsimp only
  repeat' first
    | with_reducible apply Ev.Goes.refl
    | decide
    | with_reducible apply Ev.Goes.trans ?_ (Ev.Goes.foldl (fun _ _ => ?_) _ _)
    | split
    | with_reducible apply Ev.Goes.after ?_ (leaveFault_goes _ _) ?_
    | with_reducible apply Ev.Goes.after ?_ (setMoves_goes _ _ _) ?_
    | with_reducible apply Ev.Goes.after ?_ (tellMove_goes _ _ _ _) ?_

theorem setStop_goes (v : Env) (x : StopState) (e : Ev) :
    Ev.Goes [.holders, .carry, .stop, .table, .buttons, .ready, .record, .free, .counters, .slots, .transmitter] e
      (e.setStop v x) := by
  have k := ((stop_goes x e).mono
    (ps := [.holders, .carry, .stop, .table, .buttons, .ready, .record, .free, .counters, .slots, .transmitter])
    (by decide)).after (callCompose_goes _) (by decide)
  unfold Ev.setStop
  dsimp only
  split
  · exact .refl _ _
  · split
    · exact k
    · refine Ev.Goes.after ?_ (testBars_goes _ _) (by decide)
      split
      · exact (k.after (reevaluateSignals_goes v _) (by decide)).after (abortMove_goes _ _) (by decide)
      · exact k.after (reevaluateSignals_goes v _) (by decide)

theorem zoneStop_goes (v : Env) (f : Frame) (e : Ev) :
    Ev.Goes [.holders, .carry, .stop, .table, .buttons, .ready, .record, .free, .counters, .slots, .transmitter] e (e.zoneStop v f) := by
  unfold Ev.zoneStop
  try dsimp only
  repeat' first
    | with_reducible apply Ev.Goes.refl
    | decide
    | split
    | with_reducible apply Ev.Goes.after ?_ (setStop_goes _ _ _) ?_

theorem zoneResume_goes (v : Env) (f : Frame) (e : Ev) :
    Ev.Goes [.holders, .carry, .stop, .table, .buttons, .ready, .record, .free, .counters, .slots, .transmitter] e (e.zoneResume v f) := by
  unfold Ev.zoneResume
  try dsimp only
  repeat' first
    | with_reducible apply Ev.Goes.refl
    | decide
    | split
    | with_reducible apply Ev.Goes.after ?_ (setStop_goes _ _ _) ?_


/-! ## Clock -/

theorem rollTo_goes (v : Env) (m : Nat) (e : Ev) :
    Ev.Goes [.routes, .waiting, .clock, .entries, .buttons] e (e.rollTo v m) := by
  unfold Ev.rollTo
  try dsimp only
  repeat' first
    | with_reducible apply Ev.Goes.refl
    | decide
    | split
    | with_reducible apply Ev.Goes.after ?_ (callCompose_goes _) ?_
    | with_reducible apply Ev.Goes.after ?_ (clock_goes _ _) ?_
    | with_reducible apply Ev.Goes.after ?_ (timetableRollover_goes _ _ _) ?_

theorem rollover_goes (v : Env) (e : Ev) :
    Ev.Goes [.routes, .waiting, .clock, .entries, .buttons] e (e.rollover v) := by
  unfold Ev.rollover
  try dsimp only
  repeat' first
    | with_reducible apply Ev.Goes.refl
    | decide
    | split
    | with_reducible apply Ev.Goes.after ?_ (rollTo_goes _ _ _) ?_

theorem beacon_goes (v : Env) (e : Ev) :
    Ev.Goes [.counters, .slots, .transmitter] e (e.beacon v) := by
  unfold Ev.beacon
  try dsimp only
  repeat' first
    | with_reducible apply Ev.Goes.refl
    | decide
    | split
    | with_reducible apply Ev.Goes.after ?_ (send_goes _ _ _ _ _) ?_

theorem takeRemainder_goes (e : Ev) :
    Ev.Goes [.clock, .free] e (e.takeRemainder) := by
  unfold Ev.takeRemainder
  try dsimp only
  repeat' first
    | with_reducible apply Ev.Goes.refl
    | decide
    | split
    | with_reducible apply Ev.Goes.after ?_ (clock_goes _ _) ?_
    | with_reducible apply Ev.Goes.after ?_ (drawn_goes _) ?_

theorem scaleRollover_goes (v : Env) (e : Ev) :
    Ev.Goes [.routes, .waiting, .clock, .entries, .buttons, .free, .counters, .slots, .transmitter] e (e.scaleRollover v) := by
  unfold Ev.scaleRollover
  try dsimp only
  repeat' first
    | with_reducible apply Ev.Goes.refl
    | decide
    | split
    | with_reducible apply Ev.Goes.after ?_ (beacon_goes _ _) ?_
    | with_reducible apply Ev.Goes.after ?_ (rollover_goes _ _) ?_
    | with_reducible apply Ev.Goes.after ?_ (takeRemainder_goes _) ?_

theorem clockChanged_goes (v : Env) (e : Ev) :
    Ev.Goes [.buttons] e (e.clockChanged v) := by
  unfold Ev.clockChanged
  try dsimp only
  repeat' first
    | with_reducible apply Ev.Goes.refl
    | decide
    | split
    | with_reducible apply Ev.Goes.after ?_ (callCompose_goes _) ?_
    | with_reducible apply Ev.Goes.after ?_ (testBars_goes _ _) ?_

theorem adopt_goes (v : Env) (epoch minute ratio : Nat) (run : Bool) (e : Ev) :
    Ev.Goes [.routes, .waiting, .clock, .entries, .buttons] e (e.adopt v epoch minute ratio run) := by
  unfold Ev.adopt
  try dsimp only
  repeat' first
    | with_reducible apply Ev.Goes.refl
    | decide
    | split
    | with_reducible apply Ev.Goes.after ?_ (clock_goes _ _) ?_
    | with_reducible apply Ev.Goes.after ?_ (clockChanged_goes _ _) ?_
    | with_reducible apply Ev.Goes.after ?_ (newEpoch_goes _ _) ?_

theorem clockSet_goes (v : Env) (f : Frame) (e : Ev) :
    Ev.Goes [.routes, .waiting, .clock, .entries, .buttons] e (e.clockSet v f) := by
  unfold Ev.clockSet
  try dsimp only
  repeat' first
    | with_reducible apply Ev.Goes.refl
    | decide
    | split
    | with_reducible apply Ev.Goes.after ?_ (adopt_goes _ _ _ _ _ _) ?_

theorem clockControl_goes (v : Env) (f : Frame) (was is : ClockState) (e : Ev) :
    Ev.Goes [.clock, .buttons] e (e.clockControl v f was is) := by
  unfold Ev.clockControl
  try dsimp only
  repeat' first
    | with_reducible apply Ev.Goes.refl
    | decide
    | split
    | with_reducible apply Ev.Goes.after ?_ (clock_goes _ _) ?_
    | with_reducible apply Ev.Goes.after ?_ (clockChanged_goes _ _) ?_

theorem zeroAccumulator_goes (e : Ev) :
    Ev.Goes [.clock] e (e.zeroAccumulator) := by
  unfold Ev.zeroAccumulator
  try dsimp only
  repeat' first
    | with_reducible apply Ev.Goes.refl
    | decide
    | split
    | with_reducible apply Ev.Goes.after ?_ (clock_goes _ _) ?_

theorem stepForward_goes (v : Env) (k : Nat) (e : Ev) :
    Ev.Goes [.routes, .waiting, .clock, .entries, .buttons] e (e.stepForward v k) := by
  unfold Ev.stepForward
  try dsimp only
  repeat' first
    | with_reducible apply Ev.Goes.refl
    | decide
    | with_reducible apply Ev.Goes.trans ?_ (Ev.Goes.foldl (fun _ _ => ?_) _ _)
    | split
    | with_reducible apply Ev.Goes.after ?_ (rollover_goes _ _) ?_
    | with_reducible apply Ev.Goes.after ?_ (zeroAccumulator_goes _) ?_

theorem jumpForward_goes (v : Env) (k : Nat) (e : Ev) :
    Ev.Goes [.routes, .waiting, .clock, .entries, .buttons] e (e.jumpForward v k) := by
  unfold Ev.jumpForward
  try dsimp only
  repeat' first
    | with_reducible apply Ev.Goes.refl
    | decide
    | with_reducible apply Ev.Goes.trans ?_ (Ev.Goes.foldl (fun _ _ => ?_) _ _)
    | split
    | with_reducible apply Ev.Goes.after ?_ (rollTo_goes _ _ _) ?_
    | with_reducible apply Ev.Goes.after ?_ (skipMinute_goes _ _ _) ?_
    | with_reducible apply Ev.Goes.after ?_ (zeroAccumulator_goes _) ?_

theorem follow_goes (v : Env) (k : Nat) (e : Ev) :
    Ev.Goes [.routes, .waiting, .clock, .entries, .buttons] e (e.follow v k) := by
  unfold Ev.follow
  try dsimp only
  repeat' first
    | with_reducible apply Ev.Goes.refl
    | decide
    | split
    | with_reducible apply Ev.Goes.after ?_ (jumpForward_goes _ _ _) ?_
    | with_reducible apply Ev.Goes.after ?_ (stepForward_goes _ _ _) ?_

theorem clockBeacon_goes (v : Env) (f : Frame) (e : Ev) :
    Ev.Goes [.routes, .waiting, .clock, .entries, .buttons] e (e.clockBeacon v f) := by
  unfold Ev.clockBeacon
  try dsimp only
  repeat' first
    | with_reducible apply Ev.Goes.refl
    | decide
    | split
    | with_reducible apply Ev.Goes.after ?_ (adopt_goes _ _ _ _ _ _) ?_
    | with_reducible apply Ev.Goes.after ?_ (follow_goes _ _ _) ?_


/-! ## Board -/

theorem recompose_goes (v : Env) (e : Ev) : Ev.Goes [.board] e (e.recompose v) :=
  ⟨by intro p hp; cases p <;> first | exact absurd (by decide) hp | simp [Part.agree, Ev.recompose],
   by
    rintro ⟨a, b, c, d⟩
    refine ⟨?_, b, c, d⟩
    simp only [Units.sized, Ev.recompose, List.length_zipWith, composeRows, List.map_cons, List.map_nil,
      List.length_cons, List.length_nil] at a ⊢
    obtain ⟨a1, a2, a3, a4, a5, a6, a7, a8, a9, a10, a11, a12⟩ := a
    refine ⟨a1, a2, a3, a4, a5, a6, a7, a8, a9, a10, a11, ?_⟩
    omega, .refl _⟩

theorem sendRows_goes (v : Env) (e : Ev) : Ev.Goes [.board] e (e.sendRows v) := by
  refine ⟨?_, ?_, .refl _⟩
  · intro p hp
    cases p <;> first | exact absurd (by decide) hp | (unfold Ev.sendRows Board.beginSend; repeat' split) <;> simp [Part.agree]
  · rintro ⟨a, b, c, d⟩
    refine ⟨?_, b, c, d⟩
    unfold Ev.sendRows Board.beginSend
    repeat' split
    · exact a
    · simpa [Units.sized] using a
    · exact a

theorem rowSent_goes (e : Ev) : Ev.Goes [.board] e e.rowSent :=
  ⟨by intro p hp; cases p <;> first | exact absurd (by decide) hp | simp [Part.agree, Ev.rowSent], id, .refl _⟩

theorem refreshRows_goes (e : Ev) : Ev.Goes [.refresh, .board] e e.refreshRows := by
  unfold Ev.refreshRows
  split
  · exact ⟨by intro p hp; cases p <;> first | exact absurd (by decide) hp | simp [Part.agree],
      by simp [Units.sound, Units.sized, Units.clearHoldsNothing], .refl _⟩
  · exact .refl _ _


/-! ## Mirrors -/

theorem changeBMirror_goes (v : Env) (i : Nat) (f : BlockMirror → BlockMirror) (e : Ev) :
    Ev.Goes [.holders, .mirrors, .carry, .turnouts, .routes, .claims, .control, .counters, .slots, .transmitter] e (e.changeBMirror v i f) := by
  unfold Ev.changeBMirror
  try dsimp only
  repeat' first
    | with_reducible apply Ev.Goes.refl
    | decide
    | with_reducible apply Ev.Goes.trans ?_ (Ev.Goes.foldl (fun _ _ => ?_) _ _)
    | split
    | with_reducible apply Ev.Goes.after ?_ (approachChanged_goes _ _ _) ?_
    | with_reducible apply Ev.Goes.after ?_ (approachCleared_goes _ _ _ _) ?_
    | with_reducible apply Ev.Goes.after ?_ (setBMirror_goes _ _ _) ?_

theorem changeSMirror_goes (v : Env) (i : Nat) (f : SignalMirror → SignalMirror) (e : Ev) :
    Ev.Goes [.mirrors] e (e.changeSMirror v i f) := by
  unfold Ev.changeSMirror
  try dsimp only
  repeat' first
    | with_reducible apply Ev.Goes.refl
    | decide
    | split
    | with_reducible apply Ev.Goes.after ?_ (reachBehind_goes _ _ _) ?_
    | with_reducible apply Ev.Goes.after ?_ (setSMirror_goes _ _ _) ?_

theorem takeBlockItem_goes (v : Env) (s : Nat) (precedes : Bool) (x : Nat × Bool × Tag × Dir) (e : Ev) :
    Ev.Goes [.holders, .mirrors, .carry, .turnouts, .routes, .claims, .control, .counters, .slots, .transmitter] e (e.takeBlockItem v s precedes x) := by
  unfold Ev.takeBlockItem
  try dsimp only
  repeat' first
    | with_reducible apply Ev.Goes.refl
    | decide
    | split
    | with_reducible apply Ev.Goes.after ?_ (changeBMirror_goes _ _ _ _) ?_

theorem takeSignalItem_goes (v : Env) (s : Nat) (precedes : Bool) (x : Nat × Nat × Bool × Bool) (e : Ev) :
    Ev.Goes [.mirrors] e (e.takeSignalItem v s precedes x) := by
  unfold Ev.takeSignalItem
  try dsimp only
  repeat' first
    | with_reducible apply Ev.Goes.refl
    | decide
    | split
    | with_reducible apply Ev.Goes.after ?_ (changeSMirror_goes _ _ _ _) ?_

theorem occupancyReport_goes (v : Env) (x : RxFrame) (e : Ev) :
    Ev.Goes [.holders, .mirrors, .carry, .turnouts, .routes, .claims, .control, .counters, .slots, .transmitter] e (e.occupancyReport v x) := by
  unfold Ev.occupancyReport
  try dsimp only
  repeat' first
    | with_reducible apply Ev.Goes.refl
    | decide
    | with_reducible apply Ev.Goes.trans ?_ (Ev.Goes.foldl (fun _ _ => ?_) _ _)
    | split
    | with_reducible apply Ev.Goes.after ?_ (reclaim_goes _ _ _) ?_
    | with_reducible apply Ev.Goes.after ?_ (takeBlockItem_goes _ _ _ _ _) ?_

theorem aspectReport_goes (v : Env) (x : RxFrame) (e : Ev) :
    Ev.Goes [.mirrors, .claims, .counters, .slots, .transmitter] e (e.aspectReport v x) := by
  unfold Ev.aspectReport
  try dsimp only
  repeat' first
    | with_reducible apply Ev.Goes.refl
    | decide
    | with_reducible apply Ev.Goes.trans ?_ (Ev.Goes.foldl (fun _ _ => ?_) _ _)
    | split
    | with_reducible apply Ev.Goes.after ?_ (reclaim_goes _ _ _) ?_
    | with_reducible apply Ev.Goes.after ?_ (takeSignalItem_goes _ _ _ _ _) ?_

theorem mirrorLapse_goes (v : Env) (m : MirrorId) (e : Ev) :
    Ev.Goes [.holders, .mirrors, .carry, .turnouts, .routes, .claims, .control, .counters, .slots, .transmitter] e (e.mirrorLapse v m) := by
  unfold Ev.mirrorLapse
  try dsimp only
  repeat' first
    | with_reducible apply Ev.Goes.refl
    | decide
    | split
    | with_reducible apply Ev.Goes.after ?_ (changeBMirror_goes _ _ _ _) ?_
    | with_reducible apply Ev.Goes.after ?_ (changeSMirror_goes _ _ _ _) ?_

theorem staleMirrors_goes (v : Env) (owner : Nat → Bool) (e : Ev) :
    Ev.Goes [.holders, .mirrors, .carry, .turnouts, .routes, .claims, .control, .counters, .slots, .transmitter] e (e.staleMirrors v owner) := by
  unfold Ev.staleMirrors
  try dsimp only
  repeat' first
    | with_reducible apply Ev.Goes.refl
    | decide
    | with_reducible apply Ev.Goes.trans ?_ (Ev.Goes.foldl (fun _ _ => ?_) _ _)
    | split
    | with_reducible apply Ev.Goes.after ?_ (changeBMirror_goes _ _ _ _) ?_
    | with_reducible apply Ev.Goes.after ?_ (changeSMirror_goes _ _ _ _) ?_

theorem announce_goes (v : Env) (f : Frame) (e : Ev) :
    Ev.Goes [.holders, .mirrors, .carry, .turnouts, .throws, .routes, .waiting, .claims, .claimTable, .control, .watches, .entries, .buttons, .counters, .marks, .slots, .transmitter] e (e.announce v f) := by
  unfold Ev.announce
  try dsimp only
  repeat' first
    | with_reducible apply Ev.Goes.refl
    | decide
    | split
    | with_reducible apply Ev.Goes.after ?_ (announcedOwner_goes _ _ _) ?_
    | with_reducible apply Ev.Goes.after ?_ (dropClaims_goes _ _ _) ?_
    | with_reducible apply Ev.Goes.after ?_ (dropWatches_goes _ _) ?_
    | with_reducible apply Ev.Goes.after ?_ (publishAll_goes _ _) ?_
    | with_reducible apply Ev.Goes.after ?_ (staleMirrors_goes _ _ _) ?_

theorem refreshQuery_goes (v : Env) (e : Ev) :
    Ev.Goes [.marks] e (e.refreshQuery v) := by
  unfold Ev.refreshQuery
  try dsimp only
  repeat' first
    | with_reducible apply Ev.Goes.refl
    | decide
    | split
    | with_reducible apply Ev.Goes.after ?_ (publishAll_goes _ _) ?_

theorem republish_goes (v : Env) (e : Ev) : Ev.Goes [.republish, .marks] e (e.republish v) := by
  unfold Ev.republish
  split
  · exact ((publishAll_goes v e).mono (by decide)).after (republishTimer_goes _ _) (by decide)
  · exact .refl _ _

end Sys2Proof.Machine
end

