-- ==== Sys2Proof/Laws/Events.lean ====
section
/-! SUPPORT. What each operation may change: reception, buttons, detectors, the end of an event and entry into RUNNING. One lemma per operation of
`Machine/Reception.lean`, `Machine/Panel.lean`, `Machine/Settle.lean`, `Machine/Startup.lean`. -/

namespace Sys2Proof.Machine

/-! ## Reception -/

theorem askRefresh_goes (v : Env) (e : Ev) :
    Ev.Goes [.counters, .slots, .transmitter] e (e.askRefresh v) := by
  unfold Ev.askRefresh
  try dsimp only
  repeat' first
    | with_reducible apply Ev.Goes.refl
    | decide
    | split
    | with_reducible apply Ev.Goes.after ?_ (send_goes _ _ _ _ _) ?_

theorem receiveOverflow_goes (v : Env) (e : Ev) :
    Ev.Goes [.holders, .mirrors, .carry, .turnouts, .routes, .claims, .control, .rx, .counters, .slots, .transmitter] e (e.receiveOverflow v) := by
  have k : Ev.Goes [.holders, .mirrors, .carry, .turnouts, .routes, .claims, .control, .rx, .counters, .slots, .transmitter] e (e.link Link.raiseMissed) :=
    (link_raiseMissed_goes e).mono (by decide)
  unfold Ev.receiveOverflow
  dsimp only
  split
  · exact k
  · refine Ev.Goes.after ?_ (link_pend_goes _ _) (by decide)
    refine Ev.Goes.after ?_ (askRefresh_goes _ _) (by decide)
    refine Ev.Goes.after (qs := [.rx]) (k.after (staleMirrors_goes _ _ _) (by decide))
      (link_goes _ ?_ ?_ ?_) (by decide)
    · intro p hp; cases p <;> first | exact absurd (by decide) hp | simp [Part.agree]
    · rintro ⟨⟨a, b⟩, c⟩
      exact ⟨⟨by simpa using a, b⟩, c⟩
    · apply onward_of <;> simp

theorem place_goes (f : Frame) (e : Ev) (h : e.u.lnk.rx.length < 8) : Ev.Goes [.reception, .rx] e (e.place f) := by
  unfold Ev.place
  refine Ev.Goes.after (qs := [.reception]) ?_ (reception_goes _ _) (by decide)
  refine Ev.Goes.mono (qs := [.rx]) (link_goes e ?_ ?_ ?_) (by decide)
  · intro p hp; cases p <;> first | exact absurd (by decide) hp | simp [Part.agree]
  · rintro ⟨⟨a, b, c⟩, d, k⟩
    exact ⟨⟨by simp; omega, b, c⟩, d, k⟩
  · apply onward_of <;> simp

/-- R183: a frame takes its place only where the queue has one. -/
theorem judge_placed {v : Env} {w : Nat} {bs : List Byte} {br : Bool} {f : Frame}
    (h : judge v w bs br = .placed f) : w < 8 := by
  unfold judge at h
  repeat' split at h
  all_goals simp_all

theorem received_goes (v : Env) (x : Verdict) (e : Ev) (h : ∀ f, x = .placed f → e.u.lnk.rx.length < 8) :
    Ev.Goes [.holders, .mirrors, .carry, .turnouts, .routes, .claims, .reception, .control, .rx, .counters, .slots, .transmitter] e (e.received v x) := by
  unfold Ev.received
  split
  · exact ((receptionLost_goes v e).mono (by decide)).after (link_raiseFraming_goes _) (by decide)
  · exact ((receptionLost_goes v e).mono (by decide)).after (link_raiseCrc_goes _) (by decide)
  · exact .refl _ _
  · exact (receptionLost_goes v e).mono (by decide)
  · exact ((receptionLost_goes v e).mono (by decide)).after (receiveOverflow_goes _ _) (by decide)
  · exact (place_goes _ e (h _ rfl)).mono (by decide)

theorem urgentGap_goes (e : Ev) : Ev.Goes [.transmitter] e e.urgentGap := by
  unfold Ev.urgentGap
  refine link_goes e ?_ ?_ ?_
  · intro p hp; cases p <;> first | exact absurd (by decide) hp | (split <;> simp [Part.agree])
  · split <;> exact id
  · split
    · apply onward_of <;> simp
    · exact .refl _

theorem ordinaryGap_goes (e : Ev) : Ev.Goes [.transmitter] e e.ordinaryGap := by
  unfold Ev.ordinaryGap
  refine link_goes e ?_ ?_ ?_
  · intro p hp; cases p <;> first | exact absurd (by decide) hp | (split <;> simp [Part.agree])
  · split <;> exact id
  · split
    · exact .refl _
    · apply onward_of <;> simp

theorem backoffRetry_goes (e : Ev) : Ev.Goes [.transmitter] e e.backoffRetry := by
  unfold Ev.backoffRetry
  split
  · rename_i x hx
    split
    · refine link_goes e ?_ ?_ ?_
      · intro p hp; cases p <;> first | exact absurd (by decide) hp | simp [Part.agree, Link.takeInHand]
      · exact id
      · have hr : ∀ {P : Origin → Prop}, (∃ y, e.u.lnk.inHand = some y ∧ P y.origin) → P x.origin := by
          rintro P ⟨y, hy, h⟩
          rw [hx] at hy; cases hy; exact h
        constructor
        · rintro f (h | h | h)
          · exact .inl h
          · exact .inr (.inl h)
          · exact .inr (.inr (by simpa [Link.takeInHand, hx] using h))
        all_goals
          rintro b (h | ⟨y, c, hy, ho, hb⟩)
          · exact .inl h
          · rw [hx] at hy; cases hy
            exact .inr ⟨_, c, rfl, ho, hb⟩
    · exact .refl _ _
  · exact .refl _ _

theorem statusReply_goes (v : Env) (f : Frame) (e : Ev) :
    Ev.Goes [.counters, .slots, .transmitter] e (e.statusReply v f) := by
  unfold Ev.statusReply
  try dsimp only
  repeat' first
    | with_reducible apply Ev.Goes.refl
    | decide
    | split
    | with_reducible apply Ev.Goes.after ?_ (link_clearCounters_goes _) ?_
    | with_reducible apply Ev.Goes.after ?_ (send_goes _ _ _ _ _) ?_

theorem statusQuery_goes (v : Env) (f : Frame) (e : Ev) :
    Ev.Goes [.counters, .slots, .transmitter] e (e.statusQuery v f) := by
  unfold Ev.statusQuery
  try dsimp only
  repeat' first
    | with_reducible apply Ev.Goes.refl
    | decide
    | split
    | with_reducible apply Ev.Goes.after ?_ (answer_goes _ _ _ _ _ _) ?_
    | with_reducible apply Ev.Goes.after ?_ (statusReply_goes _ _ _) ?_


/-! ## Panel -/

theorem pressDepart_goes (v : Env) (k i : Nat) (e : Ev) :
    Ev.Goes [.waiting, .entries, .buttons] e (e.pressDepart v k i) := by
  unfold Ev.pressDepart
  try dsimp only
  repeat' first
    | with_reducible apply Ev.Goes.refl
    | decide
    | split
    | with_reducible apply Ev.Goes.after ?_ (demand_goes _ _ _ _) ?_
    | with_reducible apply Ev.Goes.after ?_ (setButton_goes _ _ _) ?_

theorem pressShow_goes (v : Env) (k : Nat) (e : Ev) :
    Ev.Goes [.table, .buttons, .ready] e (e.pressShow v k) := by
  unfold Ev.pressShow
  try dsimp only
  repeat' first
    | with_reducible apply Ev.Goes.refl
    | decide
    | split
    | with_reducible apply Ev.Goes.after ?_ (queueMove_goes _ _ _) ?_
    | with_reducible apply Ev.Goes.after ?_ (setButton_goes _ _ _) ?_

theorem pressStop_goes (v : Env) (e : Ev) :
    Ev.Goes [.holders, .carry, .stop, .table, .buttons, .ready, .record, .free, .counters, .slots, .transmitter] e (e.pressStop v) := by
  unfold Ev.pressStop
  try dsimp only
  repeat' first
    | with_reducible apply Ev.Goes.refl
    | decide
    | split
    | with_reducible apply Ev.Goes.after ?_ (setStop_goes _ _ _) ?_

theorem press_goes (v : Env) (k : Nat) (e : Ev) :
    Ev.Goes [.holders, .carry, .waiting, .stop, .table, .entries, .buttons, .ready, .record, .free, .counters, .slots, .transmitter] e (e.press v k) := by
  unfold Ev.press
  try dsimp only
  repeat' first
    | with_reducible apply Ev.Goes.refl
    | decide
    | split
    | with_reducible apply Ev.Goes.after ?_ (pressDepart_goes _ _ _ _) ?_
    | with_reducible apply Ev.Goes.after ?_ (pressShow_goes _ _ _) ?_
    | with_reducible apply Ev.Goes.after ?_ (pressStop_goes _ _) ?_

theorem buttonInput_goes (v : Env) (k : Nat) (level : Bool) (e : Ev) :
    Ev.Goes [.buttons] e (e.buttonInput v k level) := by
  unfold Ev.buttonInput
  try dsimp only
  repeat' first
    | with_reducible apply Ev.Goes.refl
    | decide
    | split
    | with_reducible apply Ev.Goes.after ?_ (setButton_goes _ _ _) ?_

theorem pressExpiry_goes (v : Env) (k : Nat) (e : Ev) :
    Ev.Goes [.holders, .carry, .waiting, .stop, .table, .entries, .buttons, .ready, .record, .free, .counters, .slots, .transmitter] e (e.pressExpiry v k) := by
  unfold Ev.pressExpiry
  try dsimp only
  repeat' first
    | with_reducible apply Ev.Goes.refl
    | decide
    | split
    | with_reducible apply Ev.Goes.after ?_ (press_goes _ _ _) ?_
    | with_reducible apply Ev.Goes.after ?_ (setButton_goes _ _ _) ?_

theorem releaseExpiry_goes (k : Nat) (e : Ev) :
    Ev.Goes [.buttons] e (e.releaseExpiry k) := by
  unfold Ev.releaseExpiry
  try dsimp only
  repeat' first
    | with_reducible apply Ev.Goes.refl
    | decide
    | split
    | with_reducible apply Ev.Goes.after ?_ (setButton_goes _ _ _) ?_

theorem guardExpiry_goes (k : Nat) (e : Ev) :
    Ev.Goes [.buttons] e (e.guardExpiry k) := by
  unfold Ev.guardExpiry
  try dsimp only
  repeat' first
    | with_reducible apply Ev.Goes.refl
    | decide
    | split
    | with_reducible apply Ev.Goes.after ?_ (setButton_goes _ _ _) ?_

theorem flashExpiry_goes (k : Nat) (e : Ev) :
    Ev.Goes [.buttons] e (e.flashExpiry k) := by
  unfold Ev.flashExpiry
  try dsimp only
  repeat' first
    | with_reducible apply Ev.Goes.refl
    | decide
    | split
    | with_reducible apply Ev.Goes.after ?_ (setButton_goes _ _ _) ?_

/-- R6: the block that has become OCCUPIED is OCCUPIED. -/
theorem setOccupied_block (v : Env) (b : Nat) (e : Ev) :
    b < (e.setOccupied v b true).u.bkt.blocks.length → ((e.setOccupied v b true).u.block b).occupied = true := by
  unfold Ev.setOccupied
  dsimp only
  split
  · rename_i h; exact fun _ => h
  · intro hb
    have h : ∀ {a : Ev}, a.u.bkt = (e.setBlock b fun x => { x with occupied := true }).u.bkt →
        b < a.u.bkt.blocks.length → (a.u.block b).occupied = true := by
      intro a ha hl
      rw [ha] at hl
      simp only [Ev.setBlock, List.length_modify] at hl
      simp [Units.block, ha, Ev.setBlock, List.getD, hl]
    refine h ?_ hb
    split <;> simp [Ev.raise, Ev.callExamine]

theorem occupied_goes (v : Env) (b : Nat) (e : Ev) :
    Ev.Goes [.occupancy, .carry, .routes, .claimTable, .control, .marks, .slots] e (e.occupied v b) := by
  unfold Ev.occupied
  refine Ev.Goes.after ?_ (approachChanged_goes _ _ _) (by decide)
  refine Ev.Goes.after ?_ (occupancyReaches_goes _ _ _) (by decide)
  refine Ev.Goes.after ?_ (routesOccupied_goes _ _ _) (by decide)
  refine Ev.Goes.after ?_ (claimsOccupied_goes _ _) (by decide)
  exact ((setOccupied_goes v b e).mono (by decide)).after (trackOccupied_goes v b _ (setOccupied_block v b e)) (by decide)

/-- R6, R25: a block that has become CLEAR, with its train gone: law L1 holds again. -/
theorem clearTrain_goes (v : Env) (b : Nat) (e : Ev) :
    Ev.Goes [.occupancy, .marks] e ((e.setOccupied v b false).setTrain v b .none .unknown) := by
  by_cases ho : (e.u.block b).occupied = false
  · have h : e.setOccupied v b false = e := by simp [Ev.setOccupied, ho]
    rw [h]
    exact setTrain_goes v b .none .unknown e fun _ => .inr ⟨rfl, rfl⟩
  · let f : Block → Block := fun x => { x with occupied := false }
    have hu : (e.setOccupied v b false).u = ((e.setBlock b f).publish v b).u := by
      simp only [Ev.setOccupied, if_neg ho, Bool.false_eq_true, if_false, f]
      split <;> rfl
    have hb : (e.setOccupied v b false).u.block b = f (e.u.block b) ∨ e.u.bkt.blocks[b]? = none := by
      simp only [hu, Units.block, publish_bkt, Ev.setBlock, List.getD, List.getElem?_modify]
      cases e.u.bkt.blocks[b]? <;> simp
    by_cases ht : ((e.setOccupied v b false).u.block b).tag = .none
        ∧ ((e.setOccupied v b false).u.block b).dir = .unknown
    · have h : (e.setOccupied v b false).setTrain v b .none .unknown = e.setOccupied v b false := by
        simp [Ev.setTrain, ht]
      have k : Ev.Goes [.occupancy] e (e.setBlock b f) := by
        refine setBlock_train_goes e (fun _ _ => rfl) fun x hx _ => ?_
        rcases hb with hb | hb
        · rw [hb, block_of hx] at ht; exact ht
        · simp [hx] at hb
      rw [h]
      show Machine.Goes _ _ _
      rw [hu]
      exact (k.mono (by decide)).after (publish_goes v b _) (by decide)
    · let g : Block → Block := fun x => { x with tag := .none, dir := .unknown }
      have k : Ev.Goes [.occupancy] e (e.setBlock b (g ∘ f)) :=
        setBlock_train_goes e (fun _ _ => rfl) fun _ _ _ => ⟨rfl, rfl⟩
      have h : ((e.setOccupied v b false).setTrain v b .none .unknown).u
          = (((e.setBlock b (g ∘ f)).publish v b).publish v b).u := by
        have h1 : ∀ a : Ev, a.u = ((e.setBlock b f).publish v b).u →
            ((a.setBlock b g).publish v b).u = (((e.setBlock b (g ∘ f)).publish v b).publish v b).u := by
          intro a ha
          have : (a.setBlock b g).u = ((e.setBlock b (g ∘ f)).publish v b).u := by
            simp only [Ev.setBlock, ha]
            unfold Ev.publish
            split <;> simp [Ev.link, List.modify_modify_eq]
          unfold Ev.publish at this ⊢
          split <;> simp_all [Ev.link]
        have h2 := h1 _ hu
        simp only [Ev.setTrain, if_neg ht]
        split <;> exact h2
      show Machine.Goes _ _ _
      rw [h]
      exact ((k.mono (by decide)).after (publish_goes v b _) (by decide)).after (publish_goes v b _) (by decide)

theorem cleared_goes (v : Env) (b : Nat) (e : Ev) :
    Ev.Goes [.occupancy, .holders, .carry, .turnouts, .throws, .cdu, .routes, .claims, .claimTable, .control, .entries, .buttons, .counters, .marks, .slots, .transmitter] e (e.cleared v b) := by
  unfold Ev.cleared
  dsimp only
  refine Ev.Goes.after ?_ (approachChanged_goes _ _ _) (by decide)
  refine Ev.Goes.after ?_ (occupancyReaches_goes _ _ _) (by decide)
  refine Ev.Goes.after ?_ (departures_goes _ _ _ _) (by decide)
  refine Ev.Goes.after ?_ (arbiterAtClear_goes _ _ _) (by decide)
  refine Ev.Goes.after ?_ (routesClear_goes _ _ _) (by decide)
  refine Ev.Goes.after ?_ (claimsClear_goes _ _ _) (by decide)
  have k := (clearTrain_goes v b e).mono (ps := [.occupancy, .holders, .carry, .turnouts, .throws, .cdu, .routes, .claims, .claimTable, .control, .entries, .buttons, .counters, .marks, .slots, .transmitter]) (by decide)
  unfold Ev.trackClear
  dsimp only
  split
  · exact k
  · split
    · exact k.after (searchTag_goes _ _ _ _) (by decide)
    · exact k

theorem detectorInput_goes (v : Env) (n : Nat) (level : Bool) (e : Ev) :
    Ev.Goes [.filters] e (e.detectorInput v n level) := by
  unfold Ev.detectorInput
  try dsimp only
  repeat' first
    | with_reducible apply Ev.Goes.refl
    | decide
    | split
    | with_reducible apply Ev.Goes.after ?_ (setFilter_goes _ _ _) ?_

theorem riseExpiry_goes (v : Env) (n : Nat) (e : Ev) :
    Ev.Goes [.filters, .occupancy, .carry, .routes, .claimTable, .control, .marks, .slots] e (e.riseExpiry v n) := by
  unfold Ev.riseExpiry
  try dsimp only
  repeat' first
    | with_reducible apply Ev.Goes.refl
    | decide
    | split
    | with_reducible apply Ev.Goes.after ?_ (occupied_goes _ _ _) ?_
    | with_reducible apply Ev.Goes.after ?_ (setFilter_goes _ _ _) ?_

theorem dropExpiry_goes (v : Env) (n : Nat) (e : Ev) :
    Ev.Goes [.filters, .occupancy, .holders, .carry, .turnouts, .throws, .cdu, .routes, .claims, .claimTable, .control, .entries, .buttons, .counters, .marks, .slots, .transmitter] e (e.dropExpiry v n) := by
  unfold Ev.dropExpiry
  try dsimp only
  repeat' first
    | with_reducible apply Ev.Goes.refl
    | decide
    | split
    | with_reducible apply Ev.Goes.after ?_ (cleared_goes _ _ _) ?_
    | with_reducible apply Ev.Goes.after ?_ (setFilter_goes _ _ _) ?_


/-! ## Settle -/

theorem settleMoves_goes (v : Env) (e : Ev) :
    Ev.Goes [.holders, .carry, .watches, .table, .buttons, .ready, .counters, .slots, .transmitter] e (e.settleMoves v) := by
  unfold Ev.settleMoves
  try dsimp only
  repeat' first
    | with_reducible apply Ev.Goes.refl
    | decide
    | split
    | with_reducible apply Ev.Goes.after ?_ (examineTable_goes _ _) ?_

theorem settleScan_goes (v : Env) (e : Ev) :
    Ev.Goes [.holders, .carry, .turnouts, .throws, .cdu, .routes, .waiting, .claims, .control, .entries, .buttons, .counters, .slots, .transmitter] e (e.settleScan v) := by
  unfold Ev.settleScan
  try dsimp only
  repeat' first
    | with_reducible apply Ev.Goes.refl
    | decide
    | split
    | with_reducible apply Ev.Goes.after ?_ (scanList_goes _ _) ?_

theorem settleSignals_goes (v : Env) (e : Ev) :
    Ev.Goes [.ranks, .marks] e (e.settleSignals v) := by
  unfold Ev.settleSignals
  try dsimp only
  repeat' first
    | with_reducible apply Ev.Goes.refl
    | decide
    | split
    | with_reducible apply Ev.Goes.after ?_ (evaluateAll_goes _ _ _) ?_


/-! ## Startup -/

theorem sendAnnounce_goes (v : Env) (fault : Bool) (e : Ev) :
    Ev.Goes [.counters, .slots, .transmitter] e (e.sendAnnounce v fault) := by
  unfold Ev.sendAnnounce
  try dsimp only
  repeat' first
    | with_reducible apply Ev.Goes.refl
    | decide
    | split
    | with_reducible apply Ev.Goes.after ?_ (send_goes _ _ _ _ _) ?_

theorem readDetector_goes (b : Nat) (active : Bool) (e : Ev) :
    Ev.Goes [.filters, .occupancy] e (e.readDetector b active) := by
  have k := (setFilter_goes b (fun _ => ⟨if active then .occupied else .clear, none⟩) e).mono
    (ps := [.filters, .occupancy]) (by decide)
  refine k.after (setBlock_train_goes _ (fun _ _ => rfl) fun _ _ h => ?_) (by decide)
  cases active <;> simp_all

theorem readDetectors_goes (v : Env) (e : Ev) :
    Ev.Goes [.filters, .occupancy] e (e.readDetectors v) := by
  unfold Ev.readDetectors
  refine Ev.Goes.foldl (fun e b => ?_) _ _
  split
  · exact .refl _ _
  · exact readDetector_goes _ _ _

theorem readContacts_goes (v : Env) (e : Ev) :
    Ev.Goes [.holders, .carry, .turnouts, .throws, .cdu, .routes, .waiting, .claims, .control, .entries, .buttons, .record, .counters, .slots, .transmitter] e (e.readContacts v) := by
  unfold Ev.readContacts
  try dsimp only
  repeat' first
    | with_reducible apply Ev.Goes.refl
    | decide
    | with_reducible apply Ev.Goes.trans ?_ (Ev.Goes.foldl (fun _ _ => ?_) _ _)
    | split
    | with_reducible apply Ev.Goes.after ?_ (enterFailed_goes _ _ _ _) ?_
    | with_reducible apply Ev.Goes.after ?_ (setTurnout_goes _ _ _) ?_

theorem startProving_goes (v : Env) (e : Ev) :
    Ev.Goes [.ranks] e (e.startProving v) := by
  unfold Ev.startProving
  try dsimp only
  repeat' first
    | with_reducible apply Ev.Goes.refl
    | decide
    | with_reducible apply Ev.Goes.trans ?_ (Ev.Goes.foldl (fun _ _ => ?_) _ _)
    | split
    | with_reducible apply Ev.Goes.after ?_ (setSignal_shown_goes _ ?_) ?_
    | exact fun _ => rfl

theorem readLock_goes (v : Env) (e : Ev) :
    Ev.Goes [.table] e (e.readLock v) := by
  unfold Ev.readLock
  try dsimp only
  repeat' first
    | with_reducible apply Ev.Goes.refl
    | decide
    | split
    | with_reducible apply Ev.Goes.after ?_ (ttc_goes _ _) ?_

theorem readButtons_goes (v : Env) (e : Ev) :
    Ev.Goes [.buttons, .ready] e (e.readButtons v) := by
  unfold Ev.readButtons
  try dsimp only
  repeat' first
    | with_reducible apply Ev.Goes.refl
    | decide
    | with_reducible apply Ev.Goes.trans ?_ (Ev.Goes.foldl (fun _ _ => ?_) _ _)
    | split
    | with_reducible apply Ev.Goes.after ?_ (keepReady_goes _ _) ?_
    | with_reducible apply Ev.Goes.after ?_ (setButton_goes _ _ _) ?_

theorem enterRunning_goes (v : Env) (e : Ev) :
    Ev.Goes [.filters, .occupancy, .holders, .republish, .carry, .turnouts, .throws, .cdu, .routes, .waiting, .claims, .control, .ranks, .table, .entries, .buttons, .ready, .refresh, .record, .counters, .marks, .slots, .transmitter] e (e.enterRunning v) := by
  unfold Ev.enterRunning
  try dsimp only
  repeat' first
    | with_reducible apply Ev.Goes.refl
    | decide
    | split
    | with_reducible apply Ev.Goes.after ?_ (callCompose_goes _) ?_
    | with_reducible apply Ev.Goes.after ?_ (publishAll_goes _ _) ?_
    | with_reducible apply Ev.Goes.after ?_ (readButtons_goes _ _) ?_
    | with_reducible apply Ev.Goes.after ?_ (readContacts_goes _ _) ?_
    | with_reducible apply Ev.Goes.after ?_ (readDetectors_goes _ _) ?_
    | with_reducible apply Ev.Goes.after ?_ (readLock_goes _ _) ?_
    | with_reducible apply Ev.Goes.after ?_ (startProving_goes _ _) ?_
    | with_reducible apply Ev.Goes.after ?_ (startTimers_goes _) ?_

end Sys2Proof.Machine
end

