-- ==== Sys2Proof/Laws/Settling.lean ====
section
/-! SUPPORT. The transmitter's choice, and what the end of an event may change. -/

namespace Sys2Proof.Machine

/-! ## The transmitter (R188, R191) -/

/-- The frame in hand, of those that the link was asked to send or to tell of. -/
theorem offer_onward_of {l l' : Link} (hi : l.inHand = none)
    (hf : ∀ f, f ∈ l.ordinary ∨ f ∈ l.urgent → l'.carries f)
    (hb : ∀ b ∈ l.markBlocks, l'.reports b) (hn : ∀ n ∈ l.markSignals, l'.reportsSignal n)
    (ht : ∀ t ∈ l.faults.turnouts, l'.tellsTurnout t) (hd : ∀ t ∈ l.faults.signals, l'.tellsSignal t)
    (hr : ∀ t ∈ l.faults.routes, l'.tellsLostClaim t) (hl : ∀ t ∈ l.tracking.lost, l'.tellsLostTag t)
    (hs : ∀ t ∈ l.tracking.stray, l'.tellsStray t) : l.Onward l' where
  frames f h := by
    rcases h with h | h | h
    · exact hf f (.inl h)
    · exact hf f (.inr h)
    · simp [hi] at h
  blocks b h := h.elim (hb b) (by simp [hi])
  signals b h := h.elim (hn b) (by simp [hi])
  turnouts b h := h.elim (ht b) (by simp [hi])
  dark b h := h.elim (hd b) (by simp [hi])
  lostClaim b h := h.elim (hr b) (by simp [hi])
  lostTag b h := h.elim (hl b) (by simp [hi])
  stray b h := h.elim (hs b) (by simp [hi])

theorem mem_take_or_drop {α : Type} {x : α} {l : List α} (n : Nat) (h : x ∈ l) : x ∈ l.take n ∨ x ∈ l.drop n := by
  rw [← List.take_append_drop n l] at h
  exact List.mem_append.1 h

/-- R191: the arbiter's choice loses nothing and keeps the bounds. -/
theorem arbitrate_goes (v : Env) (n : Nat) (e : Ev) (hi : e.u.lnk.inHand = none) :
    Ev.Goes [.marks, .slots, .transmitter] e { e with u.lnk := arbitrate v n e.u } := by
  refine ⟨?_, ?_, ?_⟩
  · intro p hp
    cases p <;> first
      | exact absurd (by decide) hp
      | (unfold arbitrate Link.takeInHand Link.emptySlot; dsimp only; repeat' split) <;> simp [Part.agree]
  · rintro ⟨a, b, c, d⟩
    refine ⟨a, b, ?_, d⟩
    obtain ⟨⟨q1, q2, q3⟩, cc, m1, m2, m3⟩ := c
    show Link.sound (arbitrate v n e.u)
    unfold arbitrate
    dsimp only
    split
    · exact ⟨⟨q1, q2, q3⟩, cc, m1.drop, m2, m3⟩
    · split
      · exact ⟨⟨q1, q2, q3⟩, cc, m1, m2.drop, m3⟩
      · split
        · rename_i hq
          exact ⟨⟨q1, q2, by
            rw [hq] at q3; simp only [List.length_cons] at q3; exact Nat.le_of_succ_le q3⟩, cc, m1, m2, m3⟩
        · split
          · unfold Link.emptySlot
            split <;> exact ⟨⟨q1, q2, q3⟩, cc, m1, m2, m3.filter _⟩
          · exact ⟨⟨q1, q2, q3⟩, cc, m1, m2, m3⟩
  · show Link.Onward e.u.lnk (arbitrate v n e.u)
    unfold arbitrate
    dsimp only
    split
    · apply offer_onward_of hi
      · rintro f (h | h)
        · exact .inl h
        · exact .inr (.inl h)
      · intro b h
        rcases mem_take_or_drop 8 h with h | h
        · exact .inr ⟨_, _, rfl, rfl, h⟩
        · exact .inl h
      all_goals intro b h; exact .inl h
    · split
      · apply offer_onward_of hi
        · rintro f (h | h)
          · exact .inl h
          · exact .inr (.inl h)
        · intro b h; exact .inl h
        · intro b h
          rcases mem_take_or_drop 8 h with h | h
          · exact .inr ⟨_, _, rfl, rfl, h⟩
          · exact .inl h
        all_goals intro b h; exact .inl h
      · split
        · rename_i f rest hq
          apply offer_onward_of hi
          · rintro g (h | h)
            · rw [hq] at h
              rcases List.mem_cons.1 h with rfl | h
              · exact .inr (.inr rfl)
              · exact .inl h
            · exact .inr (.inl h)
          all_goals intro b h; exact .inl h
        · rename_i hq
          split
          · rename_i k ks hp ho
            unfold Link.emptySlot
            cases k <;> dsimp only
            · apply offer_onward_of hi
              · rintro g (h | h)
                · simp [hq] at h
                · exact .inr (.inl h)
              all_goals intro b h
              · exact .inl h
              · exact .inl h
              · exact .inr ⟨_, _, rfl, rfl, h⟩
              · exact .inr ⟨_, _, rfl, rfl, h⟩
              · exact .inr ⟨_, _, rfl, rfl, h⟩
              · exact .inl h
              · exact .inl h
            · apply offer_onward_of hi
              · rintro g (h | h)
                · simp [hq] at h
                · exact .inr (.inl h)
              all_goals intro b h
              · exact .inl h
              · exact .inl h
              · exact .inl h
              · exact .inl h
              · exact .inl h
              · exact .inr ⟨_, _, rfl, rfl, h⟩
              · exact .inr ⟨_, _, rfl, rfl, h⟩
            · apply offer_onward_of hi
              · rintro g (h | h)
                · simp [hq] at h
                · exact .inr (.inl h)
              all_goals intro b h; exact .inl h
          · exact .refl _

theorem urgent_goes (f : Frame) (rest : List Frame) (e : Ev) (hi : e.u.lnk.inHand = none)
    (hu : e.u.lnk.urgent = f :: rest) :
    Ev.Goes [.marks, .slots, .transmitter] e
      { e with u.lnk := ({ e.u.lnk with urgent := rest }).takeInHand ⟨f, .urgent, 1, none, false⟩ } := by
  refine ⟨?_, ?_, ?_⟩
  · intro p hp; cases p <;> first | exact absurd (by decide) hp | simp [Part.agree, Link.takeInHand]
  · rintro ⟨a, b, ⟨⟨q1, q2, q3⟩, cc⟩, d⟩
    exact ⟨a, b, ⟨⟨q1, by
      rw [hu] at q2; simp only [List.length_cons] at q2; exact Nat.le_of_succ_le q2, q3⟩, cc⟩, d⟩
  · apply offer_onward_of hi
    · rintro g (h | h)
      · exact .inl h
      · rw [hu] at h
        rcases List.mem_cons.1 h with rfl | h
        · exact .inr (.inr rfl)
        · exact .inr (.inl h)
    all_goals intro b h; exact .inl h

/-- R188: what the transmitter does by itself. -/
theorem offerFrames_goes (v : Env) (e : Ev) : Ev.Goes [.marks, .slots, .transmitter] e (e.offerFrames v) := by
  unfold Ev.offerFrames offer
  dsimp only
  split
  · exact .refl _ _
  · split
    · exact .refl _ _
    · rename_i h
      have hi : e.u.lnk.inHand = none := by
        cases hx : e.u.lnk.inHand <;> simp_all
      split
      · rename_i hu; exact urgent_goes _ _ _ hi hu
      · rename_i hu; exact urgent_goes _ _ _ hi hu
      · exact arbitrate_goes _ _ _ hi
      · exact .refl _ _

/-! ## The end of an event -/

theorem settleBoard_goes (v : Env) (e : Ev) : Ev.Goes [.board] e (e.settleBoard v) := by
  unfold Ev.settleBoard
  split
  · exact (recompose_goes v e).trans (sendRows_goes _ _)
  · exact sendRows_goes _ _

theorem settleMoves_calm {v : Env} {e : Ev} (h : e.examine = false ∨ e.u.ttc.queue = []) : e.settleMoves v = e := by
  unfold Ev.settleMoves
  rcases h with h | h
  · simp [h]
  · split
    · unfold Ev.examineTable
      split
      · unfold Ev.examineMoves
        simp [h]
      · rfl
    · rfl

theorem settleScan_calm {v : Env} {e : Ev} (h : e.scan = false ∨ e.u.ilk.waiting = []) : e.settleScan v = e := by
  unfold Ev.settleScan
  rcases h with h | h
  · simp [h]
  · split
    · simp [Ev.scanList, h]
    · rfl

/-- The end of an event that starts no move and no route. -/
theorem settle_calm {v : Env} {e : Ev} (hm : e.examine = false ∨ e.u.ttc.queue = [])
    (hs : e.scan = false ∨ e.u.ilk.waiting = []) : Goes Part.ofCalm e.u (settle v e) := by
  unfold settle
  rw [settleMoves_calm hm, settleScan_calm hs]
  have h : Ev.Goes Part.ofCalm e e.testPossessions := (testPossessions_goes e).mono (by decide)
  exact ((((h.after (settleSignals_goes v _) (by decide)).after (carryTimer_goes v _) (by decide)).after
    (notices_goes v _) (by decide)).after (settleBoard_goes v _) (by decide)).after (offerFrames_goes v _) (by decide)

/-- The parts that the end of any event may change. -/
def Part.ofSettle : List Part :=
  [.holders, .carry, .lapse, .turnouts, .throws, .cdu, .routes, .waiting,
    .claims, .control, .ranks, .watches, .table, .entries, .buttons, .ready, .board, .counters, .marks, .slots, .transmitter]

/-- The end of an event. -/
theorem settle_goes (v : Env) (e : Ev) : Goes Part.ofSettle e.u (settle v e) := by
  unfold settle
  have h : Ev.Goes Part.ofSettle e (e.settleMoves v) := (settleMoves_goes v e).mono (by decide)
  exact ((((((h.after (settleScan_goes v _) (by decide)).after (testPossessions_goes _) (by decide)).after
    (settleSignals_goes v _) (by decide)).after (carryTimer_goes v _) (by decide)).after
    (notices_goes v _) (by decide)).after (settleBoard_goes v _) (by decide)).after (offerFrames_goes v _) (by decide)

/-- An event that calls for nothing. -/
structure Ev.Silent (e : Ev) : Prop where
  causes  : e.causes = []
  granted : e.granted = []
  holders : e.holders = []
  signals : e.signals = []
  scan    : e.scan = false
  examine : e.examine = false

theorem testPossessions_silent {e : Ev} (h : e.holders = []) : e.testPossessions = e := by
  have k : ∀ (l : List Nat), l.foldl (fun (e : Ev) n => match e.u.watch n with
    | some w =>
      if w.kind = .pending ∧ e.holders.any w.inRange = true ∧ e.u.rangeClear w = true then
        { e.setWatch n (some { w with kind := .active }) with granted := setInsert n e.granted }
      else e
    | none => e) e = e := by
    intro l
    induction l with
    | nil => rfl
    | cons x xs ih =>
      rw [List.foldl_cons]
      cases hw : e.u.watch x with
      | none => exact ih
      | some w => simpa [h] using ih
  exact k _

theorem notices_silent {v : Env} {e : Ev} (hc : e.causes = []) (hg : e.granted = []) : e.notices v = e := by
  have k : ∀ n, e.noticesOf v n = e := by
    intro n
    unfold Ev.noticesOf
    split
    · rfl
    · have h : ∀ w : Watch, ∀ l : List Nat, l.foldl (fun (e : Ev) b =>
          let bits := countedBits e.causes w.mask b
          if w.inRange b && bits != 0 then e.notice v n w bits b else e) e = e := by
        intro w l
        induction l with
        | nil => rfl
        | cons x xs ih =>
          rw [List.foldl_cons]
          have : countedBits e.causes w.mask x = 0 := by simp [countedBits, hc]
          simpa [this] using ih
      simp only [h, ite_self, hg, List.not_mem_nil, if_false]
  unfold Ev.notices
  induction List.range 8 with
  | nil => rfl
  | cons x xs ih => rw [List.foldl_cons, k]; exact ih

/-- The end of an event that calls for nothing changes the parts that any end may. -/
theorem settle_silent {v : Env} {e : Ev} (h : e.Silent) : Goes Part.ofEnd e.u (settle v e) := by
  unfold settle
  rw [settleMoves_calm (.inl h.examine), settleScan_calm (.inl h.scan), testPossessions_silent h.holders]
  have hs : e.settleSignals v = e := by
    unfold Ev.settleSignals Ev.evaluateAll
    simp [h.signals]
  dsimp only
  rw [hs]
  have hc : (e.carryTimer v).causes = [] ∧ (e.carryTimer v).granted = [] := by
    unfold Ev.carryTimer
    refine ⟨?_, ?_⟩ <;> split <;> (try split) <;> first | exact h.causes | exact h.granted
  rw [notices_silent hc.1 hc.2]
  have k : Ev.Goes Part.ofEnd e (e.carryTimer v) := (carryTimer_goes v e).mono (by decide)
  exact (k.after (settleBoard_goes v _) (by decide)).after (offerFrames_goes v _) (by decide)

end Sys2Proof.Machine
end

