-- ==== Sys2Proof/WellFormed.lean ====
section
/-! DEFINITION. Well-formed commands: item numbers in the ranges of section 5.2, and operands of a size the part
can meet. -/

namespace Sys2Proof

/-- A mirror number in range (R12): block mirrors 0 to 15, signal mirrors 0 to 7. -/
def MirrorId.wellFormed : MirrorId → Bool
  | .block i => decide (i < 16)
  | .signal i => decide (i < 8)

/-- An image lies in the 8 KiB memory, as does a read that failed, and has a turntable section exactly when it has a turntable record
(section 12.2). The header bytes 18 and 19 are the offset of the turntable section. -/
def Image.wellFormed (i : Image) : Bool :=
  decide (i.bytes.length ≤ 8192) && i.unread.all (fun k => decide (k < 8192)) &&
    ((i.bytes.getD 18 0 != 0 || i.bytes.getD 19 0 != 0) == i.records.turntable.isSome)

/-- The operands of a command are in range (section 5.2, section 7 of 00_scope.md). A frame on the line may have
any length: R183 judges it. -/
def Instr.wellFormed : Instr → Bool
  | .imageReadComplete image => image.wellFormed
  | .detectorRiseExpiry n | .detectorDropExpiry n | .detectorInputChange n _ => decide (n < 48)
  | .mirrorLapse m => m.wellFormed
  | .turnoutFeedbackChange t _ _ | .turnoutContactInputChange t _ _
  | .confirmWindowExpiry t | .motorTimeoutExpiry t => decide (t < 32)
  | .approachReleaseExpiry n | .claimAnswerTimeout n | .ownerWaitExpiry n => decide (n < 64)
  | .claimBlockListReceived bytes => decide (bytes.length = 9)
  | .approachControlExpiry n | .lampProvingExpiry n | .redLampInputChange n _ => decide (n < 24)
  | .buttonPress k | .buttonReleaseFilter k | .guardExpiry k | .lampFlashExpiry k
  | .buttonInputChange k _ => decide (k < 16)
  | .powerOn | .resetPin | .supplySettled | .settleTimerExpiry | .restart | .republishTimerExpiry
  | .deckCarryLapse | .tagSet | .turnoutRequest | .solenoidPulseEnd | .cduRechargeExpiry | .routeRequest
  | .routeCancel | .claimAnswerGrant | .claimAnswerRefuse | .claimRequestTaken | .claimRelease | .claimPurge
  | .zoneStop | .zoneResume | .watchSet | .watchClear | .turntableMove | .turntableSwap | .turntableCancelAll
  | .lockConfirmWithdrawn | .lockConfirmEngaged | .unlockConfirmExpiry | .stepIntervalExpiry _
  | .lockConfirmExpiry | .scaleRollover | .clockSet | .clockControlRun | .clockControlStop | .clockBeacon
  | .timetableLoad | .timetableCancel | .boardRowSent | .boardRefreshExpiry | .frameEnd _ _
  | .occupancyReportTaken | .aspectReportTaken | .announceTaken | .refreshQuery | .statusQuery
  | .urgentGapReached | .ordinaryGapReached | .frameSent | .collision | .backoffRetry
  | .lockConfirmInputChange _ | .lineStartBit => true

end Sys2Proof
end

