-- ==== Sys2Proof/Tests/Slice0.lean ====
section
/-! SUPPORT. Tests: ill-formed commands refused, the manual's worked examples, and for each statement of
`Certificates/Slice0/Obligations.lean` with hypotheses a state and operands that meet them. -/

set_option Elab.async false

namespace Sys2Proof.Tests

open Sys2Proof.Machine

/-! ## Well-formedness: each check refuses -/

theorem test_wf_detector : (Instr.detectorRiseExpiry 48).wellFormed = false ∧ (Instr.detectorDropExpiry 47).wellFormed
    ∧ (Instr.detectorInputChange 48 true).wellFormed = false := by decide
theorem test_wf_mirror : (Instr.mirrorLapse (.block 16)).wellFormed = false
    ∧ (Instr.mirrorLapse (.signal 8)).wellFormed = false ∧ (Instr.mirrorLapse (.block 15)).wellFormed := by decide
theorem test_wf_turnout : (Instr.turnoutFeedbackChange 32 true false).wellFormed = false
    ∧ (Instr.turnoutContactInputChange 32 .normal true).wellFormed = false
    ∧ (Instr.confirmWindowExpiry 32).wellFormed = false ∧ (Instr.motorTimeoutExpiry 31).wellFormed := by decide
theorem test_wf_route : (Instr.approachReleaseExpiry 64).wellFormed = false
    ∧ (Instr.claimAnswerTimeout 64).wellFormed = false ∧ (Instr.ownerWaitExpiry 63).wellFormed := by decide
theorem test_wf_block_list : (Instr.claimBlockListReceived [1, 2]).wellFormed = false := by decide
theorem test_wf_signal : (Instr.lampProvingExpiry 24).wellFormed = false
    ∧ (Instr.redLampInputChange 24 true).wellFormed = false ∧ (Instr.approachControlExpiry 23).wellFormed := by decide
theorem test_wf_button : (Instr.buttonPress 16).wellFormed = false ∧ (Instr.guardExpiry 16).wellFormed = false
    ∧ (Instr.buttonInputChange 15 true).wellFormed := by decide

/-! ## The manual's worked examples -/

/-- R182: the CRC of the bytes 0x31 to 0x39. -/
theorem test_crc_check_value :
    crc [0x31, 0x32, 0x33, 0x34, 0x35, 0x36, 0x37, 0x38, 0x39] = 0x29B1#16 := by decide +kernel

/-- The geometry of the planning examples (chapter 8). -/
def exampleGeometry : TurntableCfg where
  steps    := 6400
  backlash := 20
  limit    := 12800
  home     := 0
  polarity := 1000
  slip     := 8
  i0       := 20000
  i7       := 8000
  perLevel := 25
  deck     := 3
  roads    := [some ⟨5900, 4⟩, some ⟨1200, 5⟩]

theorem test_level_intervals : (List.range 8).map exampleGeometry.interval =
    [20000, 18286, 16572, 14858, 13143, 11429, 9715, 8000] := by decide

/-- Chapter 8, moves 1 and 2, the winding limit of 6,420, and the half turn. -/
theorem test_plans : planMove exampleGeometry 5900 5900 .cw 1200 = ⟨.cw, 1700, 0⟩
    ∧ planMove exampleGeometry 1200 7600 .cw 800 = ⟨.ccw, 420, 20⟩
    ∧ planMove { exampleGeometry with limit := 6420 } 6000 6000 .cw 1000 = ⟨.ccw, 5020, 20⟩
    ∧ planMove exampleGeometry 2600 5800 .cw 5800 = ⟨.cw, 3200, 0⟩ := by decide +kernel
theorem test_run_times : exampleGeometry.runTime 1700 = 16000150 ∧ exampleGeometry.runTime 420 = 5760150
    ∧ exampleGeometry.runTime 20 = 400000 ∧ exampleGeometry.runTime 100 = 1914300 := by decide +kernel
theorem test_polarity : exampleGeometry.reversedAt 1200 = false ∧ exampleGeometry.reversedAt 800 = true
    ∧ exampleGeometry.reversedAt 5800 = true := by decide
/-- Chapter 8, the abort and the slip of its worked example. -/
theorem test_abort_and_slip : exampleGeometry.slipError 0 = 0 ∧ exampleGeometry.slipError 6390 = -10
    ∧ rampLength exampleGeometry ⟨.cw, 1700, 600, none⟩ (lastLevel exampleGeometry ⟨.cw, 1700, 600, none⟩) = 175 := by
  decide +kernel

/-! ## A station for the witnesses -/

/-- A configuration with an item of every kind. -/
def exampleConfig : Config where
  station   := ⟨0, 0, 50, 0, 4, 1, true⟩
  blocks    := [⟨.plain, none, [.mirror 0, .here 1], true, none, none⟩,
    ⟨.platform, none, [.here 0, .here 2], true, none, none⟩, ⟨.plain, none, [.here 1, .here 3], true, none, none⟩,
    ⟨.deck, none, [.here 2, .here 4], false, none, none⟩, ⟨.road, some 0, [.here 3], false, none, none⟩,
    ⟨.road, some 1, [.here 3], false, none, none⟩]
  bmirrors  := [some ⟨9, 7⟩]
  smirrors  := [some ⟨9, 3⟩]
  turnouts  := [some ⟨.solenoid, .twoContact, 2, 100, 1000⟩, some ⟨.motor, .none, 2, 20, 2000⟩,
    some ⟨.motor, .twoContact, 2, 20, 2000⟩, some ⟨.solenoid, .none, 1, 100, 1000⟩,
    some ⟨.motor, .reverseContact, 1, 20, 2000⟩]
  signals   := [some ⟨.three, 3, some (.here 1), 30, 5, true⟩, some ⟨.two, 1, some (.mirror 0), 30, 5, false⟩]
  routes    := [some ⟨0, .up, [2], [(0, .normal)], [(1, .normal)], none, .full, some (.mirror 0), none, none⟩,
    some ⟨1, .up, [0], [], [], none, .medium, some (.here 0), some ⟨9, [5]⟩, none⟩,
    some ⟨0, .up, [2, 3], [], [], none, .slow, none, none, some (0, .a)⟩,
    some ⟨1, .up, [0, 1], [(3, .reverse)], [(2, .reverse)], some 2, .full, none, none, none⟩,
    some ⟨0, .up, [2], [], [(4, .normal)], none, .full, none, none, none⟩]
  turntable := some exampleGeometry
  timetable := [some ⟨.timed, some 8, 30, 5, 0, none, 0, 1⟩, some ⟨.onDemand, none, 0, 5, 0, some 7, 0, 1⟩,
    some ⟨.show, some 9, 0, 0, 0, none, 1, 2⟩]
  texts     := []
  buttons   := [⟨.depart, 1, 5⟩, ⟨.turntableShow, 0, 5⟩, ⟨.stopPlunger, 0, 0⟩]

/-- Station 5, RUNNING with that configuration, every unit at its first values. -/
def base : State :=
  { State.reset with
    sys := { State.reset.sys with station := .running, number := some 5, cfg := exampleConfig }
    units := Units.initial.configured exampleConfig }

/-- A frame of station 9 to `dest`. -/
def frame (dest : Nat) (k : FrameKind) (p : List Byte) : RxFrame := ⟨⟨dest, 9, k, p⟩, false, none⟩

/-- A state with a frame to this station alone waiting. -/
def got (s : State) (k : FrameKind) (p : List Byte) : State := { s with units.lnk.rx := [frame 5 k p] }

/-- A state with other units. -/
def but (s : State) (f : Units → Units) : State := { s with units := f s.units }

theorem test_base_sized : base.units.sized := by unfold Units.sized; decide +kernel
theorem test_base_nothing_waits : base.units.nothingWaits := ⟨rfl, rfl⟩
theorem test_base_can_send : base.canSend 5 ∧ base.canSendUrgent 5 := by
  unfold State.canSend State.canSendUrgent; decide
theorem test_base_receives : (got base .tagSet [1, 0, 7]).receives .tagSet (frame 5 .tagSet [1, 0, 7]) [] :=
  ⟨rfl, rfl, rfl⟩
/-! ## The invariants, checked record by record -/

theorem getD_of_length_le {α : Type} {l : List α} {n : Nat} (a : α) (h : l.length ≤ n) : l.getD n a = a := by
  simp [List.getD, List.getElem?_eq_none h]

/-- The invariants of turnouts for turnouts 0 to 31. -/
def drivesChecked (s : State) : Bool :=
  let u := s.units
  decide ((u.tdu.queue.map Prod.fst).Nodup) && decide (u.motorsMoving s.env ≤ 4)
  && decide (u.tdu.turnouts.length ≤ 32) && (u.tdu.queue.all fun q => decide (q.1 < 32))
  && (List.range 32).all fun t =>
    let x := u.turnout t
    ((u.tdu.queue.map Prod.fst).contains t == (x.state == .queued))
    && (x.drive.isSome == (x.state == .moving))
    && (x.state != .moving || (s.sys.cfg.turnout t).isSome)
    && (x.drive.all fun d => d.stage != .pulse || (match u.tdu.cdu with | .pulsing k _ => k == t | _ => false))
    && (x.requester.isNone || x.state == .queued || x.state == .moving)
    && (s.env.running || (x.state != .queued && x.state != .moving))

theorem drives_of_checked (s : State) (h : drivesChecked s = true) : s.units.drivesSound s.env := by
  simp only [drivesChecked, Bool.and_eq_true, decide_eq_true_eq, List.all_eq_true, List.mem_range] at h
  obtain ⟨⟨⟨⟨h1, h2⟩, h3⟩, h4⟩, h⟩ := h
  have out (t : Nat) (ht : ¬ t < 32) : s.units.turnout t = .initial := getD_of_length_le _ (by omega)
  refine ⟨h1, fun t => ?_, fun t => ?_, fun t ht => ?_, fun t p hp => ?_, h2, fun t ht => ?_, fun hr t => ?_⟩ <;>
    by_cases hlt : t < 32
  all_goals first
    | (have := h t hlt; revert this) | (have := out t hlt)
  · intro h; have := h.1.1.1.1.1; simp at this; rw [← Bool.coe_iff_coe] at this;  simpa using this
  · rw [this]; simp only [Turnout.initial]; constructor
    · intro hm; obtain ⟨q, hq, rfl⟩ := List.mem_map.1 hm; exact absurd (h4 q hq) hlt
    · intro h; cases h
  · intro h; have := h.1.1.1.1.2; simp at this; rw [← Bool.coe_iff_coe] at this; simpa using this
  · rw [this]; simp [Turnout.initial]
  · intro h; have : (s.sys.cfg.turnout t).isSome = true := by have := h.1.1.1.2; simpa [ht] using this
    exact this
  · rw [this] at ht; cases ht
  · intro h; have := h.1.1.2; rw [hp] at this; revert this
    simp only [Option.all_some]; split <;> simp
    rintro rfl; exact ⟨_, ‹_›⟩
  · rw [this] at hp; cases hp
  · intro h; have := h.1.2; revert this; cases hq : (s.units.turnout t).requester <;> simp_all
  · rw [this] at ht; cases ht
  · intro h; have := h.2; simp_all
  · rw [this]; simp [Turnout.initial]

/-- What `Lawful` asks of a configuration, record by record. -/
def lawfulChecked (c : Config) : Bool :=
  (c.routes.all fun x => x.all fun r => (r.turnouts ++ r.flank).all fun y => decide (y.1 < 32) && (c.turnout y.1).isSome)
  && c.turntable.all fun g => decide (0 < g.steps ∧ g.deck < 48 ∧ g.home < g.steps ∧ (g.limit = 0 ∨ g.steps + g.backlash ≤ g.limit))

theorem lawful_of_checked (c : Config) (h : lawfulChecked c = true) : Lawful c := by
  simp only [lawfulChecked, Bool.and_eq_true, List.all_eq_true] at h
  refine ⟨fun n r hr x hx => ?_, fun g hg => ?_⟩
  · have hm : some r ∈ c.routes := by
      simp only [Config.route, List.getD, Option.getD_eq_iff] at hr
      rcases hr with hr | hr
      · exact List.mem_of_getElem? hr
      · cases hr.2
    have := h.1 _ hm
    simp only [Option.all_some, List.all_eq_true, Bool.and_eq_true, decide_eq_true_eq] at this
    exact this x hx
  · have := h.2; rw [hg] at this; simpa using this

/-- The parts of the station's invariant that are finite as they stand. -/
def soundParts (s : State) : Prop :=
  s.units.sized ∧ s.units.clearHoldsNothing ∧ s.units.lnk.sound ∧ s.units.record.count ≤ 255 ∧ s.units.listsBounded
    ∧ s.units.readyKept s.env ∧ drivesChecked s = true ∧ lawfulChecked s.sys.cfg = true

theorem sound_of_parts (s : State) (h : soundParts s) : s.sound :=
  ⟨⟨h.1, h.2.1, h.2.2.1, h.2.2.2.1⟩, h.2.2.2.2.1, h.2.2.2.2.2.1, drives_of_checked s h.2.2.2.2.2.2.1,
    lawful_of_checked _ h.2.2.2.2.2.2.2⟩

/-- The invariant of the signals, each at rank 0 with an evaluated route, if any, that it enters. -/
def signalsChecked (s : State) : Bool :=
  decide (s.units.ase.signals.length ≤ 24 ∧ s.sys.cfg.signals.length ≤ 24) && (List.range 24).all fun n =>
    let g := s.units.signal n
    g.rank == 0 && g.top == (s.sys.cfg.signal n).any (fun c => greenLit c.head 0)
    && g.route.all (fun k => (s.sys.cfg.route k).any fun r => r.entry == n) && (s.env.running || g.route.isNone)

theorem signals_of_checked (s : State) (h : signalsChecked s = true) : s.signalsSound := by
  simp only [signalsChecked, Bool.and_eq_true, decide_eq_true_eq, List.all_eq_true, List.mem_range, beq_iff_eq] at h
  obtain ⟨⟨h1, h2⟩, h⟩ := h
  have out (n : Nat) (hn : ¬ n < 24) : s.units.signal n = .initial := getD_of_length_le _ (by omega)
  have cfg (n : Nat) (hn : ¬ n < 24) : s.sys.cfg.signal n = none := getD_of_length_le _ (by omega)
  refine ⟨fun n hn => ?_, fun n k hk => ?_, fun n => ?_, fun hr n => ?_⟩ <;> by_cases hlt : n < 24
  · rw [(h n hlt).1.1.1] at hn; cases hn
  · rw [out n hlt] at hn; cases hn
  · have := (h n hlt).1.2; rw [hk, Option.all_some] at this
    cases hc : s.sys.cfg.route k with
    | none => rw [hc] at this; cases this
    | some r => rw [hc] at this; exact ⟨r, rfl, by simpa using this⟩
  · rw [out n hlt] at hk; cases hk
  · rw [(h n hlt).1.1.2, (h n hlt).1.1.1]
  · rw [out n hlt, cfg n hlt]; rfl
  · refine ⟨(h n hlt).1.1.1, ?_⟩
    have := (h n hlt).2; rw [hr] at this; simpa using this
  · rw [out n hlt]; exact ⟨rfl, rfl⟩

/-- The deck's invariant, with the quantifiers over the move, its plan and its run bounded by what it holds. -/
def deckParts (g : TurntableCfg) (u : Units) : Prop :=
  (u.ttc.phase.inMove = true → (u.block g.deck).holder = .turntable)
  ∧ (u.ttc.unlockTime.isSome = true → u.ttc.phase = .unlocking)
  ∧ (u.ttc.lockTime.isSome = true → u.ttc.phase = .locking)
  ∧ (u.ttc.homed = true → u.ttc.winding.natAbs ≤ g.limit)
  ∧ (u.ttc.phase = .homing → u.ttc.homed = false)
  ∧ (u.ttc.phase = .unlocking ∨ u.ttc.phase = .homing ∨ u.ttc.phase = .settling → u.ttc.current = none)
  ∧ (u.ttc.phase = .moving → ∀ m ∈ u.ttc.current, ∀ x ∈ m.run, 0 < x.left ∧ x.left ≤ x.len - x.made
      ∧ (windingAfter u.ttc.winding x.turn (x.len - x.made)).natAbs ≤ g.limit
      ∧ ∀ p ∈ m.plan, (windingAfter u.ttc.winding x.turn (x.len - x.made) + p.back).natAbs ≤ g.limit)

theorem deck_of_parts (g : TurntableCfg) (u : Units) (h : deckParts g u) : u.deckSound g := by
  obtain ⟨h1, h2, h3, h4, h5, h6, h7⟩ := h
  refine ⟨h1, h2, h3, fun a _ => h4 a, ?_, h5, ?_, ?_, ?_⟩
  · rintro (⟨a, _⟩ | a) m hm
    · rw [h6 (.inl a)] at hm; cases hm
    · rw [h6 (.inr (.inl a))] at hm; cases hm
  · intro a _ _ m p hm; rw [h6 (.inl a)] at hm; cases hm
  · rintro (a | a) m x hm hx
    · exact ⟨(h7 a m hm x hx).1, (h7 a m hm x hx).2.1⟩
    · rw [h6 (.inr (.inr a))] at hm; cases hm
  · rintro (a | a) _ _ m x hm hx
    · exact ⟨(h7 a m hm x hx).2.2.1, fun _ p hp => (h7 a m hm x hx).2.2.2 p hp⟩
    · rw [h6 (.inr (.inr a))] at hm; cases hm
/-- The routes' part of laws L6 and L7, with every route IDLE. -/
def idleChecked (s : State) : Bool :=
  decide (s.units.ilk.routes.length ≤ 64 ∧ s.units.clu.claims.length ≤ 64) && (List.range 64).all fun n =>
    (s.units.route n).state == .idle && (s.units.claim n).status == .none

theorem table_of_parts (s : State) (hi : idleChecked s = true) (hd : ∀ g, s.sys.cfg.turntable = some g → deckParts g s.units)
    (hb : s.env.running = true ∨ s.units.ttc.phase.inMove = false ∧ s.units.ttc.homed = false
      ∧ s.units.ttc.unlockTime = none ∧ s.units.ttc.lockTime = none) : s.tableSound := by
  simp only [idleChecked, Bool.and_eq_true, decide_eq_true_eq, List.all_eq_true, List.mem_range, beq_iff_eq] at hi
  obtain ⟨⟨h1, h2⟩, h⟩ := hi
  have idle (n : Nat) : (s.units.route n).state = .idle ∧ (s.units.claim n).status = .none := by
    by_cases hlt : n < 64
    · exact h n hlt
    · rw [show s.units.route n = .initial from getD_of_length_le _ (by omega),
        show s.units.claim n = .initial from getD_of_length_le _ (by omega)]
      exact ⟨rfl, rfl⟩
  refine ⟨fun g hg => deck_of_parts g _ (hd g hg), fun n r c _ _ hs => absurd (idle n).1 hs,
    fun n r _ _ hs => ?_, fun hr => ?_⟩
  · rw [(idle n).2] at hs; cases hs
  · rcases hb with hb | hb
    · rw [hr] at hb; cases hb
    · exact ⟨idle, hb⟩

theorem test_base_sound : base.sound := by
  apply sound_of_parts
  simp only [soundParts, Units.sized, Units.clearHoldsNothing, Link.sound, Link.queuesBounded, Counters.bounded,
    Link.heldOnce, Units.listsBounded, Units.readyKept]
  decide +kernel

theorem test_base_signals_and_table : base.signalsSound ∧ base.tableSound := by
  refine ⟨signals_of_checked _ (by decide +kernel), table_of_parts _ (by decide +kernel) ?_ (.inl rfl)⟩
  intro g hg
  cases hg
  simp only [deckParts]
  decide +kernel
theorem test_base_routes_idle (n : Nat) : (base.units.route n).state = .idle := by
  by_cases h : n < 64
  · have : ∀ n < 64, (base.units.route n).state = .idle := by decide +kernel
    exact this n h
  · rw [show base.units.route n = .initial from getD_of_length_le _ (by
      rw [show base.units.ilk.routes.length = 64 from by decide +kernel]; omega)]
    rfl
theorem test_base_no_route_awaits (t : Nat) : base.units.noRouteAwaits exampleConfig t := by
  intro n r _ _
  rw [test_base_routes_idle]
  decide

/-! ## Worked sequences, one step each -/

/-- Chapter 9, the accumulator at q = 45: the first rollover leaves 30. -/
theorem test_accumulator_remainder :
    (match exec .scaleRollover (but base fun u => { u with clock := ⟨.running, 0, 599985, 45, 0⟩ }) with
      | .next t => (t.units.clock.minute, t.units.clock.acc)
      | _ => (0, 0)) = (1, 30) := by decide +kernel

/-- R154: 127 epochs ahead, round the circle, is newer; 128 is older. -/
theorem test_epoch_newer : newer 71 200 = true ∧ newer 72 200 = false ∧ newer 200 200 = false := by decide

/-- The entries of the beacon jump of chapter 9 with their statuses. -/
def jumpEntries : List (Option Entry) :=
  let x (k : EntryKind) (h : Option Nat) (m l : Nat) (st : EntryStatus) (p : Bool) : Option Entry :=
    some ⟨⟨k, h, m, l, 0, some 99, 0, 1⟩, none, st, p⟩
  [x .timed (some 9) 50 5 .waiting false, x .timed (some 9) 42 2 .due false, x .timed (some 10) 5 0 .waiting false,
    x .show (some 10) 0 0 .waiting false, x .timed (some 9) 38 4 .ready true, x .timed (some 9) 30 3 .cancelled true,
    x .timed none 10 3 .waiting false]

/-- The entries of the jump after minute `m` alone has been skipped. -/
def skipped (m : Nat) : List (Option (EntryStatus × Bool)) :=
  let u := { base.units with entries := jumpEntries, ilk.waiting := [⟨0, ⟨1, none⟩, some 99⟩] }
  ((Ev.start u).skipMinute base.env m).u.entries.map (Option.map fun x => (x.status, x.passed))

/-- Chapter 9, the skipped minutes of the beacon jump: 09:42 reaches E1, 09:45 E0, 10:00 E3 and E5. -/
theorem test_skipped_minutes :
    (skipped 582)[1]? = some (some (.missed, false)) ∧ (skipped 585)[0]? = some (some (.missed, false))
    ∧ (skipped 600)[3]? = some (some (.missed, false)) ∧ (skipped 600)[5]? = some (some (.waiting, false))
    ∧ (skipped 600)[6]? = some (some (.waiting, false)) := by decide +kernel

/-- The table gives no row any bits, so no word spells a command. -/
theorem test_no_word_spells_a_command (nbits w : Nat) : decodeTableWord nbits w = none := rfl


/-! ## The hypotheses of the statements are met

Each theorem names the statement, and gives for each of its clauses a state and operands, at the ends of their
ranges, that meet the clause's hypotheses together. -/

theorem test_meets_FrontOfQueueIsExecuted :
    ({ base with pending := [.tagSet, .powerOn] } : State).pending = .tagSet :: [.powerOn] := rfl

/-- `base` with the accumulator at `a`. -/
def counting (a : Nat) : State := but base fun u => { u with clock := ⟨.running, 0, a, 10, 0⟩ }

theorem test_meets_EmptyQueueLetsThePartAct :
    (got base .tagSet [1, 0, 7]).pending = [] ∧ (got base .tagSet [1, 0, 7]).dueNow = some .tagSet
    ∧ (counting 599990).pending = [] ∧ (counting 599990).dueNow = none ∧ (counting 599990).rollsOver = true
    ∧ (counting 599989).pending = [] ∧ (counting 599989).dueNow = none ∧ (counting 599989).rollsOver = false := by
  decide +kernel

theorem test_meets_EveryStepKeepsTheStateSound : base.sound ∧ ∃ t, step base = .next t :=
  ⟨test_base_sound, _, rfl⟩

theorem test_meets_EveryStepKeepsLawL4 : base.sound ∧ base.signalsSound ∧ ∃ t, step base = .next t :=
  ⟨test_base_sound, test_base_signals_and_table.1, _, rfl⟩

theorem test_meets_CommandsKeepConfigurationAndLines :
    startsUp .tagSet = false ∧ setsPins .tagSet = false ∧ startsUp .lineStartBit = false := by decide

theorem test_meets_FramesAndItemsAreReadBack :
    (∀ f ∈ ([⟨127, 62, .tagSet, List.replicate 32 255⟩, ⟨1, 1, .answer, []⟩] : List Frame),
      1 ≤ f.dest ∧ f.dest ≤ 127 ∧ 1 ≤ f.src ∧ f.src ≤ 62 ∧ f.payload.length ≤ 32)
    ∧ (∀ x ∈ ([(255, ⟨true, .known 999, .up, .free⟩), (0, ⟨true, .known 1, .down, .turntable⟩)] : List (Nat × Block)),
      x.1 < 256 ∧ ∀ n, x.2.tag = .known n → 1 ≤ n ∧ n ≤ 999)
    ∧ ∀ x ∈ ([(255, ⟨none, 3, true, true, .stopped, none⟩), (0, .initial)] : List (Nat × Signal)),
      x.1 < 256 ∧ x.2.rank ≤ 3 := by
  refine ⟨by decide, ?_, by decide⟩
  intro x hx
  simp only [List.mem_cons, List.not_mem_nil, or_false] at hx
  rcases hx with rfl | rfl <;> refine ⟨by decide, fun n hn => ?_⟩ <;> cases hn <;> decide

theorem test_meets_PowerOnResetPinAndSupply : State.reset.sys.station = .powerUp := rfl

/-- An image of 27 bytes with the ten offsets at 26. -/
def image (answers : Bool) (format number length crc : Nat) (c : Config) : Image :=
  ⟨if answers then none else some 25, [byte format, byte number] ++ bytes16 length ++ bytes16 crc ++ (List.replicate 10 (bytes16 26)).flatten, c⟩

/-- `exampleConfig` with a recharge time below its range. -/
def wrongConfig : Config := { exampleConfig with station := ⟨0, 0, 40, 0, 4, 1, true⟩ }

/-- A station that loads. -/
def loading : State := { State.reset with sys := { State.reset.sys with station := .loading } }

theorem test_wf_image : (Instr.imageReadComplete (image true 1 5 27 8111 exampleConfig)).wellFormed
    ∧ (Instr.imageReadComplete (image true 1 5 27 8111 { exampleConfig with turntable := none })).wellFormed = false
    ∧ (Instr.imageReadComplete ⟨none, List.replicate 8193 0, .empty⟩).wellFormed = false
    ∧ (Instr.imageReadComplete ⟨some 8192, [], .empty⟩).wellFormed = false := by decide +kernel

theorem test_meets_ImagesAreAcceptedOrRefused_accepted : loading.sys.station = .loading
    ∧ imageFault (image true 1 5 27 8111 exampleConfig) = none ∧ loading.units.lnk.urgent.length < 4 := by
  decide +kernel

theorem test_meets_ImagesAreAcceptedOrRefused_refused :
    loading.sys.station = .loading ∧ imageFault (image true 1 5 27 8110 exampleConfig) = some (.imageCrc, .none)
    ∧ refusedNumber (image true 1 5 27 8110 exampleConfig) = some 5 ∧ loading.units.lnk.urgent.length < 4 := by
  decide +kernel
theorem test_meets_ImagesAreAcceptedOrRefused_checks :
    (image false 1 5 27 8111 exampleConfig).answers = false
    ∧ payloadAt (image true 2 5 27 8111 exampleConfig).bytes 0 ≠ 1
    ∧ (∀ n ∈ [0, 63], let i := image true 1 n 8192 0 exampleConfig
        i.answers = true ∧ payloadAt i.bytes 0 = 1 ∧ 26 ≤ headerField i 2 ∧ headerField i 2 ≤ 8192
        ∧ (payloadAt i.bytes 1 = 0 ∨ 62 < payloadAt i.bytes 1))
    ∧ headerFault (image true 1 5 27 0 exampleConfig) = none
    ∧ (crc (crcBytes (image true 1 5 27 0 exampleConfig))).toNat ≠ headerField (image true 1 5 27 0 exampleConfig) 4
    ∧ headerFault (image true 1 5 27 8111 wrongConfig) = none
    ∧ (crc (crcBytes (image true 1 5 27 8111 wrongConfig))).toNat = headerField (image true 1 5 27 8111 wrongConfig) 4
    ∧ rangeFault 5 wrongConfig = some (0, Config.stationRecordNumber) := by
  refine ⟨?_, ?_, ?_, ?_, ?_, ?_, ?_, rfl⟩ <;> decide +kernel

/-- R197: the reads of the header are those of bytes 0 to 25: a read that fails after them leaves the station its number. -/
theorem test_meets_ImagesAreAcceptedOrRefused_unread : ∀ a ∈ [0, 25, 26, 8191],
    let i : Image := { image true 1 5 27 8111 exampleConfig with unread := some a };
    i.unread.isSome = true ∧ imageFault i = some (.imageRead, .none)
    ∧ refusedNumber i = if a = 0 ∨ a = 25 then none else some 5 := by decide +kernel

/-- R2: an own time outside its range refuses the record of a block of any kind. -/
theorem test_absent_block_times : blockOk exampleConfig 47 ⟨.absent, some 10, [], false, some 10, some 2550⟩ = true
    ∧ blockOk exampleConfig 47 ⟨.absent, none, [], false, some 9, none⟩ = false
    ∧ blockOk exampleConfig 47 ⟨.absent, none, [], false, none, some 2560⟩ = false := by decide

/-- ANNOUNCING, with detector 1, both contacts of turnout 0, the reverse contact of turnout 4, red lamp 1, the lock confirm
and button 0 active. -/
def announcing : State :=
  { base with
    sys := { base.sys with station := .announcing, settle := some 1000 }
    pins := { base.pins with
      detectors := base.pins.detectors.set 1 true, normals := base.pins.normals.set 0 true
      reverses := (base.pins.reverses.set 0 true).set 4 true, redLamps := base.pins.redLamps.set 1 true
      lock := true, buttons := base.pins.buttons.set 0 true } }

theorem test_meets_SettleTimerEntersRunning : announcing.sys.station = .announcing
    ∧ announcing.sys.settle.isSome = true
    ∧ (announcing.sys.cfg.block 1).kind ≠ .absent ∧ announcing.pins.detectors.getD 1 false = true
    ∧ (announcing.sys.cfg.block 47).kind = .absent ∧ announcing.pins.detectors.getD 0 false = false
    ∧ (announcing.sys.cfg.turnout 0).isSome = true ∧ (announcing.sys.cfg.turnout 4).isSome = true
    ∧ announcing.sys.cfg.turnout 31 = none ∧ (announcing.sys.cfg.signal 1).isSome = true
    ∧ announcing.sys.cfg.published 0 = true ∧ announcing.sys.cfg.signalPublished 0 = true := by decide +kernel
theorem test_meets_SettleTimerEntersRunning_sound :
    announcing.sound ∧ announcing.signalsSound ∧ announcing.tableSound := by
  refine ⟨sound_of_parts _ ?_, signals_of_checked _ (by decide +kernel), table_of_parts _ (by decide +kernel) ?_ ?_⟩
  · simp only [soundParts, Units.sized, Units.clearHoldsNothing, Link.sound, Link.queuesBounded, Counters.bounded,
      Link.heldOnce, Units.listsBounded, Units.readyKept]
    decide +kernel
  · intro g hg
    cases hg
    simp only [deckParts]
    decide +kernel
  · decide +kernel

theorem test_meets_RestartKeepsClockRecordAndPolarity :
    let s := got base .restart []
    let w : State := { base with units.lnk.rx := [frame 63 .restart []] }
    s.units.lnk.rx = frame 5 .restart [] :: [] ∧ takesRestart s.sys (frame 5 .restart []).frame = true
    ∧ w.units.lnk.rx = frame 63 .restart [] :: [] ∧ takesRestart w.sys (frame 63 .restart []).frame = false
    ∧ s.units.bdr.line = none ∧ (but s fun u => { u with bdr.line := some ⟨4, []⟩ }).units.bdr.line.isSome = true := by
  decide +kernel

/-! ### Detectors, blocks and tags -/

/-- `base` with the filter of input `n` in a state. -/
def filtering (x : FilterState) (n : Nat) : State := but base fun u => { u with filters := u.filters.set n ⟨x, some 500⟩ }

/-- A state with block `b` OCCUPIED by the train of a tag. -/
def withTrain (s : State) (b : Nat) (t : Tag) : State :=
  but s fun u => { u with bkt.blocks := u.bkt.blocks.modify b fun x => { x with occupied := true, tag := t, dir := .up } }

/-- A state with every mirror FRESH and CLEAR. -/
def withMirrors (s : State) : State := but s fun u =>
  { u with bkt.bmirrors := u.bkt.bmirrors.map fun x => { x with freshness := .fresh, lapse := some 0 }
           bkt.smirrors := u.bkt.smirrors.map fun x => { x with freshness := .fresh, lapse := some 0 } }

/-- A state with block `b` held. -/
def withHolder (s : State) (b : Nat) (h : Holder) : State :=
  but s fun u => { u with bkt.blocks := u.bkt.blocks.modify b fun x => { x with holder := h } }

/-- A state with route `n` changed. -/
def withRoute (s : State) (n : Nat) (f : Route → Route) : State :=
  but s fun u => { u with ilk.routes := u.ilk.routes.modify n f }

theorem test_meets_DetectorsChangeTheirBlocks_rise : ∀ b ∈ [0, 47],
    (filtering .rising b).sys.station = .running ∧ (filtering .rising b).units.sized
    ∧ (filtering .rising b).units.nothingWaits ∧ ((filtering .rising b).units.filter b).state = .rising
    ∧ ((filtering .rising b).units.block b).occupied = false ∧ (filtering .rising b).sys.cfg.published 0 = true := by
  unfold Units.sized Units.nothingWaits
  decide +kernel

theorem test_meets_DetectorsChangeTheirBlocks_drop : ∀ b ∈ [0, 47],
    let s := withMirrors (withTrain (filtering .falling b) b (.known 7))
    s.sys.station = .running ∧ s.units.sized ∧ (s.units.filter b).state = .falling
    ∧ (s.units.block b).occupied = true ∧ (s.units.block b).tag = .known 7 ∧ s.env.deck ≠ some b
    ∧ (∀ r ∈ (s.sys.cfg.block b).neighbours, r ≠ .here b → (s.units.trainAt r).map Prod.fst ≠ some 7)
    ∧ (∀ i < 16, .mirror i ∈ (s.sys.cfg.block b).neighbours → (s.units.bmirror i).freshness = .fresh)
    ∧ s.sys.cfg.published 0 = true := by
  unfold Units.sized
  decide +kernel

/-- Where a tag comes from, and whether one that is dropped is lost: the route's preceding block, the neighbours' one tag,
two tags and none, and the deck carry; a neighbour that holds the tag, a mirror that is not FRESH, and the carry. -/
theorem test_meets_DetectorsChangeTheirBlocks_sources :
    (let s := withTrain (withHolder (withRoute (filtering .rising 2) 0 fun x => { x with state := .set }) 2 (.route 0)) 1 (.known 7);
      (s.units.block 2).holder = .route 0 ∧ (s.units.route 0).state = .set
      ∧ (s.sys.cfg.route 0).map (fun r => (r.path, (s.sys.cfg.signal r.entry).bind (·.approach))) = some ([2], some (.here 1))
      ∧ (s.units.block 1).tag = .known 7 ∧ s.units.nothingWaits)
    ∧ (∀ x ∈ [7, 8], let s := withTrain (withTrain (filtering .rising 1) 0 (.known 7)) 2 (.known x);
      (s.sys.cfg.block 1).neighbours.filterMap s.units.trainAt = [(7, .up), (x, .up)] ∧ (s.units.block 1).holder = .free)
    ∧ (filtering .rising 1).units.trainAt (.here 0) = none ∧ (filtering .rising 1).units.trainAt (.here 2) = none
    ∧ (let s := but (filtering .rising 3) fun u => { u with trk := ⟨some ⟨.known 7, .up⟩, none⟩ };
      s.env.deck = some 3 ∧ s.units.trk.carry = some ⟨.known 7, .up⟩)
    ∧ (let s := withTrain (withTrain (filtering .falling 0) 0 (.known 7)) 1 (.known 7);
      (s.units.block 0).tag = .known 7 ∧ (s.units.block 1).tag = .known 7 ∧ BlockRef.here 1 ∈ (s.sys.cfg.block 0).neighbours
      ∧ BlockRef.mirror 0 ∈ (s.sys.cfg.block 0).neighbours ∧ (s.units.bmirror 0).freshness ≠ .fresh)
    ∧ (let s := but (withTrain (filtering .falling 3) 3 (.known 7)) fun u => { u with trk := ⟨some ⟨.known 7, .up⟩, none⟩ };
      s.env.deck = some 3 ∧ s.units.trk.carry.isSome = true ∧ (s.units.block 3).tag = .known 7) := by
  unfold Units.nothingWaits
  decide +kernel

/-- Reports, a REFRESH QUERY and an ANNOUNCE wait at a station that is ANNOUNCING. -/
theorem test_meets_frames_while_announcing : ∀ k ∈ [.refreshQuery, .occupancyReport, .aspectReport, .announce],
    let s := got announcing k [7, 1, 0, 9];
    s.sys.station = .announcing ∧ s.env.mirrors = true ∧ s.units.lnk.rx = [frame 5 k [7, 1, 0, 9]]
    ∧ (frame 5 k [7, 1, 0, 9]).frame.kind = k ∧ s.units.sized ∧ s.units.nothingWaits := by
  unfold Units.sized Units.nothingWaits
  decide +kernel

theorem test_meets_RepublishAndRefreshMarkEveryPublishedItem :
    let s := but base fun u => { u with bkt.republish := some 8000 }
    s.sys.station = .running ∧ s.units.bkt.republish.isSome = true ∧ s.sys.cfg.published 0 = true
    ∧ s.sys.cfg.signalPublished 0 = true
    ∧ (got base .refreshQuery []).receives .refreshQuery (frame 5 .refreshQuery []) [] := by
  unfold State.receives
  decide +kernel

theorem test_meets_MirrorsAreFilledAndLapse_lapse : (withMirrors base).env.mirrors = true
    ∧ (∀ i ∈ [0, 15], ((withMirrors base).units.bmirror i).lapse.isSome = true)
    ∧ ∀ i ∈ [0, 7], ((withMirrors base).units.smirror i).lapse.isSome = true := by decide +kernel

theorem test_meets_MirrorsAreFilledAndLapse_reports :
    (got base .occupancyReport [7, 1, 0, 9]).receives .occupancyReport (frame 5 .occupancyReport [7, 1, 0, 9]) []
    ∧ (got base .aspectReport [3, 2]).receives .aspectReport (frame 5 .aspectReport [3, 2]) [] :=
  ⟨⟨rfl, rfl, rfl⟩, ⟨rfl, rfl, rfl⟩⟩
theorem test_meets_DetectorsChangeTheirBlocks_drop_mirrors (i : Nat) :
    .mirror i ∈ (exampleConfig.block 0).neighbours → ((withMirrors base).units.bmirror i).freshness = .fresh := by
  intro h
  have : i = 0 := by simpa [exampleConfig, Config.block] using h
  subst this
  decide +kernel


theorem test_meets_AnnounceForgetsTheSender : let s := but (got base .announce []) fun u =>
      { u with watches := u.watches.set 7 (some ⟨9, .watch, 0, 47, 1⟩)
               clu := { u.clu with table := [⟨9, 4, .up, [0], [.notEntered], false⟩] } }
    s.receives .announce (frame 5 .announce []) [] ∧ s.units.sized ∧ s.sys.cfg.bmirror 0 = some ⟨9, 7⟩
    ∧ s.sys.cfg.smirror 0 = some ⟨9, 3⟩ ∧ s.units.watch 7 = some ⟨9, .watch, 0, 47, 1⟩ := by
  unfold State.receives Units.sized
  decide +kernel

/-- `base` with the deck carry full and its lapse timer running. -/
def carrying : State := but (withMirrors base) fun u => { u with trk := ⟨some ⟨.known 7, .up⟩, some 1000⟩ }

theorem test_meets_DeckCarryLapseEmptiesTheCarry : carrying.sys.station = .running
    ∧ carrying.units.trk.lapse.isSome = true ∧ carrying.units.trk.carry = some ⟨.known 7, .up⟩
    ∧ carrying.env.deck = some 3
    ∧ (∀ r ∈ (carrying.sys.cfg.block 3).neighbours, (carrying.units.trainAt r).map Prod.fst ≠ some 7)
    ∧ ∀ i, .mirror i ∈ (carrying.sys.cfg.block 3).neighbours → (carrying.units.bmirror i).freshness = .fresh := by
  refine ⟨by decide, by decide, by decide, by decide, by decide +kernel, fun i h => ?_⟩
  simp [carrying, but, withMirrors, base, exampleConfig, Config.block] at h

/-- `base` in another station state. -/
def within (x : Station) (s : State) : State := { s with sys := { s.sys with station := x } }

theorem test_meets_TagSetWritesTheTag : base.env.mirrors = true ∧ (within .announcing base).env.mirrors = true
    ∧ (got base .tagSet [47, 0, 7]).units.lnk.rx = [frame 5 .tagSet [47, 0, 7]]
    ∧ (got base .tagSet [47, 0, 7]).canSend 5
    ∧ (base.sys.cfg.block 47).kind = .absent ∧ (base.units.block 0).occupied = false
    ∧ (∀ p ∈ [[0, 0, 0], [0, 3, 232]], let s := withTrain (got base .tagSet p) 0 .unknown
        (s.units.block 0).occupied = true
        ∧ (tagField (p.getD 1 0) (p.getD 2 0) = 0 ∨ 999 < tagField (p.getD 1 0) (p.getD 2 0)))
    ∧ (∀ p ∈ [[3, 0, 1], [3, 3, 231]], let s := withTrain (got base .tagSet p) 3 .unknown
        (s.units.block 3).occupied = true ∧ s.units.nothingWaits ∧ s.env.deck = some 3
        ∧ (s.units.block 3).tag = .unknown
        ∧ tagField (p.getD 1 0) (p.getD 2 0) ≠ 0 ∧ tagField (p.getD 1 0) (p.getD 2 0) ≤ 999) := by
  unfold State.canSend Units.nothingWaits
  decide +kernel

theorem test_meets_InputChangesStepTheirFilters : base.sys.station = .running
    ∧ (base.sys.cfg.block 0).kind ≠ .absent ∧ (base.sys.cfg.block 47).kind = .absent
    ∧ (∃ c, base.sys.cfg.turnout 0 = some c ∧ c.feedback ≠ .none) ∧ (base.sys.cfg.signal 1).isSome = true
    ∧ base.sys.cfg.turntable.isSome = true ∧ (base.sys.cfg.button 15).kind = .unused :=
  ⟨rfl, by decide, by decide, ⟨_, rfl, by decide⟩, rfl, rfl, rfl⟩

/-! ### Turnouts -/

/-- A state with turnout `n` changed. -/
def withTurnout (s : State) (n : Nat) (f : Turnout → Turnout) : State :=
  but s fun u => { u with tdu.turnouts := u.tdu.turnouts.modify n f }

theorem withTurnout_no_route_awaits (s : State) (n t : Nat) (f : Turnout → Turnout)
    (h : s.units.noRouteAwaits s.sys.cfg t) : (withTurnout s n f).units.noRouteAwaits s.sys.cfg t := h

/-- Turnout 2 held by route 0. -/
def heldTurnout : State := withTurnout base 2 fun x => { x with state := .normal, pathHolder := some 0 }

/-- What the change of turnout `n`'s filtered contacts to (normal, reverse) does to its reading, as the statement has it. -/
def readsAt (s : State) (n : Nat) (normal reverse : Bool) : Bool :=
  let x := s.units.turnout n
  (s.sys.cfg.turnout n).any fun c => match c.feedback with
    | .twoContact => x.normalIn.level != normal || x.reverseIn.level != reverse
    | .reverseContact => x.reverseIn.level != reverse
    | .none => false

theorem test_meets_FeedbackMovesOrFailsATurnout : base.sys.station = .running ∧ base.units.nothingWaits
    ∧ (∀ n ∈ [0, 1, 2, 3, 4], (base.sys.cfg.turnout n).isSome = true ∧ base.units.tdu.turnouts[n]? = some .initial)
    ∧ Turnout.initial.held = false ∧ Turnout.initial.state = .unknown
    ∧ readsAt base 0 false false = false ∧ readsAt base 1 true true = false ∧ readsAt base 4 true false = false
    ∧ readsAt base 0 true false = true ∧ readsAt base 4 false true = true ∧ readsAt base 2 true true = true
    ∧ heldTurnout.units.tdu.turnouts[2]? = some { Turnout.initial with state := .normal, pathHolder := some 0 }
    ∧ (heldTurnout.units.turnout 2).held = true ∧ (heldTurnout.units.turnout 2).state = .normal
    ∧ readsAt heldTurnout 2 false true = true ∧ heldTurnout.canSend 5 := by
  unfold Units.nothingWaits State.canSend
  decide +kernel
/-- Turnout 2 FAILED, commanded to NORMAL: unheld or held, it comes to prove a position, or none. -/
theorem test_meets_FeedbackMovesOrFailsATurnout_failed : ∀ h ∈ [none, some 0], ∀ p ∈ [(true, false), (false, true)],
    let s := withTurnout base 2 fun x => { x with state := .failed, pathHolder := h, commanded := .normal };
    (s.units.turnout 2).state = .failed ∧ (s.units.turnout 2).held = h.isSome ∧ readsAt s 2 p.1 p.2 = true
    ∧ s.units.nothingWaits
    ∧ readsAt (withTurnout s 2 fun x => { x with normalIn := ⟨true, none⟩ }) 2 false false = true := by
  unfold Units.nothingWaits
  decide +kernel
theorem test_meets_FeedbackMovesOrFailsATurnout_routes : base.units.noRouteAwaits base.sys.cfg 0
    ∧ heldTurnout.units.noRouteAwaits heldTurnout.sys.cfg 2 :=
  ⟨test_base_no_route_awaits 0, withTurnout_no_route_awaits base 2 2 _ (test_base_no_route_awaits 2)⟩

theorem test_meets_TurnoutRequestsAreCheckedAndThrown_checks :
    (got base .turnoutRequest [31, 0]).env.mirrors = true
    ∧ (got base .turnoutRequest [31, 0]).units.lnk.rx = [frame 5 .turnoutRequest [31, 0]]
    ∧ (got base .turnoutRequest [31, 0]).canSend 5 ∧ base.sys.cfg.turnout 31 = none
    ∧ (base.sys.cfg.turnout 0).isSome = true ∧ (base.sys.cfg.turnout 3).isSome = true
    ∧ (base.units.turnout 0).pathHolder = none ∧ (base.units.turnout 0).flankCount = 0
    ∧ ((withTurnout base 0 fun x => { x with pathHolder := some 0 }).units.turnout 0).pathHolder.isSome = true
    ∧ 0 < ((withTurnout base 0 fun x => { x with flankCount := 1 }).units.turnout 0).flankCount
    ∧ ((withTrain base 2 .unknown).units.block 2).occupied = true
    ∧ (base.units.block 2).occupied = false
    ∧ ((withTurnout base 0 fun x => { x with state := .normal }).units.turnout 0).state = .normal := by
  unfold State.canSend
  decide +kernel

/-- The motors of four more turnouts MOVING. -/
def fourMotors : State :=
  let s : State := { base with sys := { base.sys with cfg := { exampleConfig with
    turnouts := List.replicate 5 (some ⟨.motor, .twoContact, 2, 20, 2000⟩) } } }
  but s fun u => { u with tdu := { u.tdu with
    turnouts := u.tdu.turnouts.mapIdx fun i x => if i < 4 then { x with state := .moving } else x } }

theorem test_meets_TurnoutRequestsAreCheckedAndThrown_throws :
    (∀ n ∈ [0, 2], ∀ p ∈ [0, 1],
      let s := got base .turnoutRequest [byte n, byte p]
      s.receives .turnoutRequest (frame 5 .turnoutRequest [byte n, byte p]) [] ∧ s.units.nothingWaits ∧ s.units.sized
      ∧ (s.sys.cfg.turnout n).isSome = true ∧ (s.units.turnout n).pathHolder = none
      ∧ (s.units.turnout n).flankCount = 0 ∧ (s.units.turnout n).requester = none
      ∧ (s.units.block 2).occupied = false ∧ (s.units.turnout n).state = .unknown
      ∧ s.units.proven .twoContact n = none ∧ s.units.tdu.queue = [] ∧ s.units.tdu.cdu = .ready
      ∧ s.units.motorsMoving s.env < 4)
    ∧ (but base fun u => { u with tdu := { u.tdu with cdu := .recharging 0 } }).units.tdu.cdu ≠ .ready
    ∧ fourMotors.units.motorsMoving fourMotors.env = 4 ∧ (fourMotors.units.turnout 4).state = .unknown := by
  unfold State.receives Units.nothingWaits Units.sized
  decide +kernel

/-- Turnout `n` driven to NORMAL at a stage, with station 9 waiting, and the CDU in a state. -/
def driven (n : Nat) (x : DriveStage) (c : Cdu) : State :=
  but base fun u => { u with tdu := { u.tdu with
    cdu := c
    turnouts := u.tdu.turnouts.modify n fun y =>
      { y with state := .moving, requester := some 9, drive := some ⟨.normal, x⟩ } } }

theorem driven_no_route_awaits (n t : Nat) (x : DriveStage) (c : Cdu) :
    (driven n x c).units.noRouteAwaits (driven n x c).sys.cfg t := test_base_no_route_awaits t
/-- Turnout `n` QUEUED for a position, with station 9 waiting. -/
def queued (n : Nat) (p : Pos) : State :=
  but base fun u => { u with tdu := { u.tdu with
    queue := [(n, p)]
    turnouts := u.tdu.turnouts.modify n fun y => { y with state := .queued, commanded := p, requester := some 9 } } }

/-- Turnout `n` driven to NORMAL and redirected to REVERSE. -/
def redirected (n : Nat) (x : DriveStage) (c : Cdu) : State :=
  withTurnout (driven n x c) n fun y => { y with commanded := .reverse }

theorem test_meets_QueuedAndMovingTurnouts :
    (∀ s ∈ [queued 0 .normal, queued 0 .reverse, queued 2 .normal, queued 4 .reverse, driven 0 .pulse (.pulsing 0 5),
        driven 0 (.window 9) .ready, driven 2 (.motor 9) .ready, driven 4 (.motor 9) .ready,
        redirected 0 (.window 9) .ready, redirected 0 (.window 9) (.recharging 5), redirected 2 (.motor 9) .ready,
        redirected 4 (.motor 9) .ready, withTrain (redirected 2 (.motor 9) .ready) 2 .unknown],
      s.sys.station = .running ∧ s.units.sized ∧ s.units.nothingWaits ∧ s.canSend 5 ∧ s.units.motorsMoving s.env ≤ 4)
    ∧ (∀ x ∈ [(queued 0 .normal, 0), (queued 2 .normal, 2), (driven 0 .pulse (.pulsing 0 5), 0),
        (driven 0 (.window 9) .ready, 0), (redirected 2 (.motor 9) .ready, 2)],
      (x.1.sys.cfg.turnout x.2).map (·.feedback) = some .twoContact
      ∧ x.1.units.tdu.turnouts[x.2]? = some (x.1.units.turnout x.2)
      ∧ (x.1.units.turnout x.2).normalIn.level ≠ true ∧ (x.1.units.turnout x.2).reverseIn.level ≠ true)
    ∧ (∀ x ∈ [queued 4 .reverse, driven 4 (.motor 9) .ready, redirected 4 (.motor 9) .ready],
      (x.sys.cfg.turnout 4).map (·.feedback) = some .reverseContact ∧ (x.units.turnout 4).reverseIn.level ≠ true)
    ∧ ((queued 0 .normal).units.turnout 0).state = .queued ∧ ((queued 0 .normal).units.turnout 0).commanded = .normal
    ∧ (driven 0 (.window 9) .ready).units.tdu.queue = []
    ∧ ((driven 0 (.window 9) .ready).units.turnout 0).drive = some ⟨.normal, .window 9⟩
    ∧ ((redirected 0 (.window 9) .ready).units.turnout 0).commanded ≠ .normal := by
  unfold Units.nothingWaits State.canSend Units.sized
  decide +kernel
theorem test_meets_QueuedAndMovingTurnouts_routes (n t : Nat) (p : Pos) (x : DriveStage) (c : Cdu) :
    (queued n p).units.noRouteAwaits base.sys.cfg t ∧ (redirected n x c).units.noRouteAwaits base.sys.cfg t :=
  ⟨test_base_no_route_awaits t, test_base_no_route_awaits t⟩

theorem test_meets_TurnoutRequestsAreCheckedAndThrown_redirected : ∀ p ∈ [0, 1],
    ∀ x ∈ [(driven 0 .pulse (.pulsing 0 5), 0), (redirected 2 (.motor 9) .ready, 2), (queued 0 .normal, 0)],
    let s := withTurnout (got x.1 .turnoutRequest [byte x.2, byte p]) x.2 fun y => { y with requester := some 10 }
    s.receives .turnoutRequest (frame 5 .turnoutRequest [byte x.2, byte p]) [] ∧ s.units.sized ∧ s.canSend 5
    ∧ (s.sys.cfg.turnout x.2).isSome = true ∧ (s.units.turnout x.2).pathHolder = none
    ∧ (s.units.turnout x.2).flankCount = 0 ∧ (s.units.block 2).occupied = false
    ∧ ((s.units.turnout x.2).state = .moving ∨ (s.units.turnout x.2).state = .queued ∧ s.units.proven .twoContact x.2 = none)
    ∧ (s.units.turnout x.2).requester = some 10 := by
  unfold State.receives State.canSend Units.sized
  decide +kernel

theorem test_meets_CduPulsesAndRecharges :
    (∀ n ∈ [0, 3], let s := driven n .pulse (.pulsing n 100);
      s.sys.station = .running ∧ s.units.nothingWaits ∧ s.units.tdu.cdu = .pulsing n 100
      ∧ (s.sys.cfg.turnout n).map (·.drive) = some .solenoid
      ∧ s.units.tdu.turnouts[n]? = some (s.units.turnout n) ∧ (s.units.turnout n).drive = some ⟨.normal, .pulse⟩
      ∧ (s.units.turnout n).commanded = .normal ∧ s.canSend 5 ∧ (s.units.turnout n).requester = some 9)
    ∧ (let s := but base fun u => { u with tdu := { u.tdu with cdu := .recharging 50, queue := [(0, .normal)] } }
      s.sys.station = .running ∧ s.units.tdu.cdu = .recharging 50 ∧ s.units.tdu.queue = (0, .normal) :: []
      ∧ (s.sys.cfg.turnout 0).map (·.drive) = some .solenoid ∧ (s.units.block 2).occupied = false
      ∧ s.units.tdu.turnouts[0]? = some .initial) := by
  unfold Units.nothingWaits State.canSend
  decide +kernel

theorem test_meets_EveryStepKeepsLawL10 : base.units.sized ∧ Lawful base.sys.cfg ∧ base.units.drivesSound base.env
    ∧ ∃ t, step base = .next t := ⟨test_base_sized, test_base_sound.config, test_base_sound.drives, _, rfl⟩
theorem test_meets_EveryStepKeepsLawL10_arbiter : (Ev.start base.units).u.motorsMoving base.env ≤ 4
    ∧ (Ev.start fourMotors.units).u.motorsMoving fourMotors.env ≤ 4 := by decide +kernel

theorem test_meets_DriveTimesRunOut :
    (let s := driven 0 (.window 500) .ready;
      s.sys.station = .running ∧ s.units.nothingWaits ∧ (s.sys.cfg.turnout 0).isSome = true
      ∧ s.units.tdu.turnouts[0]? = some (s.units.turnout 0) ∧ (s.units.turnout 0).commanded = .normal
      ∧ s.units.tdu.queue = [] ∧ (s.units.turnout 0).drive = some ⟨.normal, .window 500⟩ ∧ s.canSend 5)
    ∧ (∀ n ∈ [1, 2], let s := driven n (.motor 2000) .ready;
      s.sys.station = .running ∧ s.units.nothingWaits
      ∧ (s.sys.cfg.turnout n).map (·.feedback) = some (if n = 1 then .none else .twoContact)
      ∧ s.units.tdu.turnouts[n]? = some (s.units.turnout n) ∧ (s.units.turnout n).commanded = .normal
      ∧ s.units.tdu.queue = [] ∧ (s.units.turnout n).drive = some ⟨.normal, .motor 2000⟩ ∧ s.canSend 5) := by
  unfold Units.nothingWaits State.canSend
  decide +kernel
theorem test_meets_DriveTimesRunOut_redirected :
    (∀ x ∈ [(redirected 0 (.window 500) .ready, 0, .window 500), (redirected 0 (.window 0) (.recharging 5), 0, .window 0),
        (redirected 1 (.motor 2000) .ready, 1, .motor 2000), (redirected 2 (.motor 2000) .ready, 2, .motor 2000),
        (withTrain (redirected 2 (.motor 2000) .ready) 2 .unknown, 2, .motor 2000),
        (redirected 3 .pulse (.pulsing 3 100), 3, .pulse),
        (withTurnout (redirected 0 .pulse (.pulsing 0 100)) 0 fun y => { y with normalIn := ⟨true, none⟩ }, 0, .pulse)],
      let s := x.1; let n := x.2.1
      s.sys.station = .running ∧ s.units.sized ∧ s.units.nothingWaits ∧ (s.sys.cfg.turnout n).isSome = true
      ∧ s.units.tdu.turnouts[n]? = some (s.units.turnout n) ∧ (s.units.turnout n).state = .moving
      ∧ (s.units.turnout n).drive = some ⟨.normal, x.2.2⟩ ∧ (s.units.turnout n).commanded ≠ .normal
      ∧ s.units.tdu.queue = [] ∧ s.units.motorsMoving s.env ≤ 4 ∧ s.canSend 5)
    ∧ (base.sys.cfg.turnout 3).map (·.feedback) = some .none
    ∧ (withTurnout (redirected 0 .pulse (.pulsing 0 100)) 0 fun y => { y with
        normalIn := ⟨true, none⟩ }).units.proven .twoContact 0 = some .normal := by
  unfold Units.nothingWaits State.canSend Units.sized
  decide +kernel


/-! ### Routes -/

/-- A state with signal `n` changed. -/
def withSignal (s : State) (n : Nat) (f : Signal → Signal) : State :=
  but s fun u => { u with ase.signals := u.ase.signals.modify n f }

/-- A state with block `b` in the ACTIVE possession of station 9. -/
def withPossession (s : State) (b : Nat) : State :=
  but s fun u => { u with watches := u.watches.set 7 (some ⟨9, .active, b, b, 0⟩) }

/-- A ROUTE REQUEST for route `n` waits. -/
def asked (n : Nat) : State := got base .routeRequest [byte n]

theorem test_meets_RouteRequestRefused : (asked 63).env.mirrors = true
    ∧ (asked 63).units.lnk.rx = [frame 5 .routeRequest [63]] ∧ (asked 63).canSend 5
    ∧ (within .announcing (asked 0)).env.mirrors = true ∧ (asked 63).sys.cfg.route 63 = none
    ∧ 64 ≤ payloadAt (frame 5 .routeRequest [64]).frame.payload 0
    ∧ ((withRoute (asked 0) 0 fun x => { x with state := .inUse }).units.route 0).state ≠ .idle
    ∧ ((asked 2).units.route 2).state = .idle
    ∧ (asked 2).sys.cfg.route 2 = some ⟨0, .up, [2, 3], [], [], none, .slow, none, none, some (0, .a)⟩
    ∧ ((asked 2).units.block 2).holder = .free ∧ ((asked 2).units.block 2).occupied = false
    ∧ (asked 2).units.inPossession 2 = false
    ∧ (∀ h ∈ [.arrivalHold 9, .route 1, .foreignClaim 9 4, .turntable],
        ((withHolder (asked 2) 3 h).units.block 3).holder = h)
    ∧ ((withTrain (asked 2) 3 .unknown).units.block 3).occupied = true
    ∧ (withPossession (asked 2) 3).units.inPossession 3 = true
    ∧ ((withPossession (asked 2) 3).units.block 3).holder = .free := by
  unfold State.canSend
  decide +kernel
theorem test_meets_RouteRequestRefused_table :
    acceptance (asked 2).env (asked 2).units 2 = .error (.turntableNotReady, .road 0) := rfl

/-- The state of the path turnout 3 and the flank turnout 2 of route 3, and of the flank turnout 4 of route 4. -/
theorem test_meets_RouteRequestRefused_turnouts :
    let s := asked 3
    s.sys.cfg.route 3 = some ⟨1, .up, [0, 1], [(3, .reverse)], [(2, .reverse)], some 2, .full, none, none, none⟩
    ∧ (s.units.route 3).state = .idle
    ∧ (∀ a ∈ [0, 1, 2], (s.units.block a).holder = .free ∧ (s.units.block a).occupied = false ∧ s.units.inPossession a = false)
    ∧ (∀ n ∈ [3, 2], ((withTurnout s n fun x => { x with state := .failed }).units.turnout n).state = .failed
      ∧ ((withTurnout s n fun x => { x with pathHolder := some 0 }).units.turnout n).pathHolder ≠ none
      ∧ ((withTurnout s n fun x => { x with flankCount := 1 }).units.turnout n).flankCount ≠ 0
      ∧ (s.units.turnout n).commanded ≠ .reverse ∧ (s.units.turnout n).state ≠ .failed)
    ∧ ((withTurnout s 2 fun x => { x with flankCount := 4, commanded := .reverse }).units.turnout 2).flankCount = 4
    ∧ (asked 4).sys.cfg.route 4 = some ⟨0, .up, [2], [], [(4, .normal)], none, .full, none, none, none⟩
    ∧ ((withTrain (asked 4) 1 .unknown).units.block 1).occupied = true
    ∧ ((asked 4).units.turnout 4).state ≠ .at .normal ∧ ((asked 4).units.turnout 4).flankCount = 0
    ∧ ((asked 4).units.turnout 4).pathHolder = none ∧ (asked 2).units.ttc.phase ≠ .aligned := by decide +kernel

/-- Turnouts 0 and 1 proven NORMAL, and the bridge ALIGNED at road 0. -/
def readyForRoutes (s : State) : State :=
  but (withTurnout (withTurnout s 0 fun x => { x with state := .normal }) 1 fun x => { x with state := .normal })
    fun u => { u with ttc := { u.ttc with phase := .aligned, alignedAt := some (0, .a), homed := true }, biu.ready := true }

/-- Route 0's turnout 0 driven to REVERSE for station 10, and its turnout 1 queued for REVERSE. -/
def turnoutsElsewhere : State :=
  but (withTurnout (driven 0 (.window 9) .ready) 0 fun x => { x with
      commanded := .reverse, drive := some ⟨.reverse, .window 9⟩, requester := some 10 }) fun u => { u with tdu := { u.tdu with
    queue := [(1, .reverse)], turnouts := u.tdu.turnouts.modify 1 fun x => { x with state := .queued, commanded := .reverse } } }

/-- ROUTE REQUESTs that pass: with every turnout proven, with turnouts to throw, and with turnouts under way. -/
def acceptable : List (Nat × State) :=
  [(0, readyForRoutes (asked 0)), (1, readyForRoutes (asked 1)), (2, readyForRoutes (asked 2)), (0, asked 0), (3, asked 3),
    (4, withTurnout (asked 4) 4 fun x => { x with state := .normal }), (0, got turnoutsElsewhere .routeRequest [0])]

theorem test_meets_RouteRequestAccepted : ∀ x ∈ acceptable,
    x.2.receives .routeRequest (frame 5 .routeRequest [byte x.1]) [] ∧ x.2.sys.number = some 5 ∧ x.2.units.nothingWaits
    ∧ (x.2.sys.cfg.route x.1).any (fun r => decide (x.2.units.lnk.ordinary.length + (r.turnouts ++ r.flank).length < 16
        ∧ x.2.units.route x.1 = .idleOf r ∧ ((r.turnouts ++ r.flank).map Prod.fst).Nodup)) = true
    ∧ x.2.units.lnk.urgent.length < 4 := by
  unfold State.receives Units.nothingWaits
  decide +kernel
theorem test_meets_RouteRequestAccepted_sound (x : Nat × State) (h : x ∈ acceptable) : x.2.sound := by
  apply sound_of_parts
  revert x
  simp only [soundParts, Units.sized, Units.clearHoldsNothing, Link.sound, Link.queuesBounded, Counters.bounded,
    Link.heldOnce, Units.listsBounded, Units.readyKept]
  decide +kernel
theorem test_meets_RouteRequestAccepted_records : ∀ x ∈ acceptable, let u := x.2.units
    (exampleConfig.route x.1).any fun r =>
      (r.path ++ r.overlap.toList).all (fun b => decide (b < 48 ∧ (u.block b).holder = .free
        ∧ (u.block b).occupied = false ∧ u.inPossession b = false))
      && (r.turnouts ++ r.flank).all (fun y => decide ((u.turnout y.1).state ≠ .failed ∧ (u.turnout y.1).pathHolder = none
        ∧ (u.turnout y.1).flankCount = 0) && ((u.turnout y.1).state == .at y.2 || (exampleConfig.turnout y.1).all fun c =>
          u.proven c.feedback y.1 != some y.2 && !(u.block c.owning).occupied))
      && r.turntable.all fun c => decide (u.ttc.phase = .aligned ∧ u.ttc.alignedAt = some c) := by
  decide +kernel

/-- `base` with route 0 in a state, its block, turnout and signal held, and a ROUTE CANCEL for it. -/
def cancelled (x : RouteState) : State :=
  let s := withHolder (withRoute (got base .routeCancel [0]) 0 fun y => { y with
    state := x, reportTo := some (.station 9), progress := [.notEntered] }) 2 (.route 0)
  but (withTurnout (withTurnout s 0 fun y => { y with state := .normal, pathHolder := some 0 }) 1 fun y =>
      { y with state := .normal, flankCount := 1 })
    fun u => { u with ase.signals := u.ase.signals.modify 0 fun y => { y with route := some 0 } }

theorem test_meets_RouteCancelledOrHeldForApproach :
    (∀ x ∈ [.idle, .claiming, .throwing, .set, .approachHeld, .inUse], let s := cancelled x
      s.receives .routeCancel (frame 5 .routeCancel [0]) [] ∧ s.canSend 5 ∧ s.units.sized ∧ s.units.nothingWaits
      ∧ (s.sys.cfg.route 0).isSome = true ∧ (s.units.route 0).attached = none ∧ (s.units.route 0).state = x
      ∧ s.units.approachOccupied s.sys.cfg 0 = false
      ∧ (withTrain s 1 .unknown).units.approachOccupied s.sys.cfg 0 = true
      ∧ (s.units.route 0).forced = false ∧ (s.units.route 0).progress.length = 1
      ∧ ((withRoute s 0 fun y => { y with forced := true }).units.route 0).forced = true)
    ∧ (let s := withRoute (cancelled .approachHeld) 0 fun y => { y with approach := some 0 }
      s.sys.station = .running ∧ s.units.nothingWaits ∧ s.units.sized ∧ (s.sys.cfg.route 0).isSome = true
      ∧ (s.units.route 0).approach.isSome = true ∧ (s.units.route 0).reportTo = some (.station 9) ∧ s.canSend 5) := by
  unfold State.receives State.canSend Units.sized Units.nothingWaits
  decide +kernel
/-- The request of entry 0 for route `n`. -/
def entryRequest (n : Nat) (tag : Option Nat) : Request := ⟨n, ⟨0, none⟩, tag⟩

/-- Route 0 in a state for the request of entry 0, holding turnout 0, driven to NORMAL, and the flank turnout 1, changed. -/
def awaiting (st : RouteState) (a : Option Request) (f : Turnout → Turnout) (q : List (Nat × Pos)) : State :=
  let s := withHolder (withRoute (driven 0 (.window 9) .ready) 0 fun y => { y with
    state := st, reportTo := some (.station 9), attached := a, progress := [.notEntered] }) 2 (.route 0)
  but (withTurnout (withTurnout s 0 fun x => { x with requester := none, pathHolder := some 0 }) 1 fun x =>
    f { x with flankCount := 1 }) fun u => { u with
      tdu := { u.tdu with queue := q }
      entries := u.entries.modify 0 (Option.map fun y => { y with status := .due }) }

/-- The states of TurnoutChangesReachRoutes: the last proof comes, another turnout is unproven, and another is queued. -/
def reached : List State :=
  [awaiting .throwing (some (entryRequest 0 none)) (fun x => { x with state := .normal }) [],
    awaiting .throwing none (fun x => { x with state := .normal }) [], awaiting .claiming none id [],
    awaiting .throwing none id [], awaiting .throwing none (fun x => { x with state := .queued }) [(1, .normal)]]

theorem test_meets_TurnoutChangesReachRoutes : ∀ s ∈ reached,
    s.sys.station = .running ∧ s.units.nothingWaits
    ∧ s.sys.cfg.route 0 = some ⟨0, .up, [2], [(0, .normal)], [(1, .normal)], none, .full, some (.mirror 0), none, none⟩
    ∧ (s.sys.cfg.turnout 0).map (fun c => (c.drive, c.feedback)) = some (.solenoid, .twoContact)
    ∧ s.units.tdu.turnouts[0]? = some (s.units.turnout 0) ∧ (s.units.turnout 0).state = .moving
    ∧ (s.units.turnout 0).drive = some ⟨.normal, .window 9⟩ ∧ (s.units.turnout 0).commanded = .normal
    ∧ (s.units.turnout 0).normalIn.level ≠ true
    ∧ (∀ i < 64, i ≠ 0 → (s.units.route i).state = .idle)
    ∧ s.sys.number = some 5 ∧ s.units.lnk.ordinary.length < 15 ∧ (s.units.route 0).reportTo = some (.station 9)
    ∧ s.units.status 0 = some .due := by
  unfold Units.nothingWaits
  decide +kernel
theorem test_meets_TurnoutChangesReachRoutes_sound (s : State) (h : s ∈ reached) : s.sound := by
  apply sound_of_parts
  revert s
  simp only [soundParts, Units.sized, Units.clearHoldsNothing, Link.sound, Link.queuesBounded, Counters.bounded,
    Link.heldOnce, Units.listsBounded, Units.readyKept]
  decide +kernel
theorem test_meets_TurnoutChangesReachRoutes_turnouts :
    (reached.map fun s => (s.units.route 0).state) = [.throwing, .throwing, .claiming, .throwing, .throwing]
    ∧ (reached.map fun s => (s.units.turnout 1).state) = [.normal, .normal, .unknown, .unknown, .queued]
    ∧ (reached.map fun s => (s.units.route 0).attached.isSome) = [true, false, false, false, false]
    ∧ (reached.map fun s => (s.units.turnout 1).flankCount) = [1, 1, 1, 1, 1] := by decide +kernel

/-- Route 3 in a state, with block `b`'s filter about to change it. -/
def passing (b : Nat) (x : FilterState) (st : RouteState) (p : List Progress) (forced : Bool) (occupied : List Nat) : State :=
  let s := withRoute (filtering x b) 3 fun y => { y with
    state := st, reportTo := some (.station 9), progress := p, overlapHeld := true, forced := forced }
  but s fun u => { u with bkt.blocks := u.bkt.blocks.mapIdx fun i y =>
    { y with occupied := occupied.contains i, holder := if i < 3 then .route 3 else y.holder } }

theorem test_meets_RoutesFollowTheTrain :
    (∀ x ∈ [(0, RouteState.set, [.notEntered, .notEntered]), (0, .approachHeld, [.notEntered, .notEntered]),
        (1, .inUse, [.entered, .notEntered])], let s := passing x.1 .rising x.2.1 x.2.2 false []
      s.sys.station = .running ∧ s.units.sized ∧ s.units.nothingWaits
      ∧ (s.sys.cfg.route 3).map (fun r => (r.path, r.overlap)) = some ([0, 1], some 2) ∧ (s.units.route 3).attached = none
      ∧ (s.units.filter x.1).state = .rising ∧ (s.units.block x.1).occupied = false ∧ (s.units.route 3).state = x.2.1)
    ∧ (∀ x ∈ [(0, [.entered, .entered], false, [0, 1]), (0, [.entered, .notEntered], false, [0]),
        (0, [.stuck, .entered], false, [0, 1]), (1, [.released, .entered], false, [1]), (1, [.entered, .entered], false, [0, 1]),
        (0, [.stuck, .released], true, [0]), (2, [.released, .released], true, [2]), (2, [.entered, .notEntered], false, [0, 2])],
      let s := passing x.1 .falling .inUse x.2.1 x.2.2.1 x.2.2.2
      s.sys.station = .running ∧ s.units.sized ∧ s.units.nothingWaits ∧ (s.units.route 3).attached = none
      ∧ (s.units.filter x.1).state = .falling ∧ (s.units.block x.1).occupied = true ∧ (s.units.route 3).state = .inUse
      ∧ (s.units.route 3).forced = x.2.2.1 ∧ (s.units.route 3).progress = x.2.1 ∧ (s.units.route 3).overlapHeld = true
      ∧ (∀ k < 64, k ≠ 3 → (s.units.route k).state = .idle) ∧ s.canSend 5) := by
  unfold Units.nothingWaits Units.sized State.canSend
  decide +kernel
theorem test_meets_RoutesFollowTheTrain_signal :
    let s := withSignal (passing 0 .rising .set [.notEntered, .notEntered] false []) 1 fun x => { x with route := some 3 }
    (s.units.signal 1).route = some 3 ∧ (s.sys.cfg.signal 1).isSome = true := by decide +kernel
/-- R97: the end of route 3 takes signal 1 from route 3, and leaves it to a route accepted since. -/
theorem test_route_end_keeps_a_later_route :
    (((Ev.start (withSignal base 1 fun x => { x with route := some 3 }).units).endEvaluated 1 3).u.signal 1).route = none
    ∧ (((Ev.start (withSignal base 1 fun x => { x with route := some 4 }).units).endEvaluated 1 3).u.signal 1).route
      = some 4 := by decide +kernel
/-- What each of the changes of R75 that call for the scan begins from. -/
theorem test_meets_PendingListIsScanned_calls :
    ((withHolder base 47 (.route 0)).units.block 47).holder ≠ .free ∧ 47 < base.units.bkt.blocks.length
    ∧ ((withTrain base 0 (.known 7)).units.block 0).occupied = true ∧ (base.units.block 0).tag ≠ .known 1
    ∧ (heldTurnout.units.turnout 2).held = true
    ∧ (((Ev.start heldTurnout.units).setHolds 2 fun x => { x with pathHolder := none }).u.turnout 2).held = false
    ∧ ((withTurnout base 0 fun x => { x with state := .failed }).units.turnout 0).state = .failed
    ∧ base.units.ttc.phase ≠ .aligned ∧ base.units.judgeAdd (entryRequest 0 none) = .joined
    ∧ base.units.ilk.waiting.length < 8 := by decide +kernel

/-- The possession of block 1 at entry 7, about to end, with requests waiting: for route 0 under a tag that stands nowhere,
for route 2 with no bridge aligned, for route 4, and for route 4 again. -/
def scanned (l : List Request) : State :=
  but (withTurnout (withPossession (got base .watchClear [7]) 1) 4 fun x => { x with state := .normal }) fun u =>
    { u with ilk := { u.ilk with waiting := l } }

/-- The units that the scan reads. -/
def scannedUnits (l : List Request) : Units :=
  { (scanned l).taken [] with watches := (scanned l).units.watches.set 7 none }

theorem test_meets_PendingListIsScanned : ∀ l ∈ [[], [entryRequest 0 (some 7), entryRequest 2 none],
      [entryRequest 0 (some 7), entryRequest 2 none, entryRequest 4 none, ⟨4, ⟨2, none⟩, none⟩], [entryRequest 4 none]],
    (scanned l).receives .watchClear (frame 5 .watchClear [7]) [] ∧ (scanned l).units.ttc.queue = []
    ∧ (scanned l).units.watch 7 = some ⟨9, .active, 1, 1, 0⟩ ∧ (scanned l).units.ilk.waiting = l ∧ (scanned l).units.sized
    ∧ tagReady base.env (scannedUnits l) (entryRequest 0 (some 7)) = false
    ∧ tagReady base.env (scannedUnits l) (entryRequest 4 none) = true := by
  unfold State.receives Units.sized
  decide +kernel
theorem test_meets_PendingListIsScanned_checks (l : List Request) :
    acceptance base.env (scannedUnits l) 2 = .error (.turntableNotReady, .road 0)
    ∧ acceptance base.env (scannedUnits l) 4 = .ok ⟨0, .up, [2], [], [(4, .normal)], none, .full, none, none, none⟩ :=
  ⟨rfl, rfl⟩

/-- Route 1 CLAIMING or THROWING for the DUE entry 0 or 1, with the list as given. -/
def started (st : RouteState) (e : Nat) (tag : Option Nat) (l : List Request) : State :=
  but (withRoute (got base .routeCancel [1]) 1 fun y => { y with state := st, attached := some ⟨1, ⟨e, none⟩, tag⟩ }) fun u =>
    { u with
      ilk := { u.ilk with waiting := l }
      entries := u.entries.modify e (Option.map fun y => { y with status := .due })
      clu := { u.clu with claims := u.clu.claims.modify 1 fun y =>
        { y with status := .awaiting, awaited := some 4, answer := some 2000, counter := 1 } } }

theorem test_meets_PendingListIsScanned_rejoin : ∀ e ∈ [0, 1],
    (∀ l ∈ [[], List.replicate 7 (entryRequest 2 none), List.replicate 8 (entryRequest 2 none)],
      let s := started .claiming e (some 7) l
      s.sys.station = .running ∧ s.units.sized ∧ s.units.ttc.queue = []
      ∧ (s.sys.cfg.route 1).map (fun r => r.foreign.isSome) = some true ∧ (s.units.claim 1).status = .awaiting
      ∧ (s.units.claim 1).awaited = some 4 ∧ (s.units.claim 1).answer.isSome = true
      ∧ (s.units.route 1).attached = some ⟨1, ⟨e, none⟩, some 7⟩ ∧ s.units.ilk.waiting = l
      ∧ tagReady s.env s.units ⟨1, ⟨e, none⟩, some 7⟩ = false ∧ s.units.status e = some .due)
    ∧ (∀ x ∈ [.claiming, .throwing], let s := started x e none []
      s.receives .routeCancel (frame 5 .routeCancel [1]) [] ∧ s.units.sized ∧ s.units.nothingWaits
      ∧ (s.units.route 1).state = x ∧ (s.units.route 1).attached = some ⟨1, ⟨e, none⟩, none⟩
      ∧ s.units.status e = some .due) := by
  unfold State.receives Units.sized Units.nothingWaits
  decide +kernel

/-! ### Claims -/

/-- `base` with route 1 CLAIMING, its claim in a status under tag 4, and a frame of its owner. -/
def claiming (x : ClaimStatus) (k : FrameKind) (p : List Byte) : State :=
  but (withHolder (withRoute (got base k p) 1 fun y => { y with
      state := .claiming, reportTo := some (.station 9), progress := [.notEntered] }) 0 (.route 1)) fun u =>
    { u with clu := { u.clu with claims := u.clu.claims.modify 1 fun y =>
      { y with status := x, awaited := some 4, answer := some 0, counter := 1 } } }

theorem test_meets_GrantIsHeldOrGivenBack :
    (∀ x ∈ [.awaiting, .reclaiming], let s := claiming x .claimAnswer [4, 0, 0, 0]
      s.receives .claimAnswer (frame 5 .claimAnswer [4, 0, 0, 0]) [] ∧ s.units.nothingWaits ∧ s.units.sized
      ∧ (s.sys.cfg.route 1).map (fun r => r.foreign.map (·.owner)) = some (some 9)
      ∧ (s.units.claim 1).awaited = some 4 ∧ (s.units.route 1).attached = none ∧ (s.units.claim 1).status = x)
    ∧ (let s := got base .claimAnswer [255, 0, 0, 0]
      s.receives .claimAnswer (frame 5 .claimAnswer [255, 0, 0, 0]) []
      ∧ (awaitedRoute s.env s.units 9 255).isNone = true ∧ s.canSendUrgent 5
      ∧ grantRepeated s.env s.units 9 255 = false)
    ∧ (let s := but (got base .claimAnswer [4, 0, 0, 0]) fun u => { u with clu := { u.clu with
        claims := u.clu.claims.modify 1 fun y => { y with status := .granted, held := some 4 } } }
      s.receives .claimAnswer (frame 5 .claimAnswer [4, 0, 0, 0]) []
      ∧ (awaitedRoute s.env s.units 9 4).isNone = true ∧ grantRepeated s.env s.units 9 4 = true) := by
  unfold State.receives State.canSendUrgent Units.sized Units.nothingWaits
  decide +kernel

theorem test_meets_ClaimsThatFailOrAreLost : ∀ x ∈ [.awaiting, .reclaiming],
    let s := claiming x .claimAnswer [4, 1, 5, 5]
    s.sys.station = .running ∧ s.canSend 5 ∧ s.units.nothingWaits ∧ s.units.sized
    ∧ (s.sys.cfg.route 1).map (fun r => r.foreign.map (·.owner)) = some (some 9)
    ∧ (s.units.claim 1).status = x ∧ (s.units.claim 1).awaited = some 4 ∧ (s.units.route 1).attached = none
    ∧ s.receives .claimAnswer (frame 5 .claimAnswer [4, 1, 5, 5]) [] ∧ (s.units.claim 1).answer.isSome = true
    ∧ s.units.lnk.urgent.length < 4 := by
  unfold State.receives State.canSend Units.sized Units.nothingWaits
  decide +kernel
theorem test_meets_ClaimsThatFailOrAreLost_wait :
    let s := but base fun u => { u with clu := { u.clu with
      claims := u.clu.claims.modify 63 fun y => { y with status := .waitingOwner, wait := some 20000 } } }
    s.sys.station = .running ∧ s.units.sized ∧ (s.units.claim 63).wait.isSome = true := by
  unfold Units.sized
  decide +kernel

theorem test_meets_ArrivalHoldsTheClaimedBlocks : base.sys.station = .running ∧ base.sys.number = some 5
    ∧ base.units.nothingWaits ∧ base.units.sized ∧ base.units.clu.reception = none
    ∧ (∀ src ∈ [1, 62], ∀ n ∈ [0, 1, 2, 3], let bytes : List Byte := [5, byte src, 0x20, 5, 4, 1, byte n, 0, 1]
      bytes.length = 9 ∧ payloadAt bytes 0 = 5 ∧ 1 ≤ payloadAt bytes 1 ∧ payloadAt bytes 1 ≤ 62
      ∧ payloadAt bytes 1 ≠ 5 ∧ payloadAt bytes 2 = 0x20 ∧ payloadAt bytes 3 = 5)
    ∧ base.sys.cfg.published 0 = true ∧ base.sys.cfg.published 1 = true ∧ base.sys.cfg.published 3 = false
    ∧ (base.units.block 0).holder = .free ∧ payloadAt [6, 9, 0x20, 5, 4, 1, 1, 0, 1] 0 ≠ 5 := by
  unfold Units.sized Units.nothingWaits
  decide +kernel

/-- A CLAIM REQUEST of station 9 under tag 4, its arrival list entry being of block 0. -/
def claimOf (n first second : Nat) : RxFrame :=
  ⟨⟨5, 9, .claimRequest, [4, 1, byte n, byte first, byte second]⟩, false, some [0]⟩

/-- The claim waits, its block 0 being held for it. -/
def claimed (n first second : Nat) : State :=
  let s := withHolder base 0 (.arrivalHold 9)
  { s with units.lnk.rx := [claimOf n first second] }

theorem test_meets_ClaimRequestGrantedOrRefused :
    (∀ x ∈ [(1, 0, 0), (2, 0, 2)], let s := claimed x.1 x.2.1 x.2.2
      s.receives .claimRequest (claimOf x.1 x.2.1 x.2.2) [] ∧ s.canSendUrgent 5 ∧ s.units.nothingWaits ∧ s.units.sized
      ∧ ∀ b ∈ [x.2.1, x.2.2].take x.1, b < 48 ∧ s.sys.cfg.published b = true
        ∧ ((s.units.block b).holder = .free ∨ (s.units.block b).holder = .arrivalHold 9)
        ∧ (s.units.block b).occupied = false ∧ s.units.inPossession b = false)
    ∧ (∀ x ∈ [(0, 0, 0), (3, 0, 1), (2, 1, 1), (1, 3, 0), (1, 47, 0), (1, 48, 0)], let s := claimed x.1 x.2.1 x.2.2
      s.receives .claimRequest (claimOf x.1 x.2.1 x.2.2) []
      ∧ claimCheck s.env s.units (claimOf x.1 x.2.1 x.2.2).frame = some (.badItem, x.2.1))
    ∧ (∀ h ∈ [.free, .route 0, .foreignClaim 9 4, .turntable, .arrivalHold 9, .arrivalHold 10],
      let s := withHolder (claimed 1 2 0) 2 h
      s.receives .claimRequest (claimOf 1 2 0) [] ∧ (s.units.block 2).holder = h ∧ s.sys.cfg.published 2 = true) := by
  unfold State.receives State.canSendUrgent Units.sized Units.nothingWaits
  decide +kernel

/-- `base` with the claim of station 9 under tag 4 for blocks 0 and 2, and a frame. -/
def ownerOf (k : FrameKind) (p : List Byte) : State :=
  but (withHolder (withHolder (got base k p) 0 (.foreignClaim 9 4)) 2 (.foreignClaim 9 4)) fun u => { u with clu :=
    { u.clu with table := [⟨9, 4, .up, [0, 2], [.notEntered, .notEntered], false⟩] } }

theorem test_meets_ClaimsAreReleasedAndPurged :
    (∀ p ∈ [4, 5], let s := ownerOf .claimRelease [byte p]
      s.units.nothingWaits ∧ s.units.sized ∧ s.receives .claimRelease (frame 5 .claimRelease [byte p]) []
      ∧ s.units.clu.table = [⟨9, 4, .up, [0, 2], [.notEntered, .notEntered], false⟩])
    ∧ (∀ q ∈ [0, 1, 9, 62, 63], let s := ownerOf .claimPurge [byte q]
      s.units.nothingWaits ∧ s.units.sized ∧ s.canSend 5
      ∧ s.receives .claimPurge (frame 5 .claimPurge [byte q]) [] ∧ (s.units.block 0).holder = .foreignClaim 9 4) := by
  unfold State.receives State.canSend Units.sized Units.nothingWaits
  decide +kernel
/-- Claims of stations 9 and 10 with block `b`'s filter about to change it. -/
def claimedPassing (b : Nat) (x : FilterState) (l : List ClaimRecord) (occupied : List Nat) : State :=
  but (withHolder (filtering x b) b (.foreignClaim 9 4)) fun u => { u with
    clu := { u.clu with table := l }
    bkt := { u.bkt with blocks := u.bkt.blocks.mapIdx fun i y => { y with occupied := occupied.contains i } } }

theorem test_meets_ClaimedBlocksFollowTheTrain :
    ∀ x ∈ ([([0, 2], [.entered, .notEntered], false), ([0, 2], [.entered, .entered], false), ([2, 0], [.released, .entered], false),
      ([0], [.entered], false), ([0], [.stuck], true), ([0, 2], [.entered, .stuck], true), ([0, 2], [.notEntered, .notEntered], true)] :
        List (List Nat × List Progress × Bool)), ∀ o ∈ [[0], [0, 2]],
    let l : List ClaimRecord := [⟨9, 4, .up, x.1, x.2.1, x.2.2⟩]
    let up := claimedPassing 0 .rising l []
    let down := claimedPassing 0 .falling l o
    (∀ s ∈ [up, down], s.sys.station = .running ∧ s.units.sized ∧ s.units.nothingWaits
      ∧ ∀ y ∈ s.units.clu.table, y.blocks.Nodup ∧ y.progress.length = y.blocks.length ∧ (y.blocks.length = 1 ∨ y.blocks.length = 2))
    ∧ (up.units.filter 0).state = .rising ∧ (up.units.block 0).occupied = false
    ∧ (down.units.filter 0).state = .falling ∧ (down.units.block 0).occupied = true
    ∧ (down.units.block 0).holder = .foreignClaim 9 4 := by
  unfold Units.sized Units.nothingWaits
  decide +kernel

/-- Route 1, claimed from station 9, with a claim of each status, and a frame of its owner. -/
def owned (x : ClaimStatus) (st : RouteState) (k : FrameKind) (p : List Byte) : State :=
  but (withRoute (ownerOf k p) 1 fun y => { y with state := st, reportTo := some (.station 10) }) fun u => { u with clu :=
    { u.clu with claims := u.clu.claims.modify 1 fun y => { y with status := x, awaited := some 4, held := some 4, counter := 3 } } }

theorem test_meets_OwnerRestartsAndReturns :
    ∀ x ∈ [(.none, .idle), (.awaiting, .claiming), (.granted, .set), (.granted, .inUse), (.waitingOwner, .set),
      (.reclaiming, .throwing), (.lost, .set)], ∀ k ∈ [.announce, .occupancyReport, .aspectReport],
    let s := owned x.1 x.2 k [3, 129]
    s.units.sized ∧ s.units.nothingWaits ∧ s.receives k (frame 5 k [3, 129]) []
    ∧ (∀ n < 64, (s.units.route n).attached = none ∧ (s.units.route n).state ≠ .approachHeld)
    ∧ (s.sys.cfg.route 1).map (fun r => r.foreign.map (·.owner)) = some (some 9) ∧ (s.units.claim 1).status = x.1
    ∧ s.canSend 5 ∧ s.canSendUrgent 5 ∧ (s.units.claim 1).awaited = some 4
    ∧ s.units.clu.table = [⟨9, 4, .up, [0, 2], [.notEntered, .notEntered], false⟩]
    ∧ (s.units.block 0).holder = .foreignClaim 9 4 := by
  unfold State.receives State.canSend State.canSendUrgent Units.sized Units.nothingWaits
  decide +kernel
theorem test_meets_OwnerRestartsAndReturns_routes (x : ClaimStatus) (st : RouteState) (h : st ≠ .approachHeld)
    (k : FrameKind) (p : List Byte) (n : Nat) : let u := (owned x st k p).units
    (u.route n).attached = none ∧ (u.route n).state ≠ .approachHeld := by
  have all : ∀ m < 64, ((owned x st k p).units.route m).attached = none
      ∧ ((owned x st k p).units.route m).state = if m = 1 then st else .idle := by
    intro m hm
    interval_cases m <;> exact ⟨rfl, rfl⟩
  by_cases hn : n < 64
  · refine ⟨(all n hn).1, ?_⟩
    rw [(all n hn).2]
    split
    · exact h
    · decide
  · intro u
    rw [show u.route n = .initial from getD_of_length_le _ (by
      rw [show u.ilk.routes.length = 64 from rfl]; omega)]
    exact ⟨rfl, by decide⟩


/-! ### Signals, the stop state, watches -/


theorem test_meets_EvaluationObeysTheSixConditions :
    let s := readyForRoutes (withSignal (withRoute base 0 fun x => { x with state := .set }) 0 fun x =>
      { x with route := some 0 })
    (base.env.cfg.signal 0).isSome = true ∧ 0 < base.units.ase.signals.length
    ∧ 0 < (((Ev.start s.units).evaluate s.env 0).u.signal 0).rank := by decide +kernel
theorem test_meets_EvaluationObeysTheSixConditions_rank :
    let s := readyForRoutes (withSignal (withRoute base 0 fun x => { x with state := .set }) 0 fun x =>
      { x with route := some 0 })
    (s.units.signal 0).route = some 0 ∧ s.units.ase.stop = .empty ∧ (s.units.route 0).state = .set
    ∧ (s.sys.cfg.route 0).all (fun r => r.path.all (fun b => !(s.units.block b).occupied)
        && (r.turnouts ++ r.flank).all (fun y => decide ((s.units.turnout y.1).state = if y.2 = .normal then .normal else .reverse))
        && r.foreign.isNone && r.overlap.isNone && r.speed != .slow && r.exit == some (.mirror 0)) = true
    ∧ (s.units.smirror 0).freshness ≠ .fresh
    ∧ (((withMirrors s).units.smirror 0).freshness = .fresh ∧ ((withMirrors s).units.smirror 0).dark = false) := by
  decide +kernel

/-- A frame to the destination waits alone. -/
def sentTo (dest : Nat) (k : FrameKind) : State := { base with units.lnk.rx := [frame dest k []] }

theorem test_meets_ZoneFramesChangeTheStopState : ∀ d ∈ [5, 63, 64, 66, 127],
    (sentTo d .zoneStop).receives .zoneStop (frame d .zoneStop []) []
    ∧ (sentTo d .zoneResume).receives .zoneResume (frame d .zoneResume []) [] := by
  unfold State.receives
  decide +kernel
/-- A frame to every station, with a move in progress: in a phase, in its run, or with no step of the run made. -/
def stopping (k : FrameKind) (x : Phase) (made : Nat) : State :=
  let m : Move := ⟨.station 9, 1, .a, 1200, false, some ⟨.cw, 1700, 0⟩, some ⟨.cw, 1700, made, none⟩, 0, false, false⟩
  but (sentTo 63 k) fun u => { u with ttc := { u.ttc with phase := x, current := some m } }

/-- Buttons 0 and 1 in a state, the clock running. -/
def buttonsAt (s : State) (x : ButtonState) : State :=
  but s fun u => { u with
    clock := ⟨.running, 0, 0, 10, 0⟩
    biu := { u.biu with buttons := u.biu.buttons.mapIdx fun k y => if k < 2 then { y with state := x } else y } }

theorem test_meets_ZoneFramesChangeTheStopState_move :
    ∀ x ∈ [.unhomed, .aligned, .unaligned, .unlocking, .homing, .moving, .settling, .locking, .fault], ∀ made ∈ [0, 1, 600],
    let s := stopping .zoneStop x made
    s.receives .zoneStop (frame 63 .zoneStop []) [] ∧ s.units.ase.stop = .empty ∧ s.units.nothingWaits
    ∧ s.sys.cfg.turntable = some exampleGeometry ∧ s.units.ttc.current.any (fun m => !m.aborting && !m.slipped && m.run.isSome) = true
    ∧ s.units.ttc.phase = x ∧ s.canSend 5 := by
  unfold State.receives Units.nothingWaits State.canSend
  decide +kernel
theorem test_meets_ZoneFramesChangeTheStopState_buttons : ∀ x ∈ [.armed, .busy, .guard, .disabled],
    (let s := buttonsAt (sentTo 63 .zoneStop) x;
      s.receives .zoneStop (frame 63 .zoneStop []) [] ∧ s.units.ase.stop = .empty ∧ s.units.nothingWaits
      ∧ (s.units.button 0).state = x ∧ (s.units.button 1).state = x)
    ∧ (let s := but (buttonsAt (sentTo 63 .zoneResume) x) fun u => { u with ase := { u.ase with stop := ⟨true, true, [2]⟩ } };
      s.receives .zoneResume (frame 63 .zoneResume []) [] ∧ s.units.ase.stop ≠ .empty ∧ s.units.nothingWaits
      ∧ s.units.clock.state = .running ∧ (s.units.button 0).state = x) := by
  unfold State.receives Units.nothingWaits
  decide +kernel

theorem test_meets_StopTurnsEverySignalRed : ∀ d ∈ [63, 64, 127],
    (sentTo d .zoneStop).receives .zoneStop (frame d .zoneStop []) [] ∧ (sentTo d .zoneStop).units.sized
    ∧ (sentTo d .zoneStop).units.nothingWaits ∧ (sentTo d .zoneStop).units.ase.stop = .empty
    ∧ ((sentTo d .zoneStop).sys.cfg.signal 1).isSome = true := by
  unfold State.receives Units.sized Units.nothingWaits
  decide +kernel

theorem test_meets_SignalTimersRunOut : ∀ n ∈ [0, 23],
    let s := withSignal base n fun x => { x with control := .running 5000, proving := some 250 }
    let d := withSignal s n fun x => { x with dark := true }
    s.sys.station = .running ∧ (s.units.signal n).control = .running 5000 ∧ (s.units.signal n).proving.isSome = true
    ∧ (s.units.signal n).dark = false ∧ (d.units.signal n).dark = true ∧ s.sys.cfg.signalPublished 0 = true := by
  decide +kernel

/-- The bytes of a WATCH SET wait. -/
def watching (p : List Byte) : State := got base .watchSet p

/-- `base` with entry `n` set by station `q`. -/
def watched (s : State) (n q : Nat) : State :=
  but s fun u => { u with watches := u.watches.set n (some ⟨q, .watch, 0, 47, 1⟩) }

theorem test_meets_WatchesAreSetAndCleared :
    (watching [7, 1, 40, 2, 31]).env.mirrors = true
    ∧ (watching [7, 1, 40, 2, 31]).units.lnk.rx = [frame 5 .watchSet [7, 1, 40, 2, 31]]
    ∧ (watching [7, 1, 40, 2, 31]).canSend 5 ∧ (watching [7, 1, 40, 2, 31]).units.nothingWaits
    ∧ (watching [7, 1, 40, 2, 31]).units.sized ∧ (watching [7, 1, 40, 2, 31]).units.lnk.ordinary.length < 15
    ∧ (watching [7, 1, 40, 2, 31]).units.watch 7 = none
    ∧ ((withHolder (watching [7, 1, 40, 2, 31]) 0 (.route 0)).units.block 0).holder = .route 0
    ∧ (watched base 7 10).units.watch 7 = some ⟨10, .watch, 0, 47, 1⟩
    ∧ (∀ n ∈ [0, 7, 8], (got base .watchClear [byte n]).units.lnk.rx = [frame 5 .watchClear [byte n]]
      ∧ (got base .watchClear [byte n]).canSend 5 ∧ (got base .watchClear [byte n]).units.watch n = none)
    ∧ (watched (got base .watchClear [7]) 7 9).units.watch 7 = some ⟨9, .watch, 0, 47, 1⟩
    ∧ (watched (got base .watchClear [7]) 7 9).units.nothingWaits := by
  unfold State.canSend Units.sized Units.nothingWaits
  decide +kernel

/-- A state with one entry, number 7, of station 9. -/
def oneWatch (s : State) (k : WatchKind) (first last : Nat) (mask : Byte) : State :=
  but s fun u => { u with watches := (List.replicate 8 none).set 7 (some ⟨9, k, first, last, mask⟩) }

/-- The states of the notices: a block in a range that wraps and one outside it, rising; a proving filter; a turnout at
rest; a SET route that a possession waits for, and one over another holder. -/
def toldOf : List State :=
  [oneWatch (filtering .rising 2) .watch 47 2 3, oneWatch (filtering .rising 2) .watch 3 47 1,
    oneWatch (withSignal base 0 fun x => { x with proving := some 250 }) .watch 2 2 31,
    oneWatch (withTurnout base 0 fun x => { x with state := .normal, normalIn := ⟨true, none⟩ }) .active 2 2 16,
    oneWatch (cancelled .set) .pending 2 2 4, oneWatch (cancelled .set) .pending 40 2 0,
    oneWatch (withHolder (cancelled .set) 3 .turntable) .pending 2 3 0]

theorem test_meets_WatchesAreSetAndCleared_notices : ∀ s ∈ toldOf,
    s.sys.station = .running ∧ s.units.sound ∧ s.units.nothingWaits ∧ (s.units.watch 7).isSome = true
    ∧ (∀ j < 8, j ≠ 7 → s.units.watch j = none) ∧ s.sys.number = some 5 ∧ s.units.lnk.ordinary.length < 8 := by
  unfold Units.sound Units.sized Units.clearHoldsNothing Link.sound Link.queuesBounded Counters.bounded Link.heldOnce
    Units.nothingWaits
  decide +kernel
theorem test_meets_WatchesAreSetAndCleared_causes :
    ((filtering .rising 2).units.filter 2).state = .rising ∧ ((filtering .rising 2).units.block 2).occupied = false
    ∧ (∀ r ∈ exampleConfig.routes.filterMap id, r.entry = 0 → r.path.head? = some 2) ∧ (exampleConfig.route 0).any (·.entry == 0) = true
    ∧ (base.sys.cfg.turnout 0).map (fun c => (c.feedback, c.owning)) = some (.twoContact, 2)
    ∧ ((cancelled .set).units.block 2).holder = .route 0 ∧ ((cancelled .set).units.route 0).state = .set
    ∧ ((cancelled .set).units.route 0).attached = none ∧ (cancelled .set).units.approachOccupied exampleConfig 0 = false
    ∧ (∀ b < 48, b ≠ 2 → ((cancelled .set).units.block b).holder = .free)
    ∧ ((withHolder (cancelled .set) 3 .turntable).units.block 3).holder = .turntable := by
  decide +kernel

/-! ### The turntable -/

theorem test_meets_PlanEndsAtTheTargetWithinTheLimit :
    ∀ g ∈ [{ exampleGeometry with limit := 6420 }, { exampleGeometry with limit := 0, backlash := 0 }],
    0 < g.steps ∧ 0 < g.steps ∧ 6399 < g.steps ∧ g.backlash < g.steps
    ∧ (g.limit ≠ 0 → g.steps + g.backlash ≤ g.limit ∧ ∀ u ∈ [(-6420 : Int), 6420], u.natAbs ≤ g.limit) := by decide

/-- A state with the Turntable Controller changed. -/
def withTable (s : State) (f : Turntable → Turntable) : State := but s fun u => { u with ttc := f u.ttc }

/-- A state with no turntable. -/
def withoutTable (s : State) : State :=
  { s with sys := { s.sys with cfg := { s.sys.cfg with turntable := none } } }

/-- A queued move. -/
def aMove : MoveRequest := ⟨.station 10, .road 1 .a⟩

theorem test_meets_TurntableRequestsAreTaken_moves : ∀ p ∈ ([[0, 0, 0], [0, 1, 1], [0, 0, 2], [0, 24, 0], [3, 0, 0], [1, 0, 0]] :
      List (List Byte)), let s := got base .turntableRequest p
    s.env.mirrors = true ∧ (within .announcing s).env.mirrors = true
    ∧ s.units.lnk.rx = [frame 5 .turntableRequest p] ∧ s.canSend 5
    ∧ s.sys.station = .running ∧ (s.sys.cfg.turntable).isSome = true ∧ (withoutTable s).sys.cfg.turntable = none
    ∧ (withTable s fun z => { z with phase := .locking, queue := [aMove, aMove, aMove] }).units.ttc.queue.length < 4
    ∧ (withTable s fun z => { z with phase := .locking }).units.ttc.phase.inMove = true
    ∧ (withTable s fun z => { z with queue := [aMove, aMove, aMove, aMove] }).units.ttc.queue.length = 4
    ∧ s.units.ttc.phase ≠ .fault ∧ exampleGeometry.road 0 ≠ none ∧ exampleGeometry.road 24 = none := by
  unfold State.canSend
  decide +kernel
theorem test_meets_TurntableRequestsAreTaken_resting : ∀ p ∈ ([[0, 0, 0], [0, 1, 1], [1, 0, 0]] : List (List Byte)),
    let s := but (withTable (got base .turntableRequest p) fun z => { z with phase := .aligned, alignedAt := some (0, .b) })
      fun u => { u with ase := { u.ase with stop := ⟨true, false, []⟩ } }
    s.units.lnk.rx = [frame 5 .turntableRequest p] ∧ s.canSend 5 ∧ s.sys.station = .running
    ∧ s.units.ttc.phase.resting = true ∧ s.units.ase.stop ≠ .empty ∧ s.units.ttc.queue = []
    ∧ s.units.ttc.alignedAt.isSome = true ∧ s.units.ttc.alignedAt ≠ some (0, .a) ∧ s.units.ttc.alignedAt ≠ some (1, .b) := by
  unfold State.canSend
  decide +kernel

/-- ALIGNED at road 0, homed, the lock engaged, and a frame waiting. -/
def aligned (p : List Byte) : State := withTable (got base .turntableRequest p) fun z => { z with
  phase := .aligned, alignedAt := some (0, .a), homed := true, pos := 5900, winding := 5900
  confirm := ⟨true, none⟩, deckPower := true }

theorem test_meets_MoveStartsFromAligned : ∀ p ∈ ([[0, 1, 0], [0, 1, 1], [0, 0, 1]] : List (List Byte)), let s := aligned p
    s.receives .turntableRequest (frame 5 .turntableRequest p) [] ∧ s.units.nothingWaits ∧ s.units.sized
    ∧ s.units.ttc.phase = .aligned ∧ s.units.ttc.alignedAt = some (0, .a) ∧ s.units.ttc.homed = true
    ∧ s.units.ttc.current = none ∧ s.units.ttc.confirm.level = true ∧ s.units.ase.stop = .empty
    ∧ (s.units.block 3).holder = .free ∧ s.units.deckBarred 3 (some 9) = false
    ∧ (∀ b ∈ exampleGeometry.facingBlocks s.units.ttc.pos, (s.units.block b).occupied = false)
    ∧ s.sys.cfg.turntable = some exampleGeometry
    ∧ (exampleGeometry.road (payloadAt p 1)).isSome = true := by
  unfold State.receives Units.sized Units.nothingWaits
  decide +kernel
theorem test_meets_MoveStartsFromAligned_routes (p : List Byte) (n : Nat) :
    ((aligned p).units.route n).state = .idle := test_base_routes_idle n

theorem test_meets_TurntableRequestsAreTaken_cancel : ∀ x ∈ [.fault, .unhomed, .moving],
    let s := withTable (got base .turntableRequest [2, 0, 0]) fun z => { z with phase := x, queue := [aMove, aMove, aMove] }
    s.receives .turntableRequest (frame 5 .turntableRequest [2, 0, 0]) [] ∧ s.sys.cfg.turntable = some exampleGeometry
    ∧ s.sys.number = some 5 ∧ s.units.lnk.ordinary.length + s.units.ttc.queue.length < 16 := by
  unfold State.receives
  decide +kernel

/-- A move to road 1 with a plan. -/
def aPlannedMove : Move := ⟨.station 9, 1, .a, 1200, false, some ⟨.cw, 1700, 0⟩, none, 0, false, false⟩

/-- A turntable in a phase, a move in progress, the deck held for it. -/
def inPhase (x : Phase) (f : Turntable → Turntable) : State :=
  withHolder (withTable base fun z => f { z with phase := x, current := some aPlannedMove, homed := true }) 3 .turntable

theorem test_meets_LockConfirmChanges_withdrawn : ∀ x ∈ [.unhomed, .aligned, .unaligned, .unlocking, .homing, .moving, .settling,
      .locking, .fault], let s := inPhase x fun z => { z with confirm := ⟨true, some 10⟩ }
    s.sys.station = .running ∧ s.sys.cfg.turntable = some exampleGeometry ∧ s.units.nothingWaits
    ∧ s.units.ttc.confirm.level = true ∧ s.units.ttc.phase = x ∧ s.units.ttc.current = some aPlannedMove
    ∧ s.units.ttc.homed = true ∧ (withTable s fun z => { z with homed := false }).units.ttc.homed = false := by
  unfold Units.nothingWaits
  decide +kernel

theorem test_meets_LockConfirmChanges_engaged : ∀ x ∈ [.unhomed, .aligned, .unaligned, .unlocking, .homing, .moving, .settling,
      .locking, .fault], let s := inPhase x fun z => { z with confirm := ⟨false, some 10⟩ }
    s.sys.station = .running ∧ s.sys.cfg.turntable = some exampleGeometry ∧ s.units.sized ∧ s.units.nothingWaits
    ∧ s.units.ttc.confirm.level = false ∧ s.units.ttc.phase = x ∧ s.units.ttc.current = some aPlannedMove
    ∧ (s.units.block 3).holder = .turntable ∧ s.canSend 5 := by
  unfold Units.nothingWaits Units.sized State.canSend
  decide +kernel

theorem test_meets_LockTimersRunIntoFault :
    let s := inPhase .unlocking fun z => { z with unlockTime := some 1000, lockTime := some 1000 }
    s.sys.station = .running ∧ s.sys.cfg.turntable = some exampleGeometry ∧ s.units.sized ∧ s.units.ilk.waiting = []
    ∧ s.units.ttc.unlockTime.isSome = true ∧ s.units.ttc.lockTime.isSome = true
    ∧ s.units.ttc.current = some aPlannedMove ∧ s.canSend 5 := by
  unfold Units.sized State.canSend
  decide +kernel

/-- The main run of `aPlannedMove`, `made` steps of it made. -/
def running (x : Phase) (made pos : Nat) : State := inPhase x fun z => { z with
  pos := pos, stepping := some .cw, current := some { aPlannedMove with run := some ⟨.cw, 1700, made, none⟩ } }
theorem test_meets_EveryStepKeepsLawsL6AndL7 : ∀ s ∈ [base, running .moving 1698 5900],
    s.sound ∧ s.tableSound ∧ ∃ t, step s = .next t := by
  have h1 : ∀ s ∈ [base, running .moving 1698 5900], soundParts s := by
    simp only [soundParts, Units.sized, Units.clearHoldsNothing, Link.sound, Link.queuesBounded, Counters.bounded,
      Link.heldOnce, Units.listsBounded, Units.readyKept]
    decide +kernel
  have h2 : ∀ s ∈ [base, running .moving 1698 5900], idleChecked s = true
      ∧ s.sys.cfg.turntable = some exampleGeometry ∧ s.env.running = true := by decide +kernel
  have h3 : ∀ s ∈ [base, running .moving 1698 5900], deckParts exampleGeometry s.units := by
    simp only [deckParts]
    decide +kernel
  intro s hs
  refine ⟨sound_of_parts s (h1 s hs), table_of_parts s (h2 s hs).1 (fun g hg => ?_) (.inl (h2 s hs).2.2), ?_⟩
  · rw [(h2 s hs).2.1] at hg; cases hg; exact h3 s hs
  · simp only [List.mem_cons, List.not_mem_nil, or_false] at hs
    rcases hs with rfl | rfl <;> exact ⟨_, rfl⟩

theorem test_meets_StepsMoveTheBridge : ∀ x ∈ [.moving, .settling], ∀ made ∈ [1698, 1699],
    let s := running x made 6390
    s.sys.station = .running ∧ s.sys.cfg.turntable = some exampleGeometry
    ∧ s.units.ttc.current = some { aPlannedMove with run := some ⟨.cw, 1700, made, none⟩ } ∧ s.units.ilk.waiting = []
    ∧ s.units.ttc.phase = x ∧ s.units.ttc.homed = true ∧ (true && !s.pins.home) = true ∧ (false && !s.pins.home) = false
    ∧ made ≠ 0
    ∧ exampleGeometry.slip < (exampleGeometry.slipError ((6390 + 1) % 6400)).natAbs := by decide +kernel
theorem test_meets_StepsMoveTheBridge_noSlip : ∀ x ∈ [.moving, .settling], ∀ made ∈ [0, 1698, 1699],
    let s := running x made 6399
    s.sys.station = .running ∧ s.sys.cfg.turntable = some exampleGeometry ∧ s.units.nothingWaits
    ∧ s.units.ttc.current = some { aPlannedMove with run := some ⟨.cw, 1700, made, none⟩ } ∧ s.units.ttc.homed = true
    ∧ (exampleGeometry.slipError ((6399 + 1) % 6400)).natAbs ≤ exampleGeometry.slip ∧ aPlannedMove.plan = some ⟨.cw, 1700, 0⟩ := by
  unfold Units.nothingWaits
  decide +kernel
theorem test_meets_StepsMoveTheBridge_ramp : ∀ x ∈ [.moving, .settling], ∀ i ∈ [0, 173, 174], ∀ slipped ∈ [true, false],
    let m : Move := { aPlannedMove with aborting := true, slipped := slipped, run := some ⟨.cw, 1700, 600 + i, some (7, 175, i)⟩ }
    let s := inPhase x fun z => { z with pos := 6399, stepping := some .cw, current := some m }
    s.sys.station = .running ∧ s.sys.cfg.turntable = some exampleGeometry ∧ s.units.ttc.current = some m
    ∧ s.units.nothingWaits ∧ s.units.ttc.phase = x ∧ s.units.ttc.homed = true ∧ s.canSend 5
    ∧ ((i + 1 < 175) ↔ i ≠ 174) := by
  unfold Units.nothingWaits State.canSend
  decide +kernel
theorem test_meets_StepsMoveTheBridge_homing : ∀ k ∈ [7198, 7199],
    let s := withTable (inPhase .homing fun z => { z with homed := false }) fun z =>
      { z with current := some { aPlannedMove with homing := k } }
    s.sys.station = .running ∧ s.units.ttc.phase = .homing ∧ s.units.ilk.waiting = []
    ∧ s.units.ttc.current = some { aPlannedMove with homing := k }
    ∧ ((k + 1 < 6400 + 6400 / 8) ↔ k = 7198) := by decide +kernel
/-- An unhomed bridge about to make the first step of homing. -/
def homing : State := withTable (inPhase .homing id) fun z => { z with
  homed := false, stepping := some .cw, current := some { aPlannedMove with plan := none } }
/-- Phase, homed and position after a step. -/
def bridgeAfter : Host.Outcome State Fault Refusal → Option (Phase × Bool × Nat)
  | .next t => some (t.units.ttc.phase, t.units.ttc.homed, t.units.ttc.pos)
  | .fault _ | .refused _ => none
/-- R142: a bridge that starts homing at the index runs on; one that reaches it with its first step is homed. -/
theorem test_homing_counts_the_rise : bridgeAfter (exec (.stepIntervalExpiry ⟨true, true⟩) homing) = some (.homing, false, 1)
    ∧ bridgeAfter (exec (.stepIntervalExpiry ⟨false, true⟩) homing) = some (.moving, true, 0) := by decide +kernel


/-! ### Clock and timetable -/

theorem test_meets_RolloversAdvanceClockAndEntries_minute : (counting 599990).sys.station = .running
    ∧ (counting 599990).units.clock.state = .running ∧ 0 < (counting 599990).units.clock.ratio
    ∧ 600000 ≤ 599990 + (counting 599990).units.clock.ratio ∧ (counting 0).units.clock.acc + 10 < 600000
    ∧ (counting 0).canSend 5 ∧ (counting 0).sys.cfg.station.beacon = true := by
  unfold State.canSend
  decide +kernel

/-- The entry of a record with a status. -/
def entryWith (c : EntryCfg) (x : EntryStatus) : Entry := ⟨c, none, x, false⟩

/-- `base` with entry `i` in a status. -/
def withStatus (s : State) (i : Nat) (x : EntryStatus) : State :=
  but s fun u => { u with entries := u.entries.modify i (Option.map fun y => { y with status := x }) }

/-- `base` with a clock. -/
def withClock (s : State) (c : Clock) : State := but s fun u => { u with clock := c }

/-- The entries of the statement in each status, at minutes where each of its times falls and where none does. -/
theorem test_meets_RolloversAdvanceClockAndEntries_entries :
    (∀ i ∈ [0, 1, 2], ∀ x ∈ [.waiting, .due, .ready, .cancelled, .departed, .missed], let s := withStatus base i x;
      ((Ev.start s.units).u.entries[i]?).map (·.map (·.status)) = some (some x)
      ∧ (s.units.entry i).all (fun y => decide (y.cfg.lead ≤ 15)) = true)
    ∧ (base.units.entry 0).map (·.cfg) = some ⟨.timed, some 8, 30, 5, 0, none, 0, 1⟩
    ∧ (base.units.entry 2).map (fun y => (y.cfg.kind, y.cfg.hour, y.cfg.minute)) = some (.show, some 9, 0)
    ∧ (base.units.entry 1).map (·.cfg.kind) = some .onDemand
    ∧ (∀ m ∈ [505, 510, 511, 520, 540], (8 * 60 + 30 + 1440 - 5) % 1440 = m % 1440 ∨ ∃ k ∈ [0, 1, 10, 30], (8 * 60 + 30 + k) % 1440 = m % 1440)
    ∧ (Ev.start base.units).u.hasSource 0 = false ∧ ¬ 8 ≤ (Ev.start base.units).u.ilk.waiting.length
    ∧ (let s := scanned (List.replicate 8 (entryRequest 3 none)); 8 ≤ (Ev.start s.units).u.ilk.waiting.length) := by
  decide +kernel

/-- Entry 0 in a status as the rollover to a minute comes, and as a beacon jumps 16 minutes ahead over its departure at 08:30. -/
theorem test_meets_RolloversAdvanceClockAndEntries_commands :
    (∀ m ∈ [(EntryStatus.ready, 511), (.due, 520), (.departed, 540), (.missed, 540)],
      let s := withClock (withStatus base 0 m.1) ⟨.running, m.2 - 1, 599990, 10, 0⟩;
      s.sys.station = .running ∧ s.units.clock.state = .running ∧ (s.units.clock.minute + 1) % 1440 = m.2
      ∧ s.units.status 0 = some m.1)
    ∧ (∀ m ∈ [(EntryStatus.ready, 509), (.due, 495), (.waiting, 504), (.waiting, 490)],
      let s := withClock (withStatus (got base .clockBeacon [0, byte ((m.2 + 16) / 256), byte ((m.2 + 16) % 256), 0, 10]) 0 m.1)
        ⟨.running, m.2, 5, 10, 0⟩;
      s.receives .clockBeacon (frame 5 .clockBeacon [0, byte ((m.2 + 16) / 256), byte ((m.2 + 16) % 256), 0, 10]) []
      ∧ s.units.clock.epoch = 0 ∧ s.units.clock.state = .running ∧ s.units.clock.minute < 1440
      ∧ (payloadAt [0, byte ((m.2 + 16) / 256), byte ((m.2 + 16) % 256)] 1 * 256
        + payloadAt [0, byte ((m.2 + 16) / 256), byte ((m.2 + 16) % 256)] 2) % 1440 = m.2 + 16
      ∧ s.units.status 0 = some m.1 ∧ (s.units.entry 0).map (fun y => (y.cfg.hour, y.cfg.minute, y.cfg.lead)) = some (some 8, 30, 5))
    ∧ (∀ j ∈ [510 - 509, 510 - 495, 505 - 504, 505 - 490], 1 ≤ j ∧ j < 16 ∧ 16 < j + 30) := by
  unfold State.receives
  decide +kernel

theorem test_meets_ClockSettingsControlsAndBeacons_adopted :
    (∀ k ∈ [.clockSet, .clockBeacon], ∀ e ∈ [1, 127, 128, 0],
      (got base k [byte e, 5, 160, 0, 241, 1]).receives k (frame 5 k [byte e, 5, 160, 0, 241, 1]) [])
    ∧ (1 ≤ (127 + 256 - Clock.initial.epoch) % 256 ∧ (127 + 256 - Clock.initial.epoch) % 256 ≤ 127)
    ∧ (withClock base ⟨.stopped, 0, 0, 10, 0⟩).units.clock.state ≠ .invalid
    ∧ ¬ (1 ≤ (128 + 256 - 0) % 256 ∧ (128 + 256 - 0) % 256 ≤ 127) ∧ base.units.clock.state = .invalid
    ∧ (base.units.entries[0]?).any Option.isSome = true := by
  unfold State.receives
  decide +kernel

theorem test_meets_ClockSettingsControlsAndBeacons_controls :
    (∀ p ∈ ([[0, 1], [0, 0], [1, 1]] : List (List Byte)), ∀ x ∈ [.stopped, .running],
      let s := withClock (got base .clockControl p) ⟨x, 1439, 5, 10, 0⟩
      s.receives .clockControl (frame 5 .clockControl p) [] ∧ s.units.clock.state = x ∧ s.units.clock.epoch = 0)
    ∧ (∀ p ∈ ([[0, 0, 0, 0, 10], [0, 2, 206, 0, 10], [0, 2, 207, 0, 10], [0, 5, 159, 0, 10], [128, 0, 0, 0, 10]] :
        List (List Byte)), let s := withClock (got base .clockBeacon p) ⟨.running, 1439, 5, 10, 0⟩
      s.receives .clockBeacon (frame 5 .clockBeacon p) [] ∧ s.units.clock.state ≠ .invalid
      ∧ ((payloadAt p 0 + 256 - 0) % 256 = 0 ∨ 128 ≤ (payloadAt p 0 + 256 - 0) % 256) ∧ s.units.clock.minute < 1440)
    ∧ (718 + 1440 - 1439) % 1440 = 719 ∧ (719 + 1440 - 1439) % 1440 = 720 := by
  unfold State.receives
  decide +kernel

theorem test_meets_TimetableLoadAndCancel :
    (∀ p ∈ ([[47, 0, 23, 59, 16, 0, 3, 231, 0, 0], [0, 2, 255, 0, 0, 63, 0, 0, 0, 0], [48, 0, 8, 0, 0, 0, 0, 0, 0, 0],
        [0, 3, 8, 0, 0, 0, 0, 0, 0, 0], [0, 0, 24, 0, 0, 0, 0, 0, 0, 0], [0, 0, 8, 60, 0, 0, 0, 0, 0, 0],
        [0, 1, 8, 0, 0, 63, 0, 0, 0, 0], [0, 0, 8, 0, 0, 0, 3, 232, 0, 0]] : List (List Byte)),
      let s := got base .timetableLoad p
      s.env.mirrors = true ∧ (within .announcing s).env.mirrors = true
      ∧ s.units.lnk.rx = [frame 5 .timetableLoad p] ∧ s.canSend 5 ∧ s.sys.station = .running)
    ∧ departable base.sys.cfg 0 = true ∧ departable base.sys.cfg 63 = false
    ∧ (withStatus base 0 .due).units.status 0 = some .due
    ∧ (∀ i ∈ [0, 1, 47, 48], let s := got base .timetableCancel [byte i]
      s.env.mirrors = true ∧ s.units.lnk.rx = [frame 5 .timetableCancel [byte i]] ∧ s.canSend 5 ∧ s.units.sized)
    ∧ base.units.entry 47 = none
    ∧ (∀ x ∈ [.waiting, .due, .ready, .departed, .cancelled, .missed], ∀ i ∈ [0, 1],
      ((withStatus base i x).units.entry i).map (·.status) = some x) := by
  unfold State.canSend Units.sized
  decide +kernel
theorem test_meets_TimetableLoadAndCancel_detached :
    let s := withRoute (withStatus (got base .timetableCancel [0]) 0 .due) 63 fun y => { y with attached := some (entryRequest 0 none) }
    s.units.status 0 = some .due ∧ (s.units.route 63).attached = some (entryRequest 0 none) := by decide +kernel

/-- `base` with entries 0 and 1 in a status, their departure block about to clear, and the buttons in a state. -/
def departing (b : Nat) (x : EntryStatus) (tag : Tag) (y : ButtonState) : State :=
  but (buttonsAt (withTrain (filtering .falling b) b tag) y) fun u => { u with entries := u.entries.map (Option.map fun z =>
    { z with status := x, depBlock := some b }) }

theorem test_meets_DeparturesOnTheClearEvent : ∀ b ∈ [0, 1, 47], ∀ x ∈ [.ready, .due, .waiting],
    ∀ tag ∈ [.known 7, .known 8, .unknown], ∀ y ∈ [.busy, .armed], let s := departing b x tag y
    s.sys.station = .running ∧ s.units.sized ∧ s.units.nothingWaits ∧ (s.units.filter b).state = .falling
    ∧ (s.units.block b).occupied = true ∧ (s.units.block b).tag = tag ∧ s.units.status 1 = some x
    ∧ (s.units.entry 1).map (fun z => (z.depBlock, z.cfg.tag, z.cfg.kind)) = some (some b, some 7, .onDemand)
    ∧ (s.sys.cfg.button 0).kind = .depart ∧ (s.sys.cfg.button 0).entry = 1 ∧ (s.units.button 0).state = y := by
  unfold Units.sized Units.nothingWaits
  decide +kernel

/-! ### Buttons and the board -/

/-- Button `k` in a state with its press filter PRESSING, the clock running. -/
def pressing (k : Nat) (x : ButtonState) : State :=
  but (withClock base ⟨.running, 0, 0, 10, 0⟩) fun u => { u with biu := { u.biu with
    buttons := u.biu.buttons.modify k fun y => { y with state := x, filter := .pressing, timer := some 20 } } }

theorem test_meets_ButtonsActAndTimeOut_press :
    (∀ k ∈ [0, 1, 2, 15], ∀ x ∈ [.armed, .busy, .guard, .disabled], let s := pressing k x
      s.sys.station = .running ∧ s.units.biu.buttons[k]? = some ⟨x, .pressing, some 20, none, none⟩
      ∧ s.units.nothingWaits)
    ∧ (base.sys.cfg.button 0).kind = .depart ∧ (base.sys.cfg.button 1).kind = .turntableShow
    ∧ (base.sys.cfg.button 2).kind = .stopPlunger
    ∧ ((pressing 0 .armed).units.entry 1).map (fun y => (y.cfg.kind, y.status)) = some (.onDemand, .waiting)
    ∧ (pressing 0 .armed).units.clock.state = .running ∧ (pressing 0 .armed).units.hasSource 1 = false
    ∧ (pressing 0 .armed).units.status 1 = some .waiting
    ∧ ((pressing 0 .armed).units.entry 1).all (fun y =>
        !tagReady (pressing 0 .armed).env (pressing 0 .armed).units (y.request 1 none)) = true
    ∧ (let s := withTrain (withTable (pressing 1 .armed) fun z => { z with
          phase := .aligned, alignedAt := some (0, .a), homed := true, pos := 5900 }) 3 (.known 7)
      let s := but s fun u => { u with biu := { u.biu with ready := true } }
      s.sys.cfg.turntable = some exampleGeometry ∧ s.units.biu.ready = true ∧ (s.units.block 3).occupied = true
      ∧ s.units.ttc.current = none ∧ s.units.ttc.phase = .aligned ∧ s.units.ttc.alignedAt.isSome = true
      ∧ s.units.nothingWaits)
    ∧ (pressing 1 .armed).units.biu.ready = false := by
  unfold Units.nothingWaits
  decide +kernel

theorem test_meets_ButtonsActAndTimeOut_timers : ∀ k ∈ [0, 15],
    let s := but base fun u => { u with biu := { u.biu with
      buttons := u.biu.buttons.set k ⟨.guard, .releasing, some 20, some 5000, some (500, true)⟩ } }
    s.sys.station = .running
    ∧ s.units.biu.buttons[k]? = some ⟨.guard, .releasing, some 20, some 5000, some (500, true)⟩
    ∧ s.units.clock.state ≠ .running ∧ s.units.ase.stop = .empty
    ∧ (withClock s ⟨.running, 0, 0, 10, 0⟩).units.clock.state = .running := by decide +kernel

theorem test_meets_BoardSendsTheLowestDirtyRow : base.sys.station = .running
    ∧ (base.units.bdr.rows[0]?).any (·.dirty) = true
    ∧ (let s := but base fun u => { u with bdr := ⟨u.bdr.rows.map fun x => { x with dirty := false }, some 30000, some ⟨4, []⟩⟩ }
      (s.units.bdr.rows.all fun x => !x.dirty) = true ∧ s.units.bdr.refresh.isSome = true
      ∧ s.units.bdr.line.isSome = true)
    ∧ base.units.bdr.line = none := by decide +kernel

theorem test_meets_BoardSendsTheLowestDirtyRow_composes :
    base.units.bdr.rows.length = 5 ∧ announcing.units.bdr.rows.length = 5 ∧ announcing.sys.settle.isSome = true
    ∧ (counting 599990).units.bdr.rows.length = 5
    ∧ (let s := inPhase .unlocking fun z => { z with unlockTime := some 900 };
      s.units.ttc.unlockTime.isSome = true ∧ s.sys.cfg.turntable.isSome = true ∧ s.sys.station = .running)
    ∧ (sentTo 63 .zoneStop).receives .zoneStop (frame 63 .zoneStop []) [] ∧ (sentTo 63 .zoneStop).units.ase.stop = .empty
    ∧ (let s := withClock (got base .clockControl [0, 1]) ⟨.stopped, 0, 0, 10, 0⟩;
      s.receives .clockControl (frame 5 .clockControl [0, 1]) [] ∧ s.units.clock.state = .stopped)
    ∧ (got base .clockSet [9, 0, 0, 0, 10, 1]).receives .clockSet (frame 5 .clockSet [9, 0, 0, 0, 10, 1]) []
    ∧ base.units.clock.state = .invalid
    ∧ (∀ k ∈ [.timetableLoad, .timetableCancel, .tagSet], (got base k [0]).receives k (frame 5 k [0]) [])
    ∧ (got base .timetableCancel [0]).units.status 0 = some .waiting ∧ base.units.nothingWaits := by
  unfold State.receives Units.nothingWaits
  decide +kernel

/-- R178: the message and clock rows of a clock that is not set, and of 08:05 with the stop state on. -/
theorem test_rows : (composeRows base.env base.units)[3]? = some (padTo 32 (textOf "Layout clock not set"))
    ∧ (let s := but (withClock base ⟨.running, 485, 0, 10, 0⟩) fun u => { u with ase.stop := ⟨true, false, []⟩ };
      (composeRows s.env s.units)[3]? = some (padTo 32 (textOf "Trains held - please wait"))
      ∧ (composeRows s.env s.units)[4]? = some (padTo 32 (textOf "08:05*"))) := by decide +kernel

/-! ### The link -/

/-- A frame of station 9 to `dest` as its bytes. -/
def bytesTo (dest src : Nat) (k : FrameKind) (p : List Byte) : List Byte := (⟨dest, src, k, p⟩ : Frame).bytes

theorem test_meets_FramesAreJudgedAtTheirEnd : base.env.listens = true ∧ base.sys.number = some 5 ∧ base.units.sized
    ∧ base.units.nothingWaits
    ∧ receive (bytesTo 5 9 .tagSet [1, 0, 7]) true = .badFraming
    ∧ receive (((bytesTo 5 9 .tagSet [1, 0, 7]).dropLast) ++ [0]) false = .badCrc
    ∧ (∀ d ∈ [5, 6, 63, 64, 66, 127], receive (bytesTo d 9 .tagSet [1, 0, 7]) false
        = .whole d 9 FrameKind.tagSet.code [1, 0, 7])
    ∧ base.sys.cfg.station.groupMask.getLsbD (66 - 64) = true ∧ base.sys.cfg.station.groupMask.getLsbD (64 - 64) = false
    ∧ FrameKind.ofCode FrameKind.tagSet.code = some .tagSet ∧ FrameKind.ofCode 255 = none
    ∧ FrameKind.takes .tagSet 3 = true ∧ FrameKind.takes .tagSet 2 = false
    ∧ (let s := but base fun u => { u with lnk := { u.lnk with rx := List.replicate 7 (frame 5 .refreshQuery []) }
                                           clu := { u.clu with reception := some ⟨9, [0]⟩ } }
      s.units.lnk.rx.length < 8 ∧ s.units.clu.reception = some ⟨9, [0]⟩) := by
  unfold Units.sized Units.nothingWaits
  decide +kernel

theorem test_meets_FullQueueAndAddressClash :
    (let s := but base fun u => { u with lnk := { u.lnk with rx := List.replicate 8 (frame 5 .occupancyReport []) } };
      s.sys.station = .running ∧ s.sys.number = some 5 ∧ s.units.sized ∧ s.units.nothingWaits
      ∧ (∀ d ∈ [5, 63], receive (bytesTo d 9 .tagSet [1, 0, 7]) false = .whole d 9 FrameKind.tagSet.code [1, 0, 7])
      ∧ FrameKind.takes .tagSet 3 = true ∧ 8 ≤ s.units.lnk.rx.length ∧ s.units.lnk.ordinary.length < 16)
    ∧ receive (bytesTo 63 5 .announce [1]) false = .whole 63 5 FrameKind.announce.code [1]
    ∧ announcing.sys.station = .announcing ∧ announcing.sys.number = some 5 := by
  unfold Units.sized Units.nothingWaits
  decide +kernel

theorem test_meets_StatusQueriesAreAnswered : ∀ page ∈ [0, 3, 4, 6, 7, 255],
    let s := got base .statusQuery [byte page, 0, 1]
    s.env.listens = true ∧ (within .configFault s).env.listens = true
    ∧ s.units.lnk.rx = [frame 5 .statusQuery [byte page, 0, 1]] ∧ s.canSend 5
    ∧ (frame 63 .statusQuery [byte page, 0, 1]).frame.dest ≠ 5 ∧ (frame 5 .statusQuery [byte page, 0, 1]).frame.dest = 5 := by
  unfold State.canSend
  decide +kernel

theorem test_meets_GapsSendByPriority : base.env.listens = true ∧ base.sys.number = some 5
    ∧ base.units.lnk.inHand = none ∧ base.units.lnk.idle = .below ∧ base.units.lnk.idle ≠ .driven
    ∧ base.sys.station = .running := by decide

/-- A frame in hand for the `n`th time. -/
def sending (n : Nat) (b : Option Nat) (last : Bool) : State := but base fun u => { u with lnk := { u.lnk with
  idle := .driven, inHand := some ⟨⟨63, 5, .occupancyReport, []⟩, .blocks [0, 1], n, b, last⟩ } }

theorem test_meets_FramesAreSentOrTriedAgain :
    (∀ n ∈ [1, 9, 10], (sending n none false).env.listens = true
      ∧ (sending n none false).units.lnk.inHand = some ⟨⟨63, 5, .occupancyReport, []⟩, .blocks [0, 1], n, none, false⟩
      ∧ (sending n none false).units.lnk.idle = .driven)
    ∧ (sending 9 (some 31) false).units.lnk.inHand.any (fun x => x.backoff.isSome) = true
    ∧ (∀ x ∈ [.driven, .below, .urgentGap, .ordinaryGap], let s := but (sending 9 (some 31) false) fun u => { u with
        lnk := { u.lnk with idle := x } }
      s.env.listens = true ∧ s.units.lnk.idle = x) ∧ (within .configFault base).env.listens = true := by decide +kernel

end Sys2Proof.Tests
end

/-! PROOFS. Events of a RUNNING station and their frames; input lines (O19), marks (O14). -/

namespace Sys2Proof.Machine

set_option Elab.async false

/-! ## Whole events -/

theorem whenRunning_of_running {s : State} (h : s.sys.station = .running) (f : Env → Ev → Ev) :
    s.whenRunning f = s.event f := by
  simp [State.whenRunning, State.env, Env.running, h]

theorem whenStarted_of_mirrors {s : State} (h : s.env.mirrors = true) (f : Env → Ev → Ev) :
    s.whenStarted f = s.event f := by
  simp [State.whenStarted, h]

theorem whenTable_of_running {s : State} {g : TurntableCfg} (h : s.sys.station = .running)
    (hg : s.sys.cfg.turntable = some g) (f : Env → TurntableCfg → Ev → Ev) :
    s.whenTable f = s.event fun v e => f v g e := by
  simp [State.whenTable, hg, whenRunning_of_running h]

theorem takeFrame_of_takes {s : State} {x : RxFrame} {rest : List RxFrame} {takes : Frame → Bool}
    (h : s.units.lnk.rx = x :: rest) (ht : takes x.frame = true) (act : RxFrame → State → State) :
    s.takeFrame takes act = act x { s with units := s.taken rest } := by
  simp [State.takeFrame, h, ht, State.taken]

theorem silent_start (u : Units) : (Ev.start u).Silent := ⟨rfl, rfl, rfl, rfl, rfl, rfl⟩

/-- An event in progress that has changed the units alone calls for what it called for before. -/
theorem Ev.Silent.units {e : Ev} (h : e.Silent) (u : Units) : { e with u := u }.Silent :=
  ⟨h.causes, h.granted, h.holders, h.signals, h.scan, h.examine⟩

/-- A silent event leaves, in the parts that its end does not touch, what its changes made. -/
theorem event_of_silent {s : State} (f : Env → Ev → Ev) (h : (f s.env (.start s.units)).Silent) {p : Part}
    (hp : p ∉ Part.ofEnd := by decide) : p.agree (f s.env (.start s.units)).u (s.event f).units :=
  (settle_silent h).keeps p hp

/-- The frame of a silent event: the parts that its changes touch, and those that any end may. -/
theorem event_keepsBut {s : State} (f : Env → Ev → Ev) {ps qs : List Part}
    (h : (f s.env (.start s.units)).Silent) (g : Ev.Goes qs (.start s.units) (f s.env (.start s.units)))
    (hq : ∀ p ∈ qs ++ Part.ofEnd, p ∈ ps := by decide) : s.units.keepsBut ps (s.event f).units :=
  ((Goes.mono g fun p hp => hq p (List.mem_append_left _ hp)).after (settle_silent h)
    fun p hp => hq p (List.mem_append_right _ hp)).keeps

/-- Two lists are the same whose records agree in two readings that together say all of a record. -/
theorem eq_of_maps_eq {α β γ : Type} {f : α → β} {g : α → γ} {l l' : List α}
    (hfg : ∀ x y, f x = f y → g x = g y → x = y) (hf : l.map f = l'.map f) (hg : l.map g = l'.map g) : l = l' := by
  induction l generalizing l' with
  | nil => simpa using hf
  | cons x xs ih =>
    cases l' with
    | nil => simp at hf
    | cons y ys =>
      simp only [List.map_cons, List.cons.injEq] at hf hg
      rw [hfg x y hf.1 hg.1, ih hf.2 hg.2]

theorem signals_eq_of_agree {u t : Units} (hc : Part.agree u t .control) (hr : Part.agree u t .ranks) :
    t.ase.signals = u.ase.signals := by
  refine eq_of_maps_eq (fun x y hk hs => ?_) hc hr
  cases x; cases y
  simp_all [Signal.kept, Signal.shown]

/-! ## Input lines (R1, R36, R106, R129, R170) -/

theorem ContactFilter.input_eq (level : Bool) (f : ContactFilter) :
    f.input level = ⟨f.level, if level = f.level then none else some (f.timer.getD 0)⟩ := by
  cases h : f.timer <;> simp [ContactFilter.input, h]

theorem detectorInput_silent (v : Env) (n : Nat) (level : Bool) {e : Ev} (h : e.Silent) :
    (e.detectorInput v n level).Silent := by
  unfold Ev.detectorInput
  split
  · exact h
  · exact h.units _

theorem detectorInput_filters (v : Env) (n : Nat) (level : Bool) (e : Ev) :
    (e.detectorInput v n level).u.filters =
      if (v.cfg.block n).kind = .absent then e.u.filters else e.u.filters.modify n (DetectorFilter.sample level) := by
  unfold Ev.detectorInput
  split <;> rfl

theorem buttonInput_buttons (v : Env) (k : Nat) (level : Bool) (e : Ev) :
    (e.buttonInput v k level).u.biu.buttons =
      if (v.cfg.button k).kind = .unused then e.u.biu.buttons else e.u.biu.buttons.modify k (Button.sample level) := by
  unfold Ev.buttonInput
  split <;> rfl

theorem contactInput_silent (v : Env) (t : Nat) (c : Contact) (level : Bool) {e : Ev} (h : e.Silent) :
    (e.contactInput v t c level).Silent := by
  unfold Ev.contactInput
  split
  · exact h.units _
  · exact h

theorem lampInput_silent (v : Env) (n : Nat) (active : Bool) {e : Ev} (h : e.Silent) :
    (e.lampInput v n active).Silent := by
  unfold Ev.lampInput
  split
  · exact h.units _
  · exact h

theorem buttonInput_silent (v : Env) (k : Nat) (level : Bool) {e : Ev} (h : e.Silent) :
    (e.buttonInput v k level).Silent := by
  unfold Ev.buttonInput
  split
  · exact h
  · exact h.units _

theorem contactInput_of_reads {v : Env} {t : Nat} {x : TurnoutCfg} (hr : v.running = true)
    (hx : v.cfg.turnout t = some x) (hf : x.feedback ≠ .none) (c : Contact) (level : Bool) (e : Ev) :
    e.contactInput v t c level = e.setTurnout t fun y => match c with
      | .normal => { y with normalIn := y.normalIn.input level }
      | .reverse => { y with reverseIn := y.reverseIn.input level } := by
  cases c <;> simp [Ev.contactInput, hr, hx, hf]

theorem lampInput_of_configured {v : Env} {n : Nat} {x : SignalCfg} (hr : v.running = true)
    (hx : v.cfg.signal n = some x) (active : Bool) (e : Ev) :
    e.lampInput v n active = e.setSignal n fun g => { g with
      proving := if g.rank = 0 ∧ g.dark = active then some (g.proving.getD 0) else none } := by
  have h (t : Timer) : t.or (some 0) = some (t.getD 0) := by cases t <;> rfl
  simp [Ev.lampInput, hr, hx, h]

theorem running_env {s : State} (h : s.sys.station = .running) : s.env.running = true := by
  simp [State.env, Env.running, h]

/-- Settles O19: each input line's own filter is stepped in an event that calls for nothing. -/
theorem inputChangesStepTheirFilters : Obligations.InputChangesStepTheirFilters := by
  intro s n level hr
  refine ⟨?detector, ?contact, ?lamp, ?lock, ?button⟩
  case detector =>
    let s' := s.setPins fun p => { p with detectors := p.detectors.set n level }
    let f : Env → Ev → Ev := fun v e => e.detectorInput v n level
    have hs := detectorInput_silent s'.env n level (silent_start s.units)
    refine ⟨s'.event f, congrArg Host.Outcome.next (whenRunning_of_running (s := s') hr _), rfl, ?_,
      event_keepsBut (s := s') f hs (detectorInput_goes _ n level _)⟩
    exact (event_of_silent (s := s') f hs (p := .filters)).trans (detectorInput_filters _ n level _)
  case contact =>
    intro c x hc hf
    let s' := s.setPins fun p => match x with
      | .normal => { p with normals := p.normals.set n level }
      | .reverse => { p with reverses := p.reverses.set n level }
    let f : Env → Ev → Ev := fun v e => e.contactInput v n x level
    have hs := contactInput_silent s'.env n x level (silent_start s.units)
    refine ⟨s'.event f, ?_, ?_, ?_,
      event_keepsBut (s := s') f hs (contactInput_goes _ n x level _)⟩
    · cases x <;> exact congrArg Host.Outcome.next (whenRunning_of_running (s := s') hr _)
    · cases x <;> rfl
    · refine ((event_of_silent (s := s') f hs (p := .turnouts)).trans
        (congrArg (fun e => e.u.tdu.turnouts) (contactInput_of_reads (running_env (s := s') hr) hc hf x level _))).trans ?_
      simp only [setTurnout_u_tdu_turnouts, ContactFilter.input_eq]
      cases x <;> rfl
  case lamp =>
    intro c hc
    let s' := s.setPins fun p => { p with redLamps := p.redLamps.set n level }
    let f : Env → Ev → Ev := fun v e => e.lampInput v n level
    have hs := lampInput_silent s'.env n level (silent_start s.units)
    refine ⟨s'.event f, congrArg Host.Outcome.next (whenRunning_of_running (s := s') hr _), rfl, ?_,
      event_keepsBut (s := s') f hs (lampInput_goes _ n level _)⟩
    exact (signals_eq_of_agree (event_of_silent (s := s') f hs) (event_of_silent (s := s') f hs)).trans
      (congrArg (fun e => e.u.ase.signals) (lampInput_of_configured (running_env (s := s') hr) hc level _))
  case lock =>
    intro hg
    obtain ⟨g, hg⟩ := Option.isSome_iff_exists.1 hg
    let s' := s.setPins fun p => { p with lock := level }
    let f : Env → Ev → Ev := fun _ e => e.ttc fun t => { t with confirm := t.confirm.input level }
    have hs : (f s'.env (.start s.units)).Silent := (silent_start s.units).units _
    refine ⟨s'.event f, congrArg Host.Outcome.next (whenTable_of_running (s := s') hr hg _), rfl, ?_,
      event_keepsBut (s := s') f hs (ttc_goes _ _)⟩
    refine (event_of_silent (s := s') f hs (p := .table)).trans ?_
    simp only [f, ttc_u_ttc, ContactFilter.input_eq]
    rfl
  case button =>
    let s' := s.setPins fun p => { p with buttons := p.buttons.set n level }
    let f : Env → Ev → Ev := fun v e => e.buttonInput v n level
    have hs := buttonInput_silent s'.env n level (silent_start s.units)
    refine ⟨s'.event f, congrArg Host.Outcome.next (whenRunning_of_running (s := s') hr _), rfl, ?_,
      event_keepsBut (s := s') f hs (buttonInput_goes _ n level _)⟩
    exact (event_of_silent (s := s') f hs (p := .buttons)).trans (buttonInput_buttons _ n level _)

end Sys2Proof.Machine


/-! Marks: what the republish timer and a REFRESH QUERY ask to be reported (O14). -/

namespace Sys2Proof.Machine

set_option Elab.async false

/-! ## Marks (R11, R194) -/

/-- What one member of a list makes true under an invariant, and no later one undoes, is true after a fold. -/
theorem foldl_reaches_of {α β : Type} {I P : β → Prop} {g : β → α → β} (inv : ∀ e y, I e → I (g e y))
    (keep : ∀ e y, I e → P e → P (g e y)) {x : α} (make : ∀ e, I e → P (g e x)) {l : List α} (hx : x ∈ l) {e : β}
    (he : I e) : P (l.foldl g e) := by
  obtain ⟨l₁, l₂, rfl⟩ := List.append_of_mem hx
  rw [List.foldl_append, List.foldl_cons]
  have hi : I (l₁.foldl g e) := List.foldlRecOn _ g he fun e h y _ => inv e y h
  exact (List.foldlRecOn (motive := fun e => I e ∧ P e) l₂ g ⟨inv _ _ hi, make _ hi⟩
    fun e h y _ => ⟨inv e y h.1, keep e y h.1 h.2⟩).2

theorem foldl_reaches {α β : Type} {P : β → Prop} {g : β → α → β} (keep : ∀ e y, P e → P (g e y)) {x : α}
    (make : ∀ e, P (g e x)) {l : List α} (hx : x ∈ l) (e : β) : P (l.foldl g e) :=
  foldl_reaches_of (I := fun _ => True) (fun _ _ _ => trivial) (fun e y _ => keep e y) (fun e _ => make e) hx trivial

theorem publish_reports {v : Env} {b : Nat} (hr : v.running = true) (hb : v.cfg.published b = true) (e : Ev) :
    (e.publish v b).u.lnk.reports b := by
  simp [Ev.publish, hr, hb, Link.reports, Link.markBlock]

theorem publishSignal_reports {v : Env} {n : Nat} (hr : v.running = true) (hn : v.cfg.signalPublished n = true)
    (e : Ev) : (e.publishSignal v n).u.lnk.reportsSignal n := by
  simp [Ev.publishSignal, hr, hn, Link.reportsSignal, Link.markSignal]

theorem publishAll_reports {v : Env} {b : Nat} (hr : v.running = true) (hl : b < 48)
    (hb : v.cfg.published b = true) (e : Ev) : (e.publishAll v).u.lnk.reports b := by
  have h : ((List.range 48).foldl (fun e b => e.publish v b) e).u.lnk.reports b :=
    foldl_reaches (P := fun e : Ev => e.u.lnk.reports b) (fun e y => (publish_goes v y e).onward.blocks b)
      (publish_reports hr hb) (List.mem_range.2 hl) e
  exact (Ev.Goes.foldl (fun e n => publishSignal_goes v n e) (List.range 24) _).onward.blocks b h

theorem publishAll_reportsSignal {v : Env} {n : Nat} (hr : v.running = true) (hl : n < 24)
    (hn : v.cfg.signalPublished n = true) (e : Ev) : (e.publishAll v).u.lnk.reportsSignal n :=
  foldl_reaches (P := fun e : Ev => e.u.lnk.reportsSignal n) (fun e y => (publishSignal_goes v y e).onward.signals n)
    (publishSignal_reports hr hn) (List.mem_range.2 hl) _

theorem publish_silent (v : Env) (b : Nat) {e : Ev} (h : e.Silent) : (e.publish v b).Silent := by
  unfold Ev.publish
  split
  · exact h.units _
  · exact h

theorem publishSignal_silent (v : Env) (n : Nat) {e : Ev} (h : e.Silent) : (e.publishSignal v n).Silent := by
  unfold Ev.publishSignal
  split
  · exact h.units _
  · exact h

theorem publishAll_silent (v : Env) {e : Ev} (h : e.Silent) : (e.publishAll v).Silent :=
  List.foldlRecOn _ _ (List.foldlRecOn _ _ h fun _ h b _ => publish_silent v b h) fun _ h n _ =>
    publishSignal_silent v n h

/-- Settles O14: every published item is marked by `publishAll`, in an event that calls for nothing. -/
theorem republishAndRefreshMarkEveryPublishedItem : Obligations.RepublishAndRefreshMarkEveryPublishedItem := by
  refine ⟨?republish, ?refresh, ?announcing⟩
  case republish =>
    intro s hr ht
    let f : Env → Ev → Ev := fun v e => e.republish v
    have he : f s.env (Ev.start s.units) =
      { (Ev.start s.units).publishAll s.env with u.bkt.republish := some 0 } := if_pos ht
    have hs : (f s.env (Ev.start s.units)).Silent := he ▸ (publishAll_silent _ (silent_start _)).units _
    have hl : (f s.env (Ev.start s.units)).u.lnk = ((Ev.start s.units).publishAll s.env).u.lnk := by rw [he]
    have ho := (settle_silent (v := s.env) hs).onward
    refine ⟨s.event f, congrArg Host.Outcome.next (whenRunning_of_running hr f), ?_, ?_, ?_,
      event_keepsBut f hs (republish_goes _ _)⟩
    · exact (event_of_silent f hs (p := .republish)).trans (congrArg (fun e => e.u.bkt.republish) he)
    · exact fun b hb hp => ho.blocks b (hl ▸ publishAll_reports (running_env hr) hb hp _)
    · exact fun n hn hp => ho.signals n (hl ▸ publishAll_reportsSignal (running_env hr) hn hp _)
  case refresh =>
    intro s x rest ⟨hr, hx, hk⟩
    let s' : State := { s with units := s.taken rest }
    let f : Env → Ev → Ev := fun v e => e.refreshQuery v
    have hs := publishAll_silent s'.env (silent_start s'.units)
    have ho := (settle_silent (v := s'.env) hs).onward
    refine ⟨s'.event f, congrArg Host.Outcome.next ?_, ?_, ?_,
      event_keepsBut (s := s') f hs (publishAll_goes _ _)⟩
    · exact (takeFrame_of_takes hx (by simp [ofKind, hk]) _).trans (whenRunning_of_running (s := s') hr f)
    · exact fun b hl hb => ho.blocks b (publishAll_reports (running_env hr) hl hb _)
    · exact fun n hl hn => ho.signals n (publishAll_reportsSignal (running_env hr) hl hn _)
  case announcing =>
    intro s x rest ha hx hk
    refine ⟨{ s with units := s.taken rest }, congrArg Host.Outcome.next ?_, fun _ h => h, fun _ h => h,
      fun p _ => Part.agree_refl _ p⟩
    refine (takeFrame_of_takes hx (by simp [ofKind, hk]) _).trans ?_
    simp [State.whenRunning, State.env, Env.running, ha]

end Sys2Proof.Machine


/-! The invariants at reset (O3). -/

namespace Sys2Proof.Machine

set_option Elab.async false

/-! ## Reset (R196) -/

theorem initial_turnout (t : Nat) : Units.initial.turnout t = .initial := List.getElem?_getD_replicate_default_eq ..
theorem initial_signal (n : Nat) : Units.initial.signal n = .initial := List.getElem?_getD_replicate_default_eq ..
theorem initial_route (n : Nat) : Units.initial.route n = .initial := List.getElem?_getD_replicate_default_eq ..
theorem initial_claim (n : Nat) : Units.initial.claim n = .initial := List.getElem?_getD_replicate_default_eq ..

theorem lawful_of_empty {c : Config} (hr : c.routes = []) (ht : c.turntable = none) : Lawful c where
  turnouts n r h := by simp [Config.route, hr] at h
  turntable g h := by simp [ht] at h

theorem initial_units_sound : Units.initial.sound := by
  simp only [Units.sound, Units.sized, Units.clearHoldsNothing, Link.sound, Link.queuesBounded, Counters.bounded,
    Link.heldOnce]
  decide

/-- R37, R49: a turnout that is neither QUEUED nor MOVING, with no drive and no requester. -/
structure Turnout.Rests (x : Turnout) : Prop where
  notQueued   : x.state ≠ .queued
  notMoving   : x.state ≠ .moving
  noDrive     : x.drive = none
  noRequester : x.requester = none

theorem initial_rests : Turnout.initial.Rests := ⟨by decide, by decide, rfl, rfl⟩

/-- With every turnout at rest and none in the queue the drives are sound, whatever the configuration. -/
theorem drivesSound_of_rests {v : Env} {u : Units} (hq : u.tdu.queue = []) (h : ∀ t, (u.turnout t).Rests) :
    u.drivesSound v where
  once := by simp [hq]
  queued t := by simp [hq, (h t).notQueued]
  moving t := by simp [(h t).noDrive, (h t).notMoving]
  known t hm := absurd hm (h t).notMoving
  pulse t p hp := by simp [(h t).noDrive] at hp
  motors := by
    rw [Units.motorsMoving, List.countP_eq_zero.2 fun t _ => by simp [(h t).notMoving]]
    exact Nat.zero_le _
  waits t hw := by simp [(h t).noRequester] at hw
  resting _ t := ⟨(h t).notQueued, (h t).notMoving⟩

theorem initial_drivesSound (v : Env) : Units.initial.drivesSound v :=
  drivesSound_of_rests rfl fun t => initial_turnout t ▸ initial_rests

theorem reset_sound : State.reset.sound where
  units := initial_units_sound
  lists := ⟨Nat.zero_le _, Nat.zero_le _⟩
  ready := rfl
  drives := initial_drivesSound _
  config := lawful_of_empty rfl rfl

theorem reset_signalsSound : State.reset.signalsSound where
  shows n h := by simp [State.reset, initial_signal, Signal.initial] at h
  entry n k h := by simp [State.reset, initial_signal, Signal.initial] at h
  top n := by simp [State.reset, initial_signal, Signal.initial, Config.signal, Config.empty]
  dark _ n := by simp [State.reset, initial_signal, Signal.initial]

theorem reset_tableSound : State.reset.tableSound where
  deck g h := by simp [State.reset, Config.empty] at h
  locked n r c h := by simp [State.reset, Config.route, Config.empty] at h
  claims n r h := by simp [State.reset, Config.route, Config.empty] at h
  before _ := ⟨fun n => by simp [State.reset, initial_route, initial_claim, Route.initial, Claim.initial],
    rfl, rfl, rfl, rfl⟩

/-- Settles O3: at reset every record is at its first value, and no item is configured. -/
theorem resetStateIsSound : Obligations.ResetStateIsSound :=
  ⟨reset_sound, reset_signalsSound, reset_tableSound⟩

end Sys2Proof.Machine


/-! The station's invariant within an event (laws L9, L10; R42, R49, R74, R131, R169): the relation `Ev.Upholds` that
every operation's lemma states, and the changes of one record from which operations are made. -/

namespace Sys2Proof.Machine

set_option Elab.async false

/-! ## The drives, turnout by turnout -/

/-- What `Units.drivesSound` asks of turnout `t` alone; `r` says whether a turnout may be QUEUED or MOVING, as it may while
RUNNING (R37). -/
structure Units.turnoutFits (v : Env) (r : Bool) (t : Nat) (u : Units) : Prop where
  queued  : t ∈ u.tdu.queue.map Prod.fst ↔ (u.turnout t).state = .queued
  moving  : (u.turnout t).drive.isSome = true ↔ (u.turnout t).state = .moving
  known   : (u.turnout t).state = .moving → (v.cfg.turnout t).isSome = true
  pulse   : ∀ p, (u.turnout t).drive = some ⟨p, .pulse⟩ → ∃ k, u.tdu.cdu = .pulsing t k
  waits   : (u.turnout t).requester.isSome = true → (u.turnout t).state = .queued ∨ (u.turnout t).state = .moving
  resting : r = false → (u.turnout t).state ≠ .queued ∧ (u.turnout t).state ≠ .moving

/-- Laws L9 and L10 on throw queue and drives, but for the record of a turnout `ex` that is being changed. -/
structure Units.drivesBut (v : Env) (r : Bool) (ex : Option Nat) (u : Units) : Prop where
  once   : (u.tdu.queue.map Prod.fst).Nodup
  fits   : ∀ t, ex ≠ some t → u.turnoutFits v r t
  motors : u.motorsMoving v ≤ 4

theorem drivesBut_none_iff {v : Env} {u : Units} : u.drivesBut v v.running none ↔ u.drivesSound v :=
  ⟨fun h => ⟨h.once, fun t => (h.fits t nofun).queued, fun t => (h.fits t nofun).moving, fun t => (h.fits t nofun).known,
    fun t => (h.fits t nofun).pulse, h.motors, fun t => (h.fits t nofun).waits, fun hr t => (h.fits t nofun).resting hr⟩,
   fun h => ⟨h.once, fun t _ => ⟨h.queued t, h.moving t, h.known t, h.pulse t, h.waits t, fun hr => h.resting hr t⟩,
    h.motors⟩⟩

theorem Units.drivesBut.but {v : Env} {r : Bool} {ex : Option Nat} {u : Units} {t : Nat} (h : u.drivesBut v r ex)
    (hex : ex = none ∨ ex = some t) : u.drivesBut v r (some t) :=
  ⟨h.once, fun k hk => h.fits k (by rcases hex with rfl | rfl <;> simp_all), h.motors⟩

theorem Units.drivesBut.restore {v : Env} {r : Bool} {ex : Option Nat} {u : Units} {t : Nat} (h : u.drivesBut v r (some t))
    (hf : u.turnoutFits v r t) : u.drivesBut v r ex :=
  ⟨h.once, fun k _ => if hk : k = t then hk ▸ hf else h.fits k (by simpa using fun e => hk e.symm), h.motors⟩

/-- A turnout at rest that is not in the queue fits. -/
theorem turnoutFits_of_rests {v : Env} {r : Bool} {u : Units} {t : Nat} (hq : t ∉ u.tdu.queue.map Prod.fst)
    (h : (u.turnout t).Rests) : u.turnoutFits v r t where
  queued := iff_of_false hq h.notQueued
  moving := by simp [h.noDrive, h.notMoving]
  known hm := absurd hm h.notMoving
  pulse p hp := by simp [h.noDrive] at hp
  waits hw := by simp [h.noRequester] at hw
  resting _ := ⟨h.notQueued, h.notMoving⟩

/-- A turnout fits on when its state stays, its drive stays in being and has no new pulse, and no requester joins. -/
theorem turnoutFits_congr {v : Env} {r : Bool} {u u' : Units} {t : Nat} (h : u.turnoutFits v r t)
    (hq : t ∈ u'.tdu.queue.map Prod.fst ↔ t ∈ u.tdu.queue.map Prod.fst)
    (hs : (u'.turnout t).state = (u.turnout t).state)
    (hd : (u'.turnout t).drive.isSome = (u.turnout t).drive.isSome)
    (hp : ∀ p, (u'.turnout t).drive = some ⟨p, .pulse⟩ → ∃ q, (u.turnout t).drive = some ⟨q, .pulse⟩)
    (hr : (u'.turnout t).requester.isSome = true → (u.turnout t).requester.isSome = true)
    (hc : ∀ j, u.tdu.cdu = .pulsing t j → ∃ k, u'.tdu.cdu = .pulsing t k) : u'.turnoutFits v r t where
  queued := by rw [hq, hs]; exact h.queued
  moving := by rw [hd, hs]; exact h.moving
  known := by rw [hs]; exact h.known
  pulse p hx := by
    obtain ⟨q, hq⟩ := hp p hx
    exact (h.pulse q hq).elim hc
  waits hx := by rw [hs]; exact h.waits (hr hx)
  resting := by rw [hs]; exact h.resting

/-- A turnout whose record stays fits on. -/
theorem turnoutFits_of_eq {v : Env} {r : Bool} {u u' : Units} {t : Nat} (h : u.turnoutFits v r t)
    (hk : u'.turnout t = u.turnout t) (hq : t ∈ u'.tdu.queue.map Prod.fst ↔ t ∈ u.tdu.queue.map Prod.fst)
    (hc : ∀ j, u.tdu.cdu = .pulsing t j → ∃ k, u'.tdu.cdu = .pulsing t k) : u'.turnoutFits v r t :=
  turnoutFits_congr h hq (by rw [hk]) (by rw [hk]) (fun p hp => ⟨p, hk ▸ hp⟩) (by rw [hk]; exact id) hc

/-! ## Motors that are MOVING (R42) -/

theorem countP_le_succ {p q : Nat → Bool} {t : Nat} {l : List Nat} (hl : l.Nodup)
    (h : ∀ k ∈ l, k ≠ t → p k = true → q k = true) : l.countP p ≤ l.countP q + 1 := by
  induction l with
  | nil => simp
  | cons x xs ih =>
    obtain ⟨hx, hxs⟩ := List.nodup_cons.1 hl
    by_cases hxt : x = t
    · have hle : xs.countP p ≤ xs.countP q := List.countP_mono_left fun k hk =>
        h k (List.mem_cons_of_mem _ hk) fun hkt => hx (hxt ▸ hkt ▸ hk)
      have hp := List.countP_cons (p := p) (a := x) (l := xs)
      have hq := List.countP_cons (p := q) (a := x) (l := xs)
      split at hp <;> omega
    · have hle := ih hxs fun k hk => h k (List.mem_cons_of_mem _ hk)
      have hpq := h x List.mem_cons_self hxt
      simp only [List.countP_cons]
      split
      · rename_i hp
        simpa [hpq hp] using hle
      · omega

theorem motorsMoving_le {v : Env} {u u' : Units} {t : Nat} (hk : ∀ k ≠ t, u'.turnout k = u.turnout k)
    (ht : (u'.turnout t).state = .moving → (u.turnout t).state = .moving) :
    u'.motorsMoving v ≤ u.motorsMoving v := by
  refine List.countP_mono_left fun k _ => ?_
  by_cases hkt : k = t
  · subst hkt
    simpa using fun hm hs => ⟨hm, ht hs⟩
  · rw [hk k hkt]; exact id

theorem motorsMoving_le_succ {v : Env} {u u' : Units} {t : Nat} (hk : ∀ k ≠ t, u'.turnout k = u.turnout k) :
    u'.motorsMoving v ≤ u.motorsMoving v + 1 :=
  countP_le_succ List.nodup_range fun k _ hkt => by rw [hk k hkt]; exact id

/-- A turnout that is no motor turnout leaves the count of motors as it was. -/
theorem motorsMoving_le_of_not_motor {v : Env} {u u' : Units} {t : Nat} (hk : ∀ k ≠ t, u'.turnout k = u.turnout k)
    (ht : v.isMotor t = false) : u'.motorsMoving v ≤ u.motorsMoving v := by
  refine List.countP_mono_left fun k _ => ?_
  by_cases hkt : k = t
  · subst hkt
    simp_all [Env.isMotor]
  · rw [hk k hkt]; exact id

/-! ## One turnout's record changes -/

/-- A change at turnout `t`: everything about the other turnouts holds as before. -/
theorem drivesBut_change {v : Env} {r : Bool} {ex : Option Nat} {t : Nat} {u u' : Units} (h : u.drivesBut v r ex)
    (hex : ex = none ∨ ex = some t) (hk : ∀ k ≠ t, u'.turnout k = u.turnout k)
    (hq : ∀ k ≠ t, k ∈ u'.tdu.queue.map Prod.fst ↔ k ∈ u.tdu.queue.map Prod.fst)
    (hc : ∀ k ≠ t, ∀ j, u.tdu.cdu = .pulsing k j → ∃ i, u'.tdu.cdu = .pulsing k i)
    (hn : (u'.tdu.queue.map Prod.fst).Nodup) (hm : u'.motorsMoving v ≤ 4) : u'.drivesBut v r (some t) where
  once := hn
  fits k hkt := by
    have hne : k ≠ t := fun e => hkt (by rw [e])
    exact turnoutFits_of_eq ((h.but hex).fits k hkt) (hk k hne) (hq k hne) (hc k hne)
  motors := hm

theorem setTurnout_turnout (e : Ev) (t k : Nat) (f : Turnout → Turnout) :
    (e.setTurnout t f).u.turnout k =
      if k = t ∧ t < e.u.tdu.turnouts.length then f (e.u.turnout t) else e.u.turnout k := by
  simp only [Units.turnout, setTurnout_u_tdu_turnouts, List.getD_eq_getElem?_getD, List.getElem?_modify]
  by_cases hk : t = k
  · subst hk
    by_cases hl : t < e.u.tdu.turnouts.length <;> simp [hl]
  · simp [hk, Ne.symm hk]

theorem setTurnout_turnout_ne {e : Ev} {t k : Nat} (hk : k ≠ t) (f : Turnout → Turnout) :
    (e.setTurnout t f).u.turnout k = e.u.turnout k := by
  rw [setTurnout_turnout, if_neg fun h => hk h.1]

theorem setTurnout_turnout_self {e : Ev} {t : Nat} (ht : t < e.u.tdu.turnouts.length) (f : Turnout → Turnout) :
    (e.setTurnout t f).u.turnout t = f (e.u.turnout t) := by
  rw [setTurnout_turnout, if_pos ⟨rfl, ht⟩]

theorem turnout_eq_initial {u : Units} {t : Nat} (ht : ¬ t < u.tdu.turnouts.length) : u.turnout t = .initial := by
  rw [Units.turnout, List.getD_eq_getElem?_getD, List.getElem?_eq_none (by omega)]
  rfl

/-- What a change makes true of a record, and is true of the record of a number beyond the list. -/
theorem setTurnout_turnout_of {e : Ev} {t : Nat} {f : Turnout → Turnout} {P : Turnout → Prop}
    (hf : P (f (e.u.turnout t))) (hi : P .initial) : P ((e.setTurnout t f).u.turnout t) := by
  by_cases ht : t < e.u.tdu.turnouts.length
  · rwa [setTurnout_turnout_self ht]
  · rwa [turnout_eq_initial (u := (e.setTurnout t f).u) (by simpa using ht)]

end Sys2Proof.Machine


/-! What an operation upholds: the invariant within an event as one relation between two events. -/

namespace Sys2Proof.Machine

set_option Elab.async false

/-! ## What an operation upholds -/

/-- The invariant within an event, but for the record of a turnout `ex` that is being changed, and for what the
turntable's phase and queue decide; and that the configuration is lawful. -/
structure Ev.Kept (v : Env) (r : Bool) (ex : Option Nat) (e : Ev) : Prop where
  sound   : e.u.sound
  waiting : e.u.ilk.waiting.length ≤ 8
  drives  : e.u.drivesBut v r ex
  config  : Lawful v.cfg

/-- R131, R169: the move queue's bound, and turntable ready. -/
structure Ev.TableKept (v : Env) (e : Ev) : Prop where
  moves : e.u.ttc.queue.length ≤ 4
  ready : e.u.readyKept v

/-- From `a` to `b` an event keeps the invariant (but for turnout `ex`), and the TRACKING slot and the frame in hand stay
(R192). -/
structure Ev.Upholds (v : Env) (r : Bool) (ex : Option Nat) (a b : Ev) : Prop where
  kept     : a.Kept v r none → b.Kept v r ex
  table    : a.TableKept v → b.TableKept v
  tracking : b.u.lnk.tracking = a.u.lnk.tracking
  inHand   : b.u.lnk.inHand = a.u.lnk.inHand

/-- The parts that `Ev.Upholds` speaks of. -/
def Part.watched : List Part := [.turnouts, .throws, .cdu, .waiting, .table, .ready, .slots, .transmitter]

/-- A frame that avoids some parts avoids each selection of them. -/
theorem avoids_of {ps qs rs : List Part} (h : ∀ p ∈ rs, p ∉ ps) (hq : ∀ p ∈ qs, p ∈ rs := by decide) :
    ∀ p ∈ qs, p ∉ ps := fun p hp => h p (hq p hp)

section Frames
variable {ps : List Part} {v : Env} {r : Bool} {ex : Option Nat} {b c : Ev}

theorem Ev.Goes.tdu_eq (g : Ev.Goes ps b c) (hp : ∀ p ∈ [Part.turnouts, .throws, .cdu], p ∉ ps := by decide) :
    c.u.tdu = b.u.tdu := by
  have ht : c.u.tdu.turnouts = b.u.tdu.turnouts := g.keeps .turnouts (hp _ (by decide))
  have hq : c.u.tdu.queue = b.u.tdu.queue := g.keeps .throws (hp _ (by decide))
  have hc : c.u.tdu.cdu = b.u.tdu.cdu := g.keeps .cdu (hp _ (by decide))
  cases hb : b.u.tdu; cases hc' : c.u.tdu
  simp_all

theorem drivesBut_congr {u u' : Units} (h : u.drivesBut v r ex) (hu : u'.tdu = u.tdu) : u'.drivesBut v r ex where
  once := by rw [hu]; exact h.once
  fits t ht := by
    have hk : u'.turnout t = u.turnout t := by rw [Units.turnout, hu]; rfl
    exact turnoutFits_of_eq (h.fits t ht) hk (by rw [hu]) fun j hj => ⟨j, hu ▸ hj⟩
  motors := by simpa [Units.motorsMoving, Units.turnout, hu] using h.motors

theorem Ev.Goes.waiting_eq (g : Ev.Goes ps b c) (hp : Part.waiting ∉ ps := by decide) :
    c.u.ilk.waiting = b.u.ilk.waiting := g.keeps .waiting hp

theorem Ev.TableKept.frame (h : b.TableKept v) (g : Ev.Goes ps b c)
    (hp : ∀ p ∈ [Part.table, .ready], p ∉ ps := by decide) : c.TableKept v := by
  have ht : c.u.ttc = b.u.ttc := g.keeps .table (hp _ (by decide))
  have hr : c.u.biu.ready = b.u.biu.ready := g.keeps .ready (hp _ (by decide))
  obtain ⟨hm, hk⟩ := h
  exact ⟨by rw [ht]; exact hm, by rw [Units.readyKept, ht, hr]; exact hk⟩

theorem Ev.Kept.frame (h : b.Kept v r ex) (g : Ev.Goes ps b c)
    (hp : ∀ p ∈ [Part.turnouts, .throws, .cdu, .waiting], p ∉ ps := by decide) : c.Kept v r ex where
  sound := g.sound h.sound
  waiting := by rw [g.waiting_eq (hp _ (by decide))]; exact h.waiting
  drives := drivesBut_congr h.drives (g.tdu_eq (avoids_of hp))
  config := h.config

end Frames

namespace Ev.Upholds

variable {v : Env} {r : Bool} {ex ex' : Option Nat} {a b c : Ev}

theorem refl (v : Env) (r : Bool) (a : Ev) : Ev.Upholds v r none a a := ⟨id, id, rfl, rfl⟩

/-- A next operation of which each part of the relation is known. -/
theorem step (h : a.Upholds v r ex b) (hk : a.Kept v r none → b.Kept v r ex → c.Kept v r ex')
    (ht : b.TableKept v → c.TableKept v) (hr : c.u.lnk.tracking = b.u.lnk.tracking)
    (hi : c.u.lnk.inHand = b.u.lnk.inHand) : a.Upholds v r ex' c :=
  ⟨fun k => hk k (h.kept k), ht ∘ h.table, hr.trans h.tracking, hi.trans h.inHand⟩

/-- A next operation that changes drives, queues of throws and requests, and nothing that tells of tracking. -/
theorem drives {ps : List Part} (h : a.Upholds v r ex b) (g : Ev.Goes ps b c)
    (hd : a.Kept v r none → b.Kept v r ex → c.u.drivesBut v r ex')
    (hw : b.u.ilk.waiting.length ≤ 8 → c.u.ilk.waiting.length ≤ 8)
    (hp : ∀ p ∈ [Part.table, .ready, .slots, .transmitter], p ∉ ps := by decide) : a.Upholds v r ex' c := by
  have hs : Part.agree b.u c.u .slots := g.keeps _ (hp _ (by decide))
  have ht : Part.agree b.u c.u .transmitter := g.keeps _ (hp _ (by decide))
  exact h.step (fun ka k => ⟨g.sound k.sound, hw k.waiting, hd ka k, k.config⟩)
    (fun k => k.frame g (avoids_of hp)) hs.2.1 ht.2.2.1

/-- A next operation that touches none of the parts that the invariant speaks of. -/
theorem frame {ps : List Part} (h : a.Upholds v r ex b) (g : Ev.Goes ps b c)
    (hp : ∀ p ∈ Part.watched, p ∉ ps := by decide) : a.Upholds v r ex c :=
  h.drives g (fun _ k => drivesBut_congr k.drives (g.tdu_eq (avoids_of hp)))
    (fun k => g.waiting_eq (hp _ (by decide)) ▸ k) (avoids_of hp)

/-- A next operation that acts on the link: it tells, and keeps the TRACKING slot and the frame in hand. -/
theorem link {ps : List Part} (h : a.Upholds v r ex b) (g : Ev.Goes ps b c)
    (hr : c.u.lnk.tracking = b.u.lnk.tracking) (hi : c.u.lnk.inHand = b.u.lnk.inHand)
    (hp : ∀ p ∈ [Part.turnouts, .throws, .cdu, .waiting, .table, .ready], p ∉ ps := by decide) : a.Upholds v r ex c :=
  h.step (fun _ k => k.frame g (avoids_of hp))
    (fun k => k.frame g (avoids_of hp)) hr hi

/-- A next operation that changes the turntable. -/
theorem turntable {ps : List Part} (h : a.Upholds v r ex b) (g : Ev.Goes ps b c) (ht : b.TableKept v → c.TableKept v)
    (hp : ∀ p ∈ [Part.turnouts, .throws, .cdu, .waiting, .slots, .transmitter], p ∉ ps := by decide) :
    a.Upholds v r ex c := by
  have hs : Part.agree b.u c.u .slots := g.keeps _ (hp _ (by decide))
  have hx : Part.agree b.u c.u .transmitter := g.keeps _ (hp _ (by decide))
  exact h.step (fun _ k => k.frame g (avoids_of hp)) ht hs.2.1 hx.2.2.1

/-- A fold of an operation over a list. -/
theorem foldl {α : Type} {g : Ev → α → Ev} (h : a.Upholds v r ex b) (l : List α)
    (hg : ∀ e, a.Upholds v r ex e → ∀ x ∈ l, a.Upholds v r ex (g e x)) : a.Upholds v r ex (l.foldl g b) :=
  List.foldlRecOn l g h hg

theorem ite {p : Prop} [Decidable p] (hb : a.Upholds v r ex b) (hc : a.Upholds v r ex c) :
    a.Upholds v r ex (if p then b else c) := by
  split
  · exact hb
  · exact hc

end Ev.Upholds

end Sys2Proof.Machine


/-! What the operations on turnouts, routes and claims uphold. -/

namespace Sys2Proof.Machine

set_option Elab.async false

section
variable {v : Env} {r : Bool} {ex : Option Nat} {a e : Ev} {t : Nat}

/-! ## Frames sent (R190) -/

theorem add_tracking (f : Frame) (l : Link) : (l.add f).tracking = l.tracking := by
  unfold Link.add Link.addUrgent Link.addOrdinary Link.raiseOverflow
  repeat' split
  all_goals simp

theorem add_inHand (f : Frame) (l : Link) : (l.add f).inHand = l.inHand := by
  unfold Link.add Link.addUrgent Link.addOrdinary Link.raiseOverflow
  repeat' split
  all_goals simp

theorem send_upholds (w : Env) (d : Nat) (k : FrameKind) (p : List Byte) (h : a.Upholds v r ex e) :
    a.Upholds v r ex (e.send w d k p) := by
  refine h.link (send_goes w d k p e) ?_ ?_
  · unfold Ev.send
    split
    · exact add_tracking _ _
    · rfl
  · unfold Ev.send
    split
    · exact add_inHand _ _
    · rfl

theorem answer_upholds {w : Env} {d i : Nat} {k : FrameKind} {c : Code} (h : a.Upholds v r ex e) :
    a.Upholds v r ex (e.answer w d k i c) := send_upholds w _ _ _ h

theorem report_upholds {w : Env} {d : ReportTo} {n : Nat} {o : RouteOutcome} (h : a.Upholds v r ex e) :
    a.Upholds v r ex (e.report w d n o) := send_upholds w _ _ _ h

theorem reportCode_upholds {w : Env} {d : ReportTo} {n m : Nat} {o : RouteOutcome} {c : Code} {i : Item}
    (h : a.Upholds v r ex e) : a.Upholds v r ex (e.reportCode w d n o c i m) := send_upholds w _ _ _ h

theorem releaseClaim_upholds {w : Env} {o k : Nat} (h : a.Upholds v r ex e) :
    a.Upholds v r ex (e.releaseClaim w o k) := send_upholds w _ _ _ h

/-! ## One turnout's record -/

/-- A change of a record that leaves its state and drive, and adds no requester. -/
theorem setTurnout_upholds {f : Turnout → Turnout} (h : a.Upholds v r ex e)
    (hf : ∀ x, (f x).state = x.state ∧ (f x).drive = x.drive
      ∧ ((f x).requester.isSome = true → x.requester.isSome = true)) :
    a.Upholds v r ex (e.setTurnout t f) := by
  have hk (k : Nat) : ((e.setTurnout t f).u.turnout k).state = (e.u.turnout k).state
      ∧ ((e.setTurnout t f).u.turnout k).drive = (e.u.turnout k).drive
      ∧ (((e.setTurnout t f).u.turnout k).requester.isSome = true → (e.u.turnout k).requester.isSome = true) := by
    rw [setTurnout_turnout]
    split
    · rename_i hk
      exact hk.1 ▸ hf _
    · exact ⟨rfl, rfl, id⟩
  refine h.drives (setTurnout_goes t f e) (fun _ ke => ⟨ke.drives.once, fun k hx => ?_, ?_⟩) id
  · obtain ⟨hs, hd, hr⟩ := hk k
    exact turnoutFits_congr (ke.drives.fits k hx) Iff.rfl hs (by rw [hd]) (fun p hp => ⟨p, hd ▸ hp⟩) hr fun j hj => ⟨j, hj⟩
  · refine le_trans (List.countP_mono_left fun k _ => ?_) ke.drives.motors
    rw [(hk k).1]
    exact id

/-- From here on turnout `t` is being changed. -/
theorem Ev.Upholds.but (h : a.Upholds v r none e) (t : Nat) : a.Upholds v r (some t) e :=
  h.step (fun _ k => ⟨k.sound, k.waiting, k.drives.but (.inl rfl), k.config⟩) id rfl rfl

/-- Turnout `t` has been changed, and fits again. -/
theorem Ev.Upholds.restore (h : a.Upholds v r (some t) e) (hf : a.Kept v r none → e.u.turnoutFits v r t) :
    a.Upholds v r none e :=
  ⟨fun k => ⟨(h.kept k).sound, (h.kept k).waiting, (h.kept k).drives.restore (hf k), k.config⟩, h.table, h.tracking, h.inHand⟩

/-- A change of the record of the turnout that is being changed, which starts no drive. -/
theorem setTurnout_at {f : Turnout → Turnout} (h : a.Upholds v r (some t) e)
    (hm : (f (e.u.turnout t)).state = .moving → (e.u.turnout t).state = .moving) :
    a.Upholds v r (some t) (e.setTurnout t f) := by
  have hk (k : Nat) (hne : k ≠ t) := setTurnout_turnout_ne (e := e) hne f
  refine h.drives (setTurnout_goes t f e) (fun _ ke => drivesBut_change ke.drives (.inr rfl) hk
    (fun _ _ => Iff.rfl) (fun _ _ j hj => ⟨j, hj⟩) ke.drives.once ?_) id
  refine le_trans (motorsMoving_le hk ?_) ke.drives.motors
  rw [setTurnout_turnout]
  split
  · exact hm
  · exact id

/-- The entry of the turnout that is being changed leaves the throw queue. -/
theorem leaveQueue_at (h : a.Upholds v r (some t) e) :
    a.Upholds v r (some t) (e.setThrows fun q => q.filter fun x => x.1 != t) := by
  refine h.drives (setThrows_goes _ e) (fun _ ke => drivesBut_change ke.drives (.inr rfl) (fun _ _ => rfl)
    (fun k hk => ?_) (fun _ _ j hj => ⟨j, hj⟩) ?_ ke.drives.motors) id
  · simp only [setThrows_u_tdu_queue, List.mem_map, List.mem_filter, bne_iff_ne]
    exact ⟨fun ⟨x, ⟨hx, _⟩, hk'⟩ => ⟨x, hx, hk'⟩, fun ⟨x, hx, hk'⟩ => ⟨x, ⟨hx, hk'.symm ▸ hk⟩, hk'⟩⟩
  · exact List.Nodup.sublist (List.Sublist.map _ List.filter_sublist) ke.drives.once

theorem not_mem_leaveQueue (q : List (Nat × Pos)) (t : Nat) : t ∉ (q.filter fun x => x.1 != t).map Prod.fst := by
  simp

/-! ## Holds and requesters (R38, R49) -/

theorem setHolds_upholds {f : Turnout → Turnout} (h : a.Upholds v r ex e)
    (hf : ∀ x, (f x).state = x.state ∧ (f x).drive = x.drive
      ∧ ((f x).requester.isSome = true → x.requester.isSome = true)) :
    a.Upholds v r ex (e.setHolds t f) := by
  have k := setTurnout_upholds (t := t) h hf
  exact .ite (k.frame (callScan_goes _)) k

theorem holdPath_upholds {n : Nat} (h : a.Upholds v r ex e) : a.Upholds v r ex (e.holdPath n t) :=
  setHolds_upholds h fun _ => ⟨rfl, rfl, id⟩
theorem holdFlank_upholds (h : a.Upholds v r ex e) : a.Upholds v r ex (e.holdFlank t) :=
  setHolds_upholds h fun _ => ⟨rfl, rfl, id⟩
theorem dropPath_upholds {n : Nat} (h : a.Upholds v r ex e) : a.Upholds v r ex (e.dropPath n t) :=
  setHolds_upholds h fun _ => ⟨rfl, rfl, id⟩
theorem dropFlank_upholds (h : a.Upholds v r ex e) : a.Upholds v r ex (e.dropFlank t) :=
  setHolds_upholds h fun _ => ⟨rfl, rfl, id⟩

theorem settleRequester_upholds {w : Env} {c : Code} (h : a.Upholds v r ex e) :
    a.Upholds v r ex (e.settleRequester w t c) := by
  unfold Ev.settleRequester
  split
  · exact answer_upholds (setTurnout_upholds h fun _ => ⟨rfl, rfl, nofun⟩)
  · exact h

theorem answer_turnout (w : Env) (d i : Nat) (k : FrameKind) (c : Code) (e : Ev) :
    (e.answer w d k i c).u.turnout t = e.u.turnout t := by
  rw [Units.turnout, (answer_goes w d k i c e).tdu_eq]
  rfl

/-- R49: the requester waits no more; nothing else of the record changes. -/
theorem settleRequester_turnout (w : Env) (c : Code) (e : Ev) :
    (e.settleRequester w t c).u.turnout t = { e.u.turnout t with requester := none } := by
  unfold Ev.settleRequester
  split
  · rename_i hr
    have ht : t < e.u.tdu.turnouts.length := by
      by_contra ht
      rw [turnout_eq_initial ht] at hr
      cases hr
    rw [answer_turnout, setTurnout_turnout_self ht]
  · rename_i hr
    rw [← hr]

theorem settleRequester_queue (w : Env) (c : Code) (e : Ev) :
    (e.settleRequester w t c).u.tdu.queue = e.u.tdu.queue :=
  (settleRequester_goes w t c e).keeps .throws (by decide)

/-! ## The arbiter (R41, R42) -/

theorem mem_leaveQueue {q : List (Nat × Pos)} {k : Nat} (hk : k ≠ t) :
    k ∈ (q.filter fun x => x.1 != t).map Prod.fst ↔ k ∈ q.map Prod.fst := by
  simp only [List.mem_map, List.mem_filter, bne_iff_ne]
  exact ⟨fun ⟨x, ⟨hx, _⟩, hk'⟩ => ⟨x, hx, hk'⟩, fun ⟨x, hx, hk'⟩ => ⟨x, ⟨hx, hk'.symm ▸ hk⟩, hk'⟩⟩

/-- A turnout in the queue has a record. -/
theorem lt_of_queued {u : Units} (h : u.drivesBut v r none) (hq : t ∈ u.tdu.queue.map Prod.fst) :
    t < u.tdu.turnouts.length := by
  by_contra ht
  have hs := (h.fits t nofun).queued.1 hq
  rw [turnout_eq_initial ht] at hs
  cases hs

/-- R42 to R44: an entry that leaves the queue for a drive of stage `st`, the CDU going to `c`. -/
def Ev.driven (t : Nat) (st : DriveStage) (c : Cdu) (e : Ev) : Ev :=
  ((e.setThrows fun q => q.filter fun x => x.1 != t).setCdu c).setTurnout t (Turnout.startDrive st)

theorem startEntry_solenoid {c : TurnoutCfg} (hc : v.cfg.turnout t = some c) (hd : c.drive = .solenoid) (e : Ev) :
    e.startEntry v t = e.driven t .pulse (.pulsing t 0) := by
  simp [Ev.startEntry, Ev.driven, hc, hd]

theorem startEntry_motor {c : TurnoutCfg} (hc : v.cfg.turnout t = some c) (hd : c.drive = .motor) (e : Ev) :
    e.startEntry v t = e.driven t (.motor 0) e.u.tdu.cdu := by
  simp only [Ev.startEntry, hc, hd, Option.map_some]
  rfl

theorem driven_turnout_ne {st : DriveStage} {c : Cdu} {k : Nat} (hk : k ≠ t) (e : Ev) :
    (e.driven t st c).u.turnout k = e.u.turnout k := setTurnout_turnout_ne hk _

theorem driven_drives {st : DriveStage} {c : Cdu} (h : e.u.drivesBut v r none) (hq : t ∈ e.u.tdu.queue.map Prod.fst)
    (hg : (v.cfg.turnout t).isSome = true) (hc : ∀ k ≠ t, ∀ j, e.u.tdu.cdu = .pulsing k j → ∃ i, c = .pulsing k i)
    (hp : st = .pulse → ∃ i, c = .pulsing t i) (hm : (e.driven t st c).u.motorsMoving v ≤ 4) :
    (e.driven t st c).u.drivesBut v r none := by
  have hf := h.fits t nofun
  have ht : (e.driven t st c).u.turnout t = (e.u.turnout t).startDrive st :=
    setTurnout_turnout_self (lt_of_queued h hq) _
  refine (drivesBut_change h (.inl rfl) (fun k hk => driven_turnout_ne hk e) (fun k hk => mem_leaveQueue hk) hc
    (h.once.sublist (List.filter_sublist.map _)) hm).restore ?_
  exact {
    queued := iff_of_false (not_mem_leaveQueue _ t) (by rw [ht]; exact nofun)
    moving := by rw [ht]; exact iff_of_true rfl rfl
    known := fun _ => hg
    pulse := fun p hx => by
      rw [ht, Turnout.startDrive, Option.some.injEq, Drive.mk.injEq] at hx
      exact hp hx.2
    waits := fun _ => .inr (by rw [ht]; rfl)
    resting := fun hr => absurd (hf.queued.1 hq) (hf.resting hr).1 }

/-- R42: an eligible entry starts: the CDU was free for it, or a motor more may move. -/
theorem startEntry_drives (h : e.u.drivesBut v r none) (hq : t ∈ e.u.tdu.queue.map Prod.fst)
    (he : e.u.eligible v t = true) : (e.startEntry v t).u.drivesBut v r none := by
  unfold Units.eligible at he
  cases hc : v.cfg.turnout t with
  | none => simp [hc] at he
  | some c =>
    have hf : e.u.resourceFree v c.drive = true := by simp_all
    have hs : (v.cfg.turnout t).isSome = true := by rw [hc]; rfl
    cases hd : c.drive with
    | solenoid =>
      have hready : e.u.tdu.cdu = .ready := by simpa [hd, Units.resourceFree] using hf
      rw [startEntry_solenoid hc hd]
      refine driven_drives h hq hs (fun k _ j hj => by rw [hready] at hj; cases hj) (fun _ => ⟨0, rfl⟩) ?_
      exact (motorsMoving_le_of_not_motor (fun k hk => driven_turnout_ne hk e)
        (by simp [Env.isMotor, hc, hd])).trans h.motors
    | motor =>
      have hfree : e.u.motorsMoving v < 4 := by simpa [hd, Units.resourceFree] using hf
      rw [startEntry_motor hc hd]
      exact driven_drives h hq hs (fun k _ j hj => ⟨j, hj⟩) nofun
        ((motorsMoving_le_succ fun k hk => driven_turnout_ne hk e).trans hfree)

theorem mem_startEntry_queue {k : Nat} (hk : k ≠ t) (he : e.u.eligible v t = true) :
    k ∈ (e.startEntry v t).u.tdu.queue.map Prod.fst ↔ k ∈ e.u.tdu.queue.map Prod.fst := by
  cases hc : v.cfg.turnout t with
  | none => simp [Units.eligible, hc] at he
  | some c =>
    cases hd : c.drive with
    | solenoid => rw [startEntry_solenoid hc hd]; exact mem_leaveQueue hk
    | motor => rw [startEntry_motor hc hd]; exact mem_leaveQueue hk

/-- R42: a run of the arbiter over entries that are in the queue. -/
theorem arbiter_fold_drives {l : List (Nat × Pos)} (hl : (l.map Prod.fst).Nodup)
    (hq : ∀ x ∈ l, x.1 ∈ e.u.tdu.queue.map Prod.fst) (h : e.u.drivesBut v r none) :
    (l.foldl (fun e x => if e.u.eligible v x.1 then e.startEntry v x.1 else e) e).u.drivesBut v r none := by
  induction l generalizing e with
  | nil => exact h
  | cons x xs ih =>
    obtain ⟨hx, hxs⟩ := List.nodup_cons.1 hl
    rw [List.foldl_cons]
    split
    · rename_i he
      refine ih hxs (fun y hy => (mem_startEntry_queue ?_ he).2 (hq y (List.mem_cons_of_mem _ hy)))
        (startEntry_drives h (hq x List.mem_cons_self) he)
      exact fun hyx => hx (hyx ▸ List.mem_map_of_mem hy)
    · exact ih hxs (fun y hy => hq y (List.mem_cons_of_mem _ hy)) h

theorem arbiter_upholds (h : a.Upholds v r none e) : a.Upholds v r none (e.arbiter v) :=
  h.drives (arbiter_goes v e)
    (fun _ k => arbiter_fold_drives k.drives.once (fun _ hx => List.mem_map_of_mem hx) k.drives)
    fun k => (arbiter_goes v e).waiting_eq ▸ k

theorem arbiterAtClear_upholds {b : Nat} (h : a.Upholds v r none e) : a.Upholds v r none (e.arbiterAtClear v b) :=
  .ite (arbiter_upholds h) h

/-! ## To rest (R40, R45, R46) -/

/-- The turnout that is being changed leaves the queue and comes to rest, without its requester. -/
theorem Ev.Upholds.rested (h : a.Upholds v r (some t) e) (hq : t ∉ e.u.tdu.queue.map Prod.fst)
    (hr : a.Kept v r none → (e.u.turnout t).Rests) : a.Upholds v r none e :=
  h.restore fun k => turnoutFits_of_rests hq (hr k)

theorem at_atRest (p : Pos) : TurnoutState.at p ≠ .queued ∧ TurnoutState.at p ≠ .moving := by cases p <;> decide

theorem restingState_atRest (p : Option Pos) : restingState p ≠ .queued ∧ restingState p ≠ .moving := by
  cases p with
  | none => decide
  | some p => exact at_atRest p

theorem Units.turnoutFits.noDrive {u : Units} (h : u.turnoutFits v r t) (hm : (u.turnout t).state ≠ .moving) :
    (u.turnout t).drive = none := by
  simpa using mt h.moving.1 hm

theorem Units.turnoutFits.rests {u : Units} (h : u.turnoutFits v r t) (hq : (u.turnout t).state ≠ .queued)
    (hm : (u.turnout t).state ≠ .moving) : (u.turnout t).Rests :=
  ⟨hq, hm, h.noDrive hm, by simpa using mt h.waits (by simp [hq, hm])⟩

/-- R40: the queued throw of an unheld turnout is withdrawn; the turnout rests where its feedback proves. -/
theorem withdrawThrow_upholds (h : a.Upholds v r none e) : a.Upholds v r none (e.withdrawThrow v t) := by
  unfold Ev.withdrawThrow
  dsimp only
  split
  · split
    · rename_i hx
      refine Ev.Upholds.frame ?_ (turnoutReaches_goes v t _)
      refine (setTurnout_at (leaveQueue_at (h.but t)) fun hm => absurd hm (restingState_atRest _).2).rested
        (not_mem_leaveQueue _ t) fun k => setTurnout_turnout_of ?_ initial_rests
      exact ⟨(restingState_atRest _).1, (restingState_atRest _).2,
        ((h.kept k).drives.fits t nofun).noDrive (by rw [hx.1]; decide), rfl⟩
    · exact h
  · exact h

theorem withdrawThrows_upholds {c : RouteCfg} (h : a.Upholds v r none e) : a.Upholds v r none (e.withdrawThrows v c) :=
  h.foldl _ fun _ h _ _ => withdrawThrow_upholds h

/-- A turnout at rest that stays at rest. -/
theorem setTurnout_rests {f : Turnout → Turnout} (h : a.Upholds v r none e)
    (hr : e.Kept v r none → (e.u.turnout t).state ≠ .queued ∧ (e.u.turnout t).state ≠ .moving)
    (hf : ∀ x : Turnout, x.Rests → (f x).Rests) : a.Upholds v r none (e.setTurnout t f) := by
  refine h.drives (setTurnout_goes t f e) (fun _ k => ?_) id
  have hfit := k.drives.fits t nofun
  have hnew : ((e.setTurnout t f).u.turnout t).Rests :=
    setTurnout_turnout_of (hf _ (hfit.rests (hr k).1 (hr k).2)) initial_rests
  refine (drivesBut_change k.drives (.inl rfl) (fun k hk => setTurnout_turnout_ne hk f) (fun _ _ => Iff.rfl)
    (fun _ _ j hj => ⟨j, hj⟩) k.drives.once ?_).restore
    (turnoutFits_of_rests (fun hq => (hr k).1 (hfit.queued.1 hq)) hnew)
  exact (motorsMoving_le (fun k hk => setTurnout_turnout_ne hk f) fun hm => absurd hm hnew.notMoving).trans
    k.drives.motors

/-! ## The route's claim and state (R54, R60 to R62, R79 to R85) -/

variable {n : Nat} {c : RouteCfg}

theorem openClaim_upholds {p : ForeignPart} {st : ClaimStatus} (h : a.Upholds v r ex e) :
    a.Upholds v r ex (e.openClaim v n c p st) := send_upholds v _ _ _ (h.frame (setClaim_goes ..))

theorem closeClaim_upholds (h : a.Upholds v r ex e) : a.Upholds v r ex (e.closeClaim v n c) := by
  unfold Ev.closeClaim
  split
  · exact h
  · refine Ev.Upholds.frame ?_ (setClaimState_goes ..)
    split
    · exact releaseClaim_upholds h
    · exact releaseClaim_upholds h
    · exact releaseClaim_upholds h
    · exact h

theorem routeSet_upholds (h : a.Upholds v r ex e) : a.Upholds v r ex (e.routeSet v n c) := by
  have hs := h.frame (setRouteState_goes v n c .set e)
  unfold Ev.routeSet
  dsimp only
  split <;> split
  · exact ((report_upholds hs).frame (setRoute_goes ..)).frame (tellSet_goes ..)
  · exact (hs.frame (setRoute_goes ..)).frame (tellSet_goes ..)
  · exact report_upholds hs
  · exact hs

theorem routeThrowing_upholds (h : a.Upholds v r ex e) : a.Upholds v r ex (e.routeThrowing v n c) :=
  have hs := h.frame (setRouteState_goes v n c .throwing e)
  .ite (routeSet_upholds hs) hs

/-! ## Releasing holds, failure (R62, R65 to R67, R77) -/

theorem dropPathIn_upholds {b : Nat} (h : a.Upholds v r ex e) : a.Upholds v r ex (e.dropPathIn v n c b) :=
  h.foldl _ fun _ h _ _ => .ite (dropPath_upholds h) h

theorem releasePathBlock_upholds {i : Nat} (h : a.Upholds v r ex e) :
    a.Upholds v r ex (e.releasePathBlock v n c i) := by
  have hs := h.frame (setRoute_goes n (fun x => { x with progress := x.progress.set i .released }) e)
  unfold Ev.releasePathBlock
  dsimp only
  split
  · exact dropPathIn_upholds (hs.frame (freeOfRoute_goes ..))
  · exact hs

theorem releaseOverlap_upholds (h : a.Upholds v r ex e) : a.Upholds v r ex (e.releaseOverlap v n c) := by
  have hs := h.frame (setRoute_goes n (fun x => { x with overlapHeld := false }) e)
  unfold Ev.releaseOverlap
  refine .ite ?_ h
  dsimp only
  split
  · exact dropPathIn_upholds (hs.frame (freeOfRoute_goes ..))
  · exact hs

theorem releaseTurnouts_upholds (h : a.Upholds v r ex e) : a.Upholds v r ex (e.releaseTurnouts n c) :=
  (h.foldl _ fun _ h _ _ => dropPath_upholds h).foldl _ fun _ h _ _ => dropFlank_upholds h

theorem releaseHolds_upholds (h : a.Upholds v r ex e) : a.Upholds v r ex (e.releaseHolds v n c) :=
  releaseTurnouts_upholds (h.foldl _ fun _ h _ _ => h.frame (freeOfRoute_goes ..))

/-- R77: a request joins the list again where there is room. -/
theorem rejoin_upholds {q : Request} (h : a.Upholds v r ex e) : a.Upholds v r ex (e.rejoin v q) := by
  unfold Ev.rejoin
  split
  · rename_i hl
    refine Ev.Upholds.frame ?_ (callScan_goes _)
    refine h.drives (setWaiting_goes _ e) (fun _ k => drivesBut_congr k.drives rfl) fun _ => ?_
    simpa using hl
  · exact h.frame (tellLost_goes ..)

theorem routeFail_upholds {k : Code} {i : Item} {o : Nat} (h : a.Upholds v r none e) :
    a.Upholds v r none (e.routeFail v n c k i o) := by
  have hc := closeClaim_upholds (n := n) (c := c)
    (withdrawThrows_upholds (c := c) (releaseHolds_upholds (n := n) (c := c) h))
  have hs := hc.frame (routeIdle_goes n c _)
  unfold Ev.routeFail
  refine Ev.Upholds.frame ?_ (callScan_goes _)
  split <;> split
  · exact rejoin_upholds (reportCode_upholds hs)
  · exact rejoin_upholds hs
  · exact reportCode_upholds hs
  · exact hs

/-! ## The reaction to turnouts (R50) -/

theorem routeMeetsTurnout_upholds (h : a.Upholds v r none e) : a.Upholds v r none (e.routeMeetsTurnout v t n) := by
  unfold Ev.routeMeetsTurnout
  split
  · exact h
  · refine .ite ?_ h
    split
    · exact .ite (routeFail_upholds h) h
    · exact .ite (routeFail_upholds h) (.ite (routeSet_upholds h) h)
    all_goals exact h

theorem turnoutChanged_upholds (h : a.Upholds v r none e) : a.Upholds v r none (e.turnoutChanged v t) :=
  (h.frame (turnoutReaches_goes v t e)).foldl _ fun _ h _ _ => routeMeetsTurnout_upholds h

end

end Sys2Proof.Machine


/-! What the operations on turnouts that drive, fail or throw them uphold (chapter 3), and those that accept routes. -/

namespace Sys2Proof.Machine

set_option Elab.async false

section
variable {v : Env} {r : Bool} {ex : Option Nat} {a e : Ev} {t n : Nat} {c : RouteCfg}

/-! ## Drives that end (R40, R45, R46) -/

/-- The turnout that is being changed comes to rest, and its requester is answered. -/
theorem settled_upholds {f : Turnout → Turnout} {k : Code} (h : a.Upholds v r (some t) e)
    (hq : a.Kept v r none → t ∉ e.u.tdu.queue.map Prod.fst)
    (hs : (f (e.u.turnout t)).state ≠ .queued ∧ (f (e.u.turnout t)).state ≠ .moving)
    (hd : a.Kept v r none → (f (e.u.turnout t)).drive = none) :
    a.Upholds v r none ((e.setTurnout t f).settleRequester v t k) := by
  refine (settleRequester_upholds (setTurnout_at h fun hm => absurd hm hs.2)).restore fun ka =>
    turnoutFits_of_rests ?_ ?_
  · rw [settleRequester_queue]
    exact hq ka
  · rw [settleRequester_turnout]
    exact setTurnout_turnout_of (P := fun y => ({ y with requester := none } : Turnout).Rests)
      ⟨hs.1, hs.2, hd ka, rfl⟩ initial_rests

theorem addFailedTurnout_upholds (h : a.Upholds v r ex e) : a.Upholds v r ex (e.link (Link.addFailedTurnout t)) :=
  h.link (link_addFailedTurnout_goes t e) (pend_tracking _ _) (pend_inHand _ _)

/-- R46, R50: a turnout that fails leaves queue and drive, and its requester is answered. -/
theorem enterFailed_upholds {k : FaultKind} (h : a.Upholds v r (some t) e) :
    a.Upholds v r none (e.enterFailed v t k) := by
  have hs := settled_upholds (f := fun x => { x with state := .failed, drive := none }) (k := .throwFailed)
    (leaveQueue_at h) (fun _ => not_mem_leaveQueue _ t) ⟨nofun, nofun⟩ fun _ => rfl
  have hc := turnoutChanged_upholds (t := t)
    (((addFailedTurnout_upholds (t := t) hs).frame (writeFault_goes k (.turnout t) _)).frame (raiseTurnout_goes v t _))
  exact .ite (arbiter_upholds hc) hc

/-- R40: a QUEUED turnout whose position is proven leaves the queue and rests there. -/
theorem proofWhileQueued_upholds (h : a.Upholds v r none e) : a.Upholds v r none (e.proofWhileQueued v t) := by
  unfold Ev.proofWhileQueued
  dsimp only
  split
  · split
    · rename_i hx
      refine turnoutChanged_upholds (settled_upholds (leaveQueue_at (h.but t)) (fun _ => not_mem_leaveQueue _ t)
        (at_atRest _) fun ka => ?_)
      exact ((h.kept ka).drives.fits t nofun).noDrive (by rw [hx.1]; exact nofun)
    · exact h
  · exact h

theorem turnouts_length {u : Units} (h : u.sound) : u.tdu.turnouts.length = 32 := by
  obtain ⟨⟨_, _, _, _, hl, _⟩, _⟩ := h
  exact hl

/-- R39, R40: a turnout that is not in the queue joins its tail. -/
theorem joinQueue_upholds (h : a.Upholds v r (some t) e)
    (hq : a.Kept v r none → t < 32 ∧ t ∉ e.u.tdu.queue.map Prod.fst ∧ r = true) :
    a.Upholds v r none (e.joinQueue v t) := by
  have hj : a.Upholds v r (some t) (e.setThrows fun q => q ++ [(t, (e.u.turnout t).commanded)]) := by
    refine h.drives (setThrows_goes _ e) (fun ka ke => drivesBut_change ke.drives (.inr rfl) (fun _ _ => rfl)
      (fun k hk => ?_) (fun _ _ j hj => ⟨j, hj⟩) ?_ ke.drives.motors) id
    · simp [hk]
    · rw [setThrows_u_tdu_queue, List.map_append]
      exact ke.drives.once.append (List.nodup_singleton _) (List.disjoint_singleton.2 (hq ka).2.1)
  have hs := setTurnout_at (f := fun x => { x with state := .queued, drive := none }) hj nofun
  refine arbiter_upholds (proofWhileQueued_upholds ((hs.restore fun ka => ?_).frame (turnoutReaches_goes v t _)))
  obtain ⟨ht, -, rfl⟩ := hq ka
  have hx := setTurnout_turnout_self ((turnouts_length (hj.kept ka).sound).symm ▸ ht)
    fun x => { x with state := .queued, drive := none }
  exact {
    queued := iff_of_true (by simp) (by rw [hx])
    moving := by rw [hx]; exact iff_of_false nofun nofun
    known := by rw [hx]; exact nofun
    pulse := by rw [hx]; exact nofun
    waits := fun _ => .inl (by rw [hx])
    resting := nofun }

/-- A turnout that is driven has a record, is in no queue, and is driven while RUNNING alone. -/
theorem driven_facts (he : e.Kept v r ex) (hf : e.u.turnoutFits v r t) (hd : (e.u.turnout t).drive.isSome = true) :
    t < 32 ∧ t ∉ e.u.tdu.queue.map Prod.fst ∧ r = true := by
  have hm := hf.moving.1 hd
  refine ⟨?_, fun hq => ?_, ?_⟩
  · by_contra ht
    rw [turnout_eq_initial (by rw [turnouts_length he.sound]; exact ht)] at hm
    cases hm
  · rw [hf.queued.1 hq] at hm
    cases hm
  · by_contra hr
    exact (hf.resting (by simpa using hr)).2 hm

/-- R45: the drive of the turnout that is being changed ends. -/
theorem driveEnd_at {p : Bool} (h : a.Upholds v r (some t) e) (hd : (e.u.turnout t).drive.isSome = true)
    (hq : a.Kept v r none → t < 32 ∧ t ∉ e.u.tdu.queue.map Prod.fst ∧ r = true) :
    a.Upholds v r none (e.driveEnd v t p) := by
  obtain ⟨d, hd⟩ := Option.isSome_iff_exists.1 hd
  simp only [Ev.driveEnd, hd]
  have hc := turnoutChanged_upholds (t := t) (settled_upholds (k := .done)
    (f := fun x => { x with state := .at d.pos, drive := none }) h (fun ka => (hq ka).2.1) (at_atRest _) fun _ => rfl)
  exact .ite (joinQueue_upholds h hq) (.ite (.ite (arbiter_upholds hc) hc) (enterFailed_upholds h))

theorem driveEnd_upholds {p : Bool} (h : a.Upholds v r none e) : a.Upholds v r none (e.driveEnd v t p) := by
  cases hd : (e.u.turnout t).drive with
  | none => simpa only [Ev.driveEnd, hd] using h
  | some d =>
    have hs : (e.u.turnout t).drive.isSome = true := by rw [hd]; rfl
    exact driveEnd_at (h.but t) hs fun ka => driven_facts (h.kept ka) ((h.kept ka).drives.fits t nofun) hs

/-! ## Throws (R39, R48, R49) -/

/-- A QUEUED or MOVING turnout fits on whatever waits for it and is commanded. -/
theorem turnoutFits_asked {u u' : Units} (h : u.turnoutFits v r t)
    (hq : t ∈ u'.tdu.queue.map Prod.fst ↔ t ∈ u.tdu.queue.map Prod.fst)
    (hs : (u'.turnout t).state = (u.turnout t).state) (hd : (u'.turnout t).drive = (u.turnout t).drive)
    (hc : u'.tdu.cdu = u.tdu.cdu) (hw : (u.turnout t).state = .queued ∨ (u.turnout t).state = .moving) :
    u'.turnoutFits v r t where
  queued := by rw [hq, hs]; exact h.queued
  moving := by rw [hd, hs]; exact h.moving
  known := by rw [hs]; exact h.known
  pulse := by rw [hd, hc]; exact h.pulse
  waits _ := by rw [hs]; exact hw
  resting := by rw [hs]; exact h.resting

/-- R39: the turnout's record once a throw has been taken, before its state decides. -/
def Ev.asked (v : Env) (t : Nat) (p : Pos) (source : Option Nat) (e : Ev) : Ev :=
  (e.replaceRequester v t source).setTurnout t fun x => { x with commanded := p }

theorem asked_at {p : Pos} {s : Option Nat} (h : a.Upholds v r none e) :
    a.Upholds v r (some t) (e.asked v t p s) :=
  have hr := Ev.Upholds.ite (p := (e.u.turnout t).requester = s) h (settleRequester_upholds (t := t) (w := v) (c := .conflict) h)
  setTurnout_at (setTurnout_at (hr.but t) id) id

theorem asked_goes (p : Pos) (s : Option Nat) (e : Ev) :
    Ev.Goes [.turnouts, .counters, .slots, .transmitter] e (e.asked v t p s) :=
  (replaceRequester_goes v t s e).after (setTurnout_goes ..) (by decide)

theorem asked_turnout {p : Pos} {s : Option Nat} (he : e.u.sound) (ht : t < 32) :
    (e.asked v t p s).u.turnout t = { e.u.turnout t with requester := s, commanded := p } := by
  have hl {f : Ev} (hf : f.u.sound) : t < f.u.tdu.turnouts.length := (turnouts_length hf).symm ▸ ht
  have hs := (settleRequester_goes v t .conflict e).sound he
  unfold Ev.asked
  rw [setTurnout_turnout_self (hl ((replaceRequester_goes v t s e).sound he)), Ev.replaceRequester,
    setTurnout_turnout_self (by split; exacts [hl he, hl hs])]
  split
  · rfl
  · rw [settleRequester_turnout]

theorem asked_fits {p : Pos} {s : Option Nat} (he : e.Kept v r none) (ht : t < 32)
    (hw : (e.u.turnout t).state = .queued ∨ (e.u.turnout t).state = .moving) :
    (e.asked v t p s).u.turnoutFits v r t := by
  have hx := asked_turnout (v := v) (p := p) (s := s) he.sound ht
  have hq : (e.asked v t p s).u.tdu.queue = e.u.tdu.queue := (asked_goes p s e).keeps .throws (by decide)
  have hc : (e.asked v t p s).u.tdu.cdu = e.u.tdu.cdu := (asked_goes p s e).keeps .cdu (by decide)
  exact turnoutFits_asked (he.drives.fits t nofun) (by rw [hq]) (by rw [hx]) (by rw [hx]) hc hw

theorem throw_eq (p : Pos) (s : Option Nat) (e : Ev) : e.throw v t p s = match (e.u.turnout t).state with
    | .moving => e.asked v t p s
    | .queued => ((e.asked v t p s).setThrows fun q => q.map fun y => if y.1 = t then (t, p) else y).proofWhileQueued v t
    | .failed => (e.asked v t p s).callScan.joinQueue v t
    | .normal | .reverse | .unknown => (e.asked v t p s).joinQueue v t := by
  unfold Ev.throw
  rfl

/-- The entry of `t` in the throw queue takes a new position. -/
theorem setThrows_pos_upholds {p : Pos} (h : a.Upholds v r none e) :
    a.Upholds v r none (e.setThrows fun q => q.map fun y => if y.1 = t then (t, p) else y) := by
  have hm (q : List (Nat × Pos)) : (q.map fun y => if y.1 = t then (t, p) else y).map Prod.fst = q.map Prod.fst := by
    rw [List.map_map]
    exact List.map_congr_left fun y _ => by dsimp; split <;> simp_all
  refine h.drives (setThrows_goes _ e) (fun _ k => ?_) id
  exact ⟨by rw [setThrows_u_tdu_queue, hm]; exact k.drives.once,
    fun j hj => turnoutFits_of_eq (k.drives.fits j hj) rfl (by rw [setThrows_u_tdu_queue, hm]) fun i hi => ⟨i, hi⟩,
    k.drives.motors⟩

theorem throw_upholds {p : Pos} {s : Option Nat} (h : a.Upholds v r none e) (ht : a.Kept v r none → t < 32) (hr : r = true) :
    a.Upholds v r none (e.throw v t p s) := by
  have ha := asked_at (t := t) (p := p) (s := s) h
  have hq : (e.asked v t p s).u.tdu.queue = e.u.tdu.queue := (asked_goes p s e).keeps .throws (by decide)
  have join (hs : (e.u.turnout t).state ≠ .queued) (ka : a.Kept v r none) :
      t < 32 ∧ t ∉ (e.asked v t p s).u.tdu.queue.map Prod.fst ∧ r = true :=
    ⟨ht ka, by rw [hq]; exact mt ((h.kept ka).drives.fits t nofun).queued.1 hs, hr⟩
  rw [throw_eq]
  cases hs : (e.u.turnout t).state with
  | moving => exact ha.restore fun ka => asked_fits (h.kept ka) (ht ka) (.inr hs)
  | queued =>
    exact proofWhileQueued_upholds (setThrows_pos_upholds (ha.restore fun ka => asked_fits (h.kept ka) (ht ka) (.inl hs)))
  | failed => exact joinQueue_upholds (ha.frame (callScan_goes _)) (join (by rw [hs]; decide))
  | normal | reverse | unknown => exact joinQueue_upholds ha (join (by rw [hs]; decide))

/-! ## Feedback (R36, R46, R47) -/

theorem settleAt_upholds {p : Pos} (h : a.Upholds v r none e)
    (hs : (e.u.turnout t).state ≠ .queued ∧ (e.u.turnout t).state ≠ .moving) : a.Upholds v r none (e.settleAt v t p) := by
  have hx := setTurnout_rests (f := fun x => { x with state := .at p, commanded := p }) h (fun _ => hs)
    fun x hx => ⟨(at_atRest p).1, (at_atRest p).2, hx.noDrive, hx.noRequester⟩
  exact turnoutChanged_upholds (.ite (hx.frame (callScan_goes _)) hx)

theorem feedbackWhileMoving_upholds {p : Option Pos} (h : a.Upholds v r none e) :
    a.Upholds v r none (e.feedbackWhileMoving v t p) := by
  unfold Ev.feedbackWhileMoving
  split
  · exact .ite (driveEnd_upholds h) h
  · exact .ite (driveEnd_upholds h) h
  · exact h
  · exact h

theorem feedbackReaction_upholds {p : Option Pos} (h : a.Upholds v r none e) :
    a.Upholds v r none (e.feedbackReaction v t p) := by
  have rest (hs : (e.u.turnout t).state ≠ .queued ∧ (e.u.turnout t).state ≠ .moving) :
      a.Upholds v r none (if (e.u.turnout t).held then e.enterFailed v t .proofLost else match p with
        | some q => e.settleAt v t q
        | none => (e.setTurnout t fun x => { x with state := .unknown }).turnoutChanged v t) := by
    refine .ite (enterFailed_upholds (h.but t)) ?_
    split
    · exact settleAt_upholds h hs
    · exact turnoutChanged_upholds (setTurnout_rests h (fun _ => hs) fun x hx =>
        ⟨nofun, nofun, hx.noDrive, hx.noRequester⟩)
  unfold Ev.feedbackReaction
  dsimp only
  split
  next hs => exact rest (by rw [hs]; decide)
  next hs => exact rest (by rw [hs]; decide)
  next hs => exact rest (by rw [hs]; decide)
  next => exact proofWhileQueued_upholds h
  next => exact feedbackWhileMoving_upholds h
  next hs =>
    split
    · exact .ite h (settleAt_upholds h (by rw [hs]; decide))
    · exact h

theorem feedbackChange_upholds {n r' : Bool} (h : a.Upholds v r none e) :
    a.Upholds v r none (e.feedbackChange v t n r') := by
  unfold Ev.feedbackChange
  split
  · exact h
  · have hs := setTurnout_upholds (t := t) h (f := fun x => { x with
      normalIn := if x.normalIn.level = n then x.normalIn else ⟨n, none⟩
      reverseIn := if x.reverseIn.level = r' then x.reverseIn else ⟨r', none⟩ }) fun _ => ⟨rfl, rfl, id⟩
    refine .ite ?_ hs
    have hp := setTurnout_upholds (t := t) hs (f := fun x => { x with
      proven := proves ‹TurnoutCfg›.feedback n r' (e.u.turnout t).proven }) fun _ => ⟨rfl, rfl, id⟩
    exact .ite (enterFailed_upholds (hp.but t)) (feedbackReaction_upholds hp)

theorem contactInput_upholds {c : Contact} {l : Bool} (h : a.Upholds v r none e) :
    a.Upholds v r none (e.contactInput v t c l) :=
  .ite (setTurnout_upholds h fun x => by cases c <;> exact ⟨rfl, rfl, id⟩) h

/-! ## Timers (R41, R43, R44) -/

/-- A record whose drive is in being keeps one over a change that leaves one. -/
theorem setTurnout_driven {f : Turnout → Turnout} (hd : (e.u.turnout t).drive.isSome = true)
    (hf : (f (e.u.turnout t)).drive.isSome = true) : ((e.setTurnout t f).u.turnout t).drive.isSome = true := by
  rw [setTurnout_turnout]
  split
  · exact hf
  · exact hd

/-- R41: the pulse of turnout `t` is over: from here on its record alone does not fit. -/
theorem setCdu_at {k : Nat} {x : Cdu} (h : a.Upholds v r none e) (hc : e.u.tdu.cdu = .pulsing t k) :
    a.Upholds v r (some t) (e.setCdu x) :=
  h.drives (setCdu_goes _ e) (fun _ ke => drivesBut_change ke.drives (.inl rfl) (fun _ _ => rfl) (fun _ _ => Iff.rfl)
    (fun j hj i hi => by rw [hc] at hi; cases hi; exact absurd rfl hj) ke.drives.once ke.drives.motors) id

/-- R43: the confirm window opens: the drive is no pulse any more. -/
theorem turnoutFits_window {u u' : Units} {p : Pos} (h : u.turnoutFits v r t) (hd : (u.turnout t).drive.isSome = true)
    (hq : u'.tdu.queue = u.tdu.queue) (hx : u'.turnout t = { u.turnout t with drive := some ⟨p, .window 0⟩ }) :
    u'.turnoutFits v r t where
  queued := by rw [hq, hx]; exact h.queued
  moving := by rw [hx]; exact iff_of_true rfl (h.moving.1 hd)
  known := by rw [hx]; exact h.known
  pulse := by rw [hx]; simp
  waits := by rw [hx]; exact h.waits
  resting := by rw [hx]; exact h.resting

/-- R43: the proof at the end of turnout `t`'s pulse. -/
theorem judgePulse_upholds {k : Nat} (h : a.Upholds v r none e) (hc : e.u.tdu.cdu = .pulsing t k) :
    a.Upholds v r none ((e.setCdu (.recharging 0)).judgePulse v t) := by
  have hs := setCdu_at (x := .recharging 0) h hc
  have hf (ka : a.Kept v r none) : e.u.turnoutFits v r t := (h.kept ka).drives.fits t nofun
  unfold Ev.judgePulse
  split
  next pos hg hd =>
    have hd' : (e.u.turnout t).drive = some ⟨pos, .pulse⟩ := hd
    have hi : (e.u.turnout t).drive.isSome = true := by rw [hd']; rfl
    have facts (ka : a.Kept v r none) := driven_facts (h.kept ka) (hf ka) hi
    have window : a.Upholds v r none ((e.setCdu (.recharging 0)).setTurnout t fun x =>
        { x with drive := some ⟨pos, .window 0⟩ }) :=
      (setTurnout_at hs id).restore fun ka => turnoutFits_window (hf ka) hi rfl
        (setTurnout_turnout_self ((turnouts_length (hs.kept ka).sound).symm ▸ (facts ka).1) _)
    split
    · exact driveEnd_at (setTurnout_at hs id) (setTurnout_driven hi hi) facts
    · exact .ite (driveEnd_at hs hi facts) window
    · exact .ite (driveEnd_at hs hi facts) window
  next hn =>
    refine hs.restore fun ka => ?_
    have hp (p : Pos) : (e.u.turnout t).drive ≠ some ⟨p, .pulse⟩ := fun hd => by
      obtain ⟨c, hg⟩ := Option.isSome_iff_exists.1 ((hf ka).known ((hf ka).moving.1 (by rw [hd]; rfl)))
      exact hn c p hg hd
    exact ⟨(hf ka).queued, (hf ka).moving, (hf ka).known, fun p hd => absurd hd (hp p), (hf ka).waits, (hf ka).resting⟩

theorem pulseEnd_upholds (h : a.Upholds v r none e) : a.Upholds v r none (e.pulseEnd v) := by
  unfold Ev.pulseEnd
  split
  next hc => exact judgePulse_upholds h hc
  all_goals exact h

theorem rechargeExpiry_upholds (h : a.Upholds v r none e) : a.Upholds v r none (e.rechargeExpiry v) := by
  unfold Ev.rechargeExpiry
  split
  next hc =>
    refine arbiter_upholds (h.drives (setCdu_goes _ e) (fun _ k => ⟨k.drives.once, fun t ht => ?_, k.drives.motors⟩) id)
    exact turnoutFits_of_eq (k.drives.fits t ht) rfl Iff.rfl fun j hj => by rw [hc] at hj; cases hj
  all_goals exact h

theorem windowExpiry_upholds (h : a.Upholds v r none e) : a.Upholds v r none (e.windowExpiry v t) := by
  unfold Ev.windowExpiry
  split
  · exact driveEnd_upholds h
  · exact h

theorem motorExpiry_upholds (h : a.Upholds v r none e) : a.Upholds v r none (e.motorExpiry v t) := by
  unfold Ev.motorExpiry
  split
  · split
    · exact driveEnd_upholds (setTurnout_upholds h fun _ => ⟨rfl, rfl, id⟩)
    · exact driveEnd_upholds h
    · exact driveEnd_upholds h
  · exact h

theorem turnoutRequest_upholds {f : Frame} (h : a.Upholds v v.running none e) :
    a.Upholds v v.running none (e.turnoutRequest v f) := by
  unfold Ev.turnoutRequest
  dsimp only
  split
  · exact answer_upholds h
  next hr =>
    split
    · exact answer_upholds h
    next ht =>
      split
      · exact .ite (answer_upholds h) (.ite (answer_upholds h) (.ite (answer_upholds h)
          (throw_upholds h (fun _ => Nat.lt_of_not_le ht) (by simpa using hr))))
      · exact answer_upholds h

end

end Sys2Proof.Machine


/-! What the operations on routes, claims and the pending route list uphold (chapters 4, 5 and 9). -/

namespace Sys2Proof.Machine

set_option Elab.async false

section
variable {v : Env} {r : Bool} {ex : Option Nat} {a e : Ev} {n : Nat} {c : RouteCfg}

/-! ## Acceptance and scan (R59, R76) -/

theorem throwForRoute_upholds {x : Nat × Pos} (h : a.Upholds v r none e) (hx : a.Kept v r none → x.1 < 32)
    (hr : r = true) :
    a.Upholds v r none (e.throwForRoute v x) := .ite h (throw_upholds h hx hr)

theorem takeHolds_upholds (h : a.Upholds v r none e)
    (hc : a.Kept v r none → ∀ x ∈ c.turnouts ++ c.flank, x.1 < 32) (hr : r = true) :
    a.Upholds v r none (e.takeHolds v n c) :=
  (((h.frame (setHolders_goes ..)).foldl _ fun _ h _ _ => holdPath_upholds h).foldl _
    fun _ h _ _ => holdFlank_upholds h).foldl _ fun _ h x hx => throwForRoute_upholds h (fun ka => hc ka x hx) hr

theorem accept_upholds {d : ReportTo} {q : Option Request} (h : a.Upholds v r none e)
    (hc : a.Kept v r none → ∀ x ∈ c.turnouts ++ c.flank, x.1 < 32) (hr : r = true) :
    a.Upholds v r none (e.accept v n c d q) := by
  have hs := (report_upholds (w := v) (d := d) (n := n) (o := .accepted)
    (takeHolds_upholds (n := n) (h.frame (setRoute_goes n (fun x => { x with
      reportTo := some d, attached := q, overlapHeld := c.overlap.isSome
      progress := c.path.map fun _ => .notEntered }) e)) hc hr)).frame (setEvaluated_goes c.entry (some n) _)
  unfold Ev.accept
  dsimp only
  split
  · exact openClaim_upholds (hs.frame (setRouteState_goes ..))
  · exact routeThrowing_upholds hs

/-- A route that is accepted is configured, and the station is RUNNING. -/
theorem acceptance_ok {u : Units} (h : acceptance v u n = .ok c) : v.running = true ∧ v.cfg.route n = some c := by
  unfold acceptance at h
  repeat' split at h
  all_goals simp_all

theorem accepted_upholds {b : Ev} {d : ReportTo} {q : Option Request}
    (h : a.Upholds v v.running none e) (ha : acceptance v b.u n = .ok c) :
    a.Upholds v v.running none (e.accept v n c d q) :=
  have ⟨hr, hc⟩ := acceptance_ok ha
  accept_upholds h (fun ka x hx => (ka.config.turnouts n c hc x hx).1) hr

theorem routeRequest_upholds {f : Frame} (h : a.Upholds v v.running none e) :
    a.Upholds v v.running none (e.routeRequest v f) := by
  unfold Ev.routeRequest
  dsimp only
  split
  · exact reportCode_upholds h
  · exact accepted_upholds h ‹_›

/-- A change of the pending route list that lets it grow no longer than it may. -/
theorem setWaiting_upholds {f : List Request → List Request} (h : a.Upholds v r ex e)
    (hf : e.u.ilk.waiting.length ≤ 8 → (f e.u.ilk.waiting).length ≤ 8) : a.Upholds v r ex (e.setWaiting f) :=
  h.drives (setWaiting_goes f e) (fun _ k => drivesBut_congr k.drives rfl) hf

theorem tryRequest_upholds {q : Request} (h : a.Upholds v v.running none e) :
    a.Upholds v v.running none (e.tryRequest v q) := by
  unfold Ev.tryRequest
  split
  · split
    · exact h
    · exact accepted_upholds (setWaiting_upholds h fun hw => List.length_erase_le.trans hw) ‹_›
  · exact h

theorem scanList_upholds (h : a.Upholds v v.running none e) :
    a.Upholds v v.running none (e.scanList v) := h.foldl _ fun _ h _ _ => tryRequest_upholds h

/-! ## Passage (R64 to R72) -/

theorem routeEndIfDone_upholds (h : a.Upholds v r ex e) : a.Upholds v r ex (e.routeEndIfDone v n c) := by
  have hs := (closeClaim_upholds (n := n) (c := c) (releaseTurnouts_upholds (n := n) (c := c) h)).frame
    (routeIdle_goes n c _)
  unfold Ev.routeEndIfDone
  refine .ite ?_ h
  dsimp only
  split
  · exact report_upholds hs
  · exact hs

theorem routeMeetsClear_upholds {i : Nat} (h : a.Upholds v r ex e) :
    a.Upholds v r ex (e.routeMeetsClear v n c i) := by
  have hp := releasePathBlock_upholds (n := n) (c := c) (i := i) h
  exact .ite h (.ite (.ite h (routeEndIfDone_upholds hp)) (.ite (.ite
    (routeEndIfDone_upholds (.ite (releaseOverlap_upholds hp) hp)) (h.frame (setRoute_goes ..))) h))

theorem routeGivenUp_upholds (h : a.Upholds v r ex e) : a.Upholds v r ex (e.routeGivenUp v n c) :=
  (closeClaim_upholds (releaseHolds_upholds h)).frame (routeIdle_goes ..)

theorem approachEnd_upholds (h : a.Upholds v r ex e) : a.Upholds v r ex (e.approachEnd v n c) := by
  have hs := routeGivenUp_upholds (n := n) (c := c) h
  unfold Ev.approachEnd
  dsimp only
  split
  · exact report_upholds hs
  · exact hs

theorem approachCleared_upholds {b : BlockRef} (h : a.Upholds v r ex e) :
    a.Upholds v r ex (e.approachCleared v b n) := by
  unfold Ev.approachCleared
  split
  · exact .ite (approachEnd_upholds h) h
  · exact h

theorem overlapCleared_upholds {b : Nat} (h : a.Upholds v r ex e) : a.Upholds v r ex (e.overlapCleared v b n) := by
  unfold Ev.overlapCleared
  split
  · exact .ite (routeEndIfDone_upholds (releaseOverlap_upholds h)) h
  · exact h

theorem routesClear_upholds {b : Nat} (h : a.Upholds v r ex e) : a.Upholds v r ex (e.routesClear v b) := by
  refine h.foldl _ fun e h n _ => approachCleared_upholds (overlapCleared_upholds ?_)
  split
  · split
    · exact routeMeetsClear_upholds h
    · exact h
  · exact h

theorem approachExpiry_upholds (h : a.Upholds v r ex e) : a.Upholds v r ex (e.approachExpiry v n) := by
  unfold Ev.approachExpiry
  split
  · exact .ite (approachEnd_upholds h) h
  · exact h

theorem forceRelease_upholds (h : a.Upholds v r ex e) : a.Upholds v r ex (e.forceRelease v n c) := by
  have hs := (h.frame (setRoute_goes n (fun x => { x with forced := true }) e)).foldl
    (g := fun e i => if (match c.path[i]? with
      | some b => !(e.u.block b).occupied
      | none => false) && (e.u.route n).progress.getD i .released != .released then e.releasePathBlock v n c i else e)
    (List.range c.path.length) fun _ h _ _ => .ite (releasePathBlock_upholds h) h
  unfold Ev.forceRelease
  refine routeEndIfDone_upholds ?_
  dsimp only
  split
  · exact .ite hs (releaseOverlap_upholds hs)
  · exact hs

theorem reportCancelled_upholds {s : Nat} {d : Option ReportTo} (h : a.Upholds v r ex e) :
    a.Upholds v r ex (e.reportCancelled v s n d) := by
  unfold Ev.reportCancelled
  dsimp only
  split
  · exact .ite (report_upholds h) (report_upholds (report_upholds h))
  · exact report_upholds h

theorem cancelRoute_upholds {s : Nat} (h : a.Upholds v r none e) : a.Upholds v r none (e.cancelRoute v s n c) := by
  have hw := (closeClaim_upholds (n := n) (c := c) (withdrawThrows_upholds (c := c)
    (releaseHolds_upholds (n := n) (c := c) h))).frame (routeIdle_goes n c _)
  have withdrawn (q : Option Request) : a.Upholds v r none (match q with
      | some q => Ev.tellLost v q.source.entry ((((e.releaseHolds v n c).withdrawThrows v c).closeClaim v n c).routeIdle n c)
      | none => (((e.releaseHolds v n c).withdrawThrows v c).closeClaim v n c).routeIdle n c) := by
    split
    · exact hw.frame (tellLost_goes ..)
    · exact hw
  unfold Ev.cancelRoute
  dsimp only
  split
  · exact report_upholds h
  · exact report_upholds h
  · exact reportCancelled_upholds ((withdrawn _).frame (callScan_goes _))
  · exact reportCancelled_upholds ((withdrawn _).frame (callScan_goes _))
  · exact .ite (report_upholds ((h.frame (setRoute_goes ..)).frame (setRouteState_goes ..)))
      (reportCancelled_upholds (routeGivenUp_upholds h))
  · exact .ite (report_upholds h) (forceRelease_upholds (report_upholds h))

theorem routeCancel_upholds {f : Frame} (h : a.Upholds v r none e) : a.Upholds v r none (e.routeCancel v f) := by
  unfold Ev.routeCancel
  refine .ite (reportCode_upholds h) (.ite (reportCode_upholds h) ?_)
  split
  · exact cancelRoute_upholds h
  · exact reportCode_upholds h

end

end Sys2Proof.Machine


/-! What the operations on claims, mirrors, reception, timetable and clock uphold (chapters 1, 5, 9 and 11). -/

namespace Sys2Proof.Machine

set_option Elab.async false

section
variable {v : Env} {r : Bool} {ex : Option Nat} {a e : Ev} {n : Nat} {c : RouteCfg}

/-! ## Claims (R80 to R87) -/

theorem claimGrant_upholds {f : Frame} (h : a.Upholds v r ex e) : a.Upholds v r ex (e.claimGrant v f) := by
  unfold Ev.claimGrant
  dsimp only
  split
  · split
    · exact routeThrowing_upholds (h.frame (setClaimState_goes ..))
    · exact h.frame (setClaimState_goes ..)
    all_goals exact releaseClaim_upholds h
  · exact .ite h (releaseClaim_upholds h)

theorem claimLost_upholds (h : a.Upholds v r ex e) : a.Upholds v r ex (e.claimLost v n) :=
  (h.frame (setClaimState_goes ..)).link (link_addLostClaim_goes n _) (pend_tracking _ _) (pend_inHand _ _)

theorem claimRefuse_upholds {f : Frame} (h : a.Upholds v r none e) : a.Upholds v r none (e.claimRefuse v f) := by
  unfold Ev.claimRefuse
  split
  · split
    · exact routeFail_upholds (h.frame (setClaimState_goes ..))
    · exact claimLost_upholds h
    all_goals exact h
  · exact h

theorem answerTimeout_upholds (h : a.Upholds v r none e) : a.Upholds v r none (e.answerTimeout v n) := by
  unfold Ev.answerTimeout
  split
  · exact h
  · split
    · dsimp only
      split
      · exact routeFail_upholds ((releaseClaim_upholds h).frame (setClaimState_goes ..))
      · exact claimLost_upholds (releaseClaim_upholds h)
      all_goals exact releaseClaim_upholds h
    · exact h

theorem ownerWaitExpiry_upholds (h : a.Upholds v r ex e) : a.Upholds v r ex (e.ownerWaitExpiry v n) :=
  .ite (claimLost_upholds h) h

theorem ownerAnnounced_upholds {p : ForeignPart} (h : a.Upholds v r none e) :
    a.Upholds v r none (e.ownerAnnounced v n c p) := by
  unfold Ev.ownerAnnounced
  dsimp only
  split
  · exact h
  · refine routeFail_upholds (Ev.Upholds.frame ?_ (setClaimState_goes ..))
    split
    · exact releaseClaim_upholds h
    · exact h
  · exact .ite h (h.frame (setClaimState_goes ..))
  all_goals exact h.frame (setClaimState_goes ..)

theorem announcedOwner_upholds {s : Nat} (h : a.Upholds v r none e) : a.Upholds v r none (e.announcedOwner v s) := by
  refine h.foldl _ fun e h n _ => ?_
  split
  · split
    · exact .ite (ownerAnnounced_upholds h) h
    · exact h
  · exact h

theorem reclaim_upholds {s : Nat} (h : a.Upholds v r ex e) : a.Upholds v r ex (e.reclaim v s) := by
  refine h.foldl _ fun e h n _ => ?_
  split
  · split
    · exact .ite (openClaim_upholds h) h
    · exact h
  · exact h

/-! ## Mirrors (R13 to R18) -/

theorem changeBMirror_upholds {i : Nat} {f : BlockMirror → BlockMirror} (h : a.Upholds v r ex e) :
    a.Upholds v r ex (e.changeBMirror v i f) :=
  have hs := (h.frame (setBMirror_goes i f e)).frame (approachChanged_goes v (.mirror i) _)
  .ite (hs.foldl _ fun _ h _ _ => approachCleared_upholds h) hs

theorem takeBlockItem_upholds {s : Nat} {p : Bool} {x : Nat × Bool × Tag × Dir} (h : a.Upholds v r ex e) :
    a.Upholds v r ex (e.takeBlockItem v s p x) := by
  unfold Ev.takeBlockItem
  split
  · exact changeBMirror_upholds h
  · exact h

theorem occupancyReport_upholds {x : RxFrame} (h : a.Upholds v r ex e) : a.Upholds v r ex (e.occupancyReport v x) :=
  have hs := h.foldl (blockItems x.frame.payload) (g := fun e y => e.takeBlockItem v x.frame.src x.precedes y)
    fun _ h _ _ => takeBlockItem_upholds h
  .ite (reclaim_upholds hs) hs

theorem aspectReport_upholds {x : RxFrame} (h : a.Upholds v r ex e) : a.Upholds v r ex (e.aspectReport v x) :=
  have hs := h.foldl (signalItems x.frame.payload) (g := fun e y => e.takeSignalItem v x.frame.src x.precedes y)
    fun _ h _ _ => h.frame (takeSignalItem_goes ..)
  .ite (reclaim_upholds hs) hs

theorem mirrorLapse_upholds {m : MirrorId} (h : a.Upholds v r ex e) : a.Upholds v r ex (e.mirrorLapse v m) := by
  cases m with
  | block i => exact .ite (changeBMirror_upholds h) h
  | signal i => exact .ite (h.frame (changeSMirror_goes ..)) h

theorem staleMirrors_upholds {p : Nat → Bool} (h : a.Upholds v r ex e) : a.Upholds v r ex (e.staleMirrors v p) := by
  unfold Ev.staleMirrors
  exact (h.foldl _ fun _ h _ _ => .ite (changeBMirror_upholds h) h).foldl _ fun _ h _ _ =>
    .ite (h.frame (changeSMirror_goes ..)) h

theorem announce_upholds {f : Frame} (h : a.Upholds v r none e) : a.Upholds v r none (e.announce v f) :=
  have hs := staleMirrors_upholds (p := fun s => s == f.src) h
  .ite (((announcedOwner_upholds (hs.frame (publishAll_goes v _))).frame (dropClaims_goes ..)).frame
    (dropWatches_goes ..)) hs

/-! ## Reception (R187) -/

/-- R187: the reports that wait are marked as preceding a loss. -/
theorem markLoss_goes (e : Ev) : Ev.Goes [.rx] e (e.link fun l => { l with rx := l.rx.map RxFrame.markLoss }) := by
  refine link_goes e ?_ ?_ ?_
  · intro p hp
    cases p <;> simp_all [Part.agree]
  · rintro ⟨⟨hr, hq⟩, hs⟩
    exact ⟨⟨by simpa using hr, hq⟩, hs⟩
  · apply onward_of <;> simp

theorem receiveOverflow_upholds (h : a.Upholds v r ex e) : a.Upholds v r ex (e.receiveOverflow v) := by
  have hm := h.frame (link_raiseMissed_goes e)
  have hk := (staleMirrors_upholds (p := fun _ => true) hm).frame (markLoss_goes _)
  exact .ite hm ((Ev.Upholds.ite hk (send_upholds v _ _ _ hk)).link (link_pend_goes ..) (pend_tracking _ _)
    (pend_inHand _ _))

/-! ## The pending route list's sources (R74, R77) -/

theorem addRequest_upholds {q : Request} (h : a.Upholds v r ex e) : a.Upholds v r ex (e.addRequest q) := by
  unfold Ev.addRequest
  split
  · rename_i hj
    refine (setWaiting_upholds h fun _ => ?_).frame (callScan_goes _)
    have hl : e.u.ilk.waiting.length < 8 := by
      unfold Units.judgeAdd at hj
      split at hj
      · cases hj
      · simpa using hj
    simpa using hl
  · exact h
  · exact h

theorem withdraw_upholds {i : Nat} (h : a.Upholds v r ex e) : a.Upholds v r ex (e.withdraw i) :=
  h.drives (withdraw_goes i e) (fun _ k => drivesBut_congr k.drives rfl) fun hw => (List.length_filter_le _ _).trans hw

/-! ## The timetable (R162 to R168) -/

theorem triggerStep_upholds {m i : Nat} (h : a.Upholds v r ex e) : a.Upholds v r ex (e.triggerStep v m i) := by
  unfold Ev.triggerStep
  split
  · exact h
  · refine .ite h ?_
    split
    · refine .ite ?_ h
      dsimp only
      split
      · exact h.frame (setStatus_goes ..)
      all_goals exact addRequest_upholds (h.frame (setStatus_goes ..))
    · exact .ite (h.frame (setStatus_goes ..)) h
    · exact h

theorem deadlineStep_upholds {m i : Nat} (h : a.Upholds v r ex e) : a.Upholds v r ex (e.deadlineStep v m i) := by
  unfold Ev.deadlineStep
  split
  · exact .ite ((withdraw_upholds h).frame (setStatus_goes ..)) h
  · exact h

theorem rolloverEntry_upholds {m i : Nat} (h : a.Upholds v r ex e) : a.Upholds v r ex (e.rolloverEntry v m i) :=
  (deadlineStep_upholds ((triggerStep_upholds h).frame (passedStep_goes ..))).frame (rearmStep_goes ..)

theorem timetableRollover_upholds {m : Nat} (h : a.Upholds v r ex e) : a.Upholds v r ex (e.timetableRollover v m) :=
  h.foldl _ fun _ h _ _ => rolloverEntry_upholds h

theorem skippedStep_upholds {m i : Nat} (h : a.Upholds v r ex e) : a.Upholds v r ex (e.skippedStep v m i) := by
  unfold Ev.skippedStep
  split
  · exact h
  · rename_i x _
    have hs : a.Upholds v r ex (match x.status, x.cfg.kind with
        | .waiting, .timed => if x.cfg.triggers m then e.setStatus v i .missed else e
        | .waiting, .show => if x.cfg.matchesAfter 0 m then e.setStatus v i .missed else e
        | _, _ => e) := by
      split
      · exact .ite (h.frame (setStatus_goes ..)) h
      · exact .ite (h.frame (setStatus_goes ..)) h
      · exact h
    dsimp only
    split
    · exact (withdraw_upholds hs).frame (setStatus_goes ..)
    · exact hs.frame (setStatus_goes ..)
    · exact hs

theorem skipMinute_upholds {m : Nat} (h : a.Upholds v r ex e) : a.Upholds v r ex (e.skipMinute v m) :=
  h.foldl _ fun _ h _ _ =>
    (deadlineStep_upholds ((skippedStep_upholds h).frame (passedStep_goes ..))).frame (rearmStep_goes ..)

theorem demand_upholds {i k : Nat} (h : a.Upholds v r ex e) : a.Upholds v r ex (e.demand v i k) := by
  unfold Ev.demand
  split
  · exact addRequest_upholds ((h.frame (setEntry_goes ..)).frame (setStatus_goes ..))
  · exact h

theorem timetableLoad_upholds {f : Frame} (h : a.Upholds v r ex e) : a.Upholds v r ex (e.timetableLoad v f) := by
  unfold Ev.timetableLoad
  dsimp only
  split
  · exact answer_upholds (h.frame (callCompose_goes _))
  · have hw := Ev.Upholds.ite (p := e.u.status (LoadFields.read f.payload).entry = some .due)
      (withdraw_upholds (i := (LoadFields.read f.payload).entry) h) h
    have hl := hw.frame (loadEntry_goes (LoadFields.read f.payload).entry (some (.fresh v.cfg (LoadFields.read f.payload).cfg)) _)
    exact answer_upholds ((Ev.Upholds.ite (hl.frame (endBusyFor_goes ..)) hl).frame (callCompose_goes _))

theorem cancelEntry_upholds {i : Nat} (h : a.Upholds v r ex e) : a.Upholds v r ex (e.cancelEntry v i) := by
  unfold Ev.cancelEntry
  split
  · exact h.frame (setStatus_goes ..)
  · exact h.frame (setStatus_goes ..)
  · exact (withdraw_upholds h).frame (setStatus_goes ..)
  · exact h

theorem timetableCancel_upholds {f : Frame} (h : a.Upholds v r ex e) : a.Upholds v r ex (e.timetableCancel v f) :=
  .ite (answer_upholds h) (.ite (answer_upholds h) (answer_upholds (cancelEntry_upholds h)))

theorem newEpoch_upholds (h : a.Upholds v r ex e) : a.Upholds v r ex (e.newEpoch v) := by
  refine h.foldl _ fun e h i _ => ?_
  dsimp only
  split
  · rename_i x _
    have hs := (withdraw_upholds (i := i) h).frame (setEntry_goes i (fun x => { x with status := .waiting, passed := false }) _)
    have hb := Ev.Upholds.ite (p := x.status = .due ∨ x.status = .ready) (hs.frame (endBusyFor_goes v i _)) hs
    exact .ite hb (hb.frame (callCompose_goes _))
  · exact h

/-! ## The clock (R152 to R158) -/

theorem rollTo_upholds {m : Nat} (h : a.Upholds v r ex e) : a.Upholds v r ex (e.rollTo v m) :=
  (timetableRollover_upholds (h.frame (clock_goes ..))).frame (callCompose_goes _)

theorem scaleRollover_upholds (h : a.Upholds v r ex e) : a.Upholds v r ex (e.scaleRollover v) :=
  have hr := rollTo_upholds (h.frame (takeRemainder_goes e))
  .ite (.ite (send_upholds v _ _ _ hr) hr) h

theorem adopt_upholds {p m q : Nat} {b : Bool} (h : a.Upholds v r ex e) : a.Upholds v r ex (e.adopt v p m q b) :=
  (newEpoch_upholds (h.frame (clock_goes ..))).frame (clockChanged_goes ..)

theorem clockSet_upholds {f : Frame} (h : a.Upholds v r ex e) : a.Upholds v r ex (e.clockSet v f) :=
  .ite (adopt_upholds h) h

theorem stepForward_upholds {k : Nat} (h : a.Upholds v r ex e) : a.Upholds v r ex (e.stepForward v k) :=
  (h.foldl (List.range k) (g := fun e _ => e.rollover v) fun _ h _ _ => rollTo_upholds h).frame (zeroAccumulator_goes _)

theorem jumpForward_upholds {k : Nat} (h : a.Upholds v r ex e) : a.Upholds v r ex (e.jumpForward v k) :=
  (rollTo_upholds (h.foldl (List.range (k - 1)) (g := fun x i => x.skipMinute v ((e.u.clock.minute + 1 + i) % 1440))
    fun _ h _ _ => skipMinute_upholds h)).frame (zeroAccumulator_goes _)

theorem clockBeacon_upholds {f : Frame} (h : a.Upholds v r ex e) : a.Upholds v r ex (e.clockBeacon v f) :=
  .ite (adopt_upholds h) (.ite (.ite h (.ite (stepForward_upholds h) (.ite (jumpForward_upholds h) h))) h)

theorem pressDepart_upholds {i k : Nat} (h : a.Upholds v r ex e) : a.Upholds v r ex (e.pressDepart v k i) := by
  unfold Ev.pressDepart
  split
  · exact demand_upholds (h.frame (setButton_goes ..))
  · exact h
  · exact h

end

end Sys2Proof.Machine


/-! What the operations on the turntable, the stop state and the panel uphold (chapters 6, 8 and 10). -/

namespace Sys2Proof.Machine

set_option Elab.async false

section
variable {v : Env} {r : Bool} {ex : Option Nat} {a e : Ev} {g : TurntableCfg} {m : Move} {x : Run}

/-! ## The phase, the queue and turntable ready (R131, R169) -/

/-- A change of the turntable that leaves its phase and its queue. -/
theorem ttc_upholds {f : Turntable → Turntable} (h : a.Upholds v r ex e)
    (hf : (f e.u.ttc).phase = e.u.ttc.phase ∧ (f e.u.ttc).queue = e.u.ttc.queue := by exact ⟨rfl, rfl⟩) :
    a.Upholds v r ex (e.ttc f) :=
  h.turntable (ttc_goes f e) fun ⟨hm, hr⟩ => ⟨by rw [ttc_u_ttc, hf.2]; exact hm,
    by rw [Units.readyKept, ttc_u_ttc, hf.1, hf.2]; exact hr⟩

/-- A change of the turntable after which turntable ready is made anew. -/
theorem keepReady_upholds {f : Turntable → Turntable} (h : a.Upholds v r ex e)
    (hf : e.TableKept v → (f e.u.ttc).queue.length ≤ 4) : a.Upholds v r ex ((e.ttc f).keepReady v) :=
  h.turntable (Ev.Goes.after (ps := [.table, .ready]) ((ttc_goes f e).mono (by decide)) (keepReady_goes v _) (by decide))
    fun k => ⟨hf k, rfl⟩

theorem setPhase_upholds {p : Phase} (h : a.Upholds v r ex e) : a.Upholds v r ex (e.setPhase v p) := by
  have hk := (keepReady_upholds (f := fun t => { t with phase := p }) h fun k => k.moves).frame (callCompose_goes _)
  have hs := Ev.Upholds.ite (p := p = .aligned) (hk.frame (callScan_goes _)) hk
  exact .ite h (.ite (hs.frame (callExamine_goes _)) hs)

theorem setMoves_upholds {f : List MoveRequest → List MoveRequest} (h : a.Upholds v r ex e)
    (hf : e.TableKept v → (f e.u.ttc.queue).length ≤ 4) : a.Upholds v r ex (e.setMoves v f) :=
  (keepReady_upholds h hf).frame (callExamine_goes _)

theorem leaveMoves_upholds (h : a.Upholds v r ex e) : a.Upholds v r ex (e.setMoves v List.tail) :=
  setMoves_upholds h fun k => by
    have hm := k.moves
    rw [List.length_tail]
    omega

theorem tellMove_upholds {s : MoveSource} {o : MoveOutcome} (h : a.Upholds v r ex e) :
    a.Upholds v r ex (e.tellMove v s o) := by
  unfold Ev.tellMove
  split
  · exact send_upholds v _ _ _ h
  · exact h
  · exact h.frame (endBusy_goes ..)

theorem unhome_upholds (h : a.Upholds v r ex e) : a.Upholds v r ex e.unhome :=
  .ite ((ttc_upholds h).frame (drawn_goes _)) h

/-! ## Moves (R133 to R149) -/

theorem setTurntableFault_upholds {k : FaultKind} (h : a.Upholds v r ex e) :
    a.Upholds v r ex (e.link (Link.setTurntableFault k)) :=
  h.link (link_setTurntableFault_goes k e) (pend_tracking _ _) (pend_inHand _ _)

theorem tableFault_upholds {k : FaultKind} (h : a.Upholds v r ex e) : a.Upholds v r ex (e.tableFault v g k) := by
  have hp := (setPhase_upholds (p := .fault) (unhome_upholds (ttc_upholds h (f := fun t => { t with
    stepping := none, lockEngage := true, deckPower := false, unlockTime := none, lockTime := none
    alignedAt := none })))).frame (setHolder_goes v g.deck .free _)
  unfold Ev.tableFault
  refine Ev.Upholds.frame (setTurntableFault_upholds (setMoves_upholds (Ev.Upholds.foldl ?_ _
    fun _ h _ _ => tellMove_upholds h) fun _ => Nat.zero_le _)) (writeFault_goes ..)
  refine ttc_upholds ?_
  split
  · exact tellMove_upholds hp
  · exact hp

theorem abortEnd_upholds (h : a.Upholds v r ex e) : a.Upholds v r ex (e.abortEnd v g m) :=
  .ite (tableFault_upholds h) (tellMove_upholds (setPhase_upholds (ttc_upholds h)))

theorem lastRunEnds_upholds (h : a.Upholds v r ex e) : a.Upholds v r ex (e.lastRunEnds v g m) :=
  setPhase_upholds (ttc_upholds h)

theorem beginRun_upholds {d : Turn} {n : Nat} {p : Phase} (h : a.Upholds v r ex e) :
    a.Upholds v r ex (e.beginRun v m d n p) := setPhase_upholds (ttc_upholds h)

theorem beginPlan_upholds (h : a.Upholds v r ex e) : a.Upholds v r ex (e.beginPlan v g m) :=
  .ite (lastRunEnds_upholds h) (beginRun_upholds h)

theorem unlocked_upholds (h : a.Upholds v r ex e) : a.Upholds v r ex (e.unlocked v g) := by
  have hu : a.Upholds v r ex (e.ttc fun t => { t with unlockTime := none }) := ttc_upholds h
  unfold Ev.unlocked
  split
  · exact h
  · exact .ite (beginPlan_upholds hu) (setPhase_upholds (ttc_upholds hu))

theorem startMove_upholds {s : MoveSource} {n : Nat} {side : BridgeEnd} (h : a.Upholds v r ex e) :
    a.Upholds v r ex (e.startMove v g s n side) := by
  have hs := (h.frame (setHolder_goes v g.deck .turntable e)).frame (stepBack_goes g.deck _)
  have hp := setPhase_upholds (v := v) (p := .unlocking) (ttc_upholds hs (f := fun t => { t with
    current := some {
      source := s, road := n, bridge := side
      target := match g.road n with
        | some x => g.target x side
        | none => e.u.ttc.pos
      halfTurn := e.u.ttc.alignedAt.any fun x => x.1 == n && x.2 != side
      plan := if e.u.ttc.homed then some (planMove g e.u.ttc.pos e.u.ttc.winding e.u.ttc.lastTurn (match g.road n with
        | some x => g.target x side
        | none => e.u.ttc.pos)) else none
      run := none, homing := 0, aborting := false, slipped := false }
    deckPower := false, lockEngage := false, unlockTime := some 0 }))
  exact .ite hp (unlocked_upholds hp)

theorem examineMoves_upholds {k : Nat} (h : a.Upholds v r ex e) : a.Upholds v r ex (Ev.examineMoves v g k e) := by
  induction k generalizing e with
  | zero => exact h
  | succ k ih =>
    have hm := leaveMoves_upholds h
    unfold Ev.examineMoves
    refine .ite ?_ h
    split
    · exact h
    · split
      · exact ih (tellMove_upholds hm)
      · exact .ite (ih (tellMove_upholds hm)) (.ite (startMove_upholds hm) h)

theorem examineTable_upholds (h : a.Upholds v r ex e) : a.Upholds v r ex (e.examineTable v) := by
  unfold Ev.examineTable
  split
  · exact examineMoves_upholds h
  · exact h

theorem completeMove_upholds (h : a.Upholds v r ex e) : a.Upholds v r ex (e.completeMove v g) := by
  unfold Ev.completeMove
  split
  · exact h
  · have hp := setPhase_upholds (v := v) (p := .aligned) (ttc_upholds h (f := fun t => { t with
      lockTime := none, alignedAt := some (‹Move›.road, ‹Move›.bridge) }))
    have hr := Ev.Upholds.ite (p := ‹Move›.halfTurn = true) (hp.frame (reverseDeck_goes v g.deck _)) hp
    exact tellMove_upholds ((ttc_upholds ((ttc_upholds hr).frame (setHolder_goes ..))).frame (callExamine_goes _))

theorem confirmEngaged_upholds (h : a.Upholds v r ex e) : a.Upholds v r ex (e.confirmEngaged v g) := by
  have hc : a.Upholds v r ex (e.ttc fun t => { t with confirm := ⟨true, none⟩ }) := ttc_upholds h
  unfold Ev.confirmEngaged
  dsimp only
  split
  · exact ttc_upholds hc
  · exact completeMove_upholds hc
  all_goals exact hc

theorem confirmWithdrawn_upholds (h : a.Upholds v r ex e) : a.Upholds v r ex (e.confirmWithdrawn v g) := by
  have hc : a.Upholds v r ex (e.ttc fun t => { t with confirm := ⟨false, none⟩ }) := ttc_upholds h
  unfold Ev.confirmWithdrawn
  dsimp only
  split
  · exact ttc_upholds hc
  · exact (setTurntableFault_upholds (ttc_upholds hc)).frame (writeFault_goes ..)
  · exact unlocked_upholds hc
  all_goals exact hc

theorem unlockExpiry_upholds (h : a.Upholds v r ex e) : a.Upholds v r ex (e.unlockExpiry v g) :=
  .ite (tableFault_upholds h) h

theorem lockExpiry_upholds (h : a.Upholds v r ex e) : a.Upholds v r ex (e.lockExpiry v g) :=
  .ite (tableFault_upholds h) h

theorem rampDown_upholds (h : a.Upholds v r ex e) : a.Upholds v r ex (e.rampDown v g m x) :=
  .ite (abortEnd_upholds h) (ttc_upholds h)

theorem abortMove_upholds (h : a.Upholds v r ex e) : a.Upholds v r ex (e.abortMove v) := by
  unfold Ev.abortMove
  split
  · refine .ite h ?_
    have moving (m : Move) : a.Upholds v r ex (match m.run with
        | some x => e.rampDown v ‹_› m x
        | none => e.abortEnd v ‹_› { m with aborting := true }) := by
      split
      · exact rampDown_upholds h
      · exact abortEnd_upholds h
    split
    · exact abortEnd_upholds h
    · exact abortEnd_upholds h
    · exact moving _
    · exact moving _
    all_goals exact h
  · exact h

/-! ## Steps (R142 to R146) -/

theorem makeStep_upholds {d : Turn} (h : a.Upholds v r ex e) : a.Upholds v r ex (e.makeStep g d) :=
  have hp : a.Upholds v r ex (e.ttc fun t => { t with pos := stepPos g t.pos d }) := ttc_upholds h
  .ite (ttc_upholds hp) ((ttc_upholds hp).frame (drawn_goes _))

theorem homingStep_upholds {b : Bool} (h : a.Upholds v r ex e) : a.Upholds v r ex (e.homingStep v g m b) :=
  have hs := makeStep_upholds (g := g) (d := .cw) h
  have hm : a.Upholds v r ex ((e.makeStep g .cw).ttc fun t =>
      { t with current := some { m with homing := m.homing + 1 } }) := ttc_upholds hs
  .ite (beginPlan_upholds (ttc_upholds hs)) (.ite (tableFault_upholds hm) hm)

theorem runEnds_upholds (h : a.Upholds v r ex e) : a.Upholds v r ex (e.runEnds v g m) := by
  unfold Ev.runEnds
  split
  · exact .ite (beginRun_upholds h) (lastRunEnds_upholds h)
  · exact lastRunEnds_upholds h

theorem afterStep_upholds {b : Bool} (h : a.Upholds v r ex e) : a.Upholds v r ex (e.afterStep v g m x b) := by
  unfold Ev.afterStep
  split
  · exact .ite (abortEnd_upholds h) h
  · exact .ite (rampDown_upholds h) (.ite (runEnds_upholds h) h)

theorem runStep_upholds {b : Bool} (h : a.Upholds v r ex e) : a.Upholds v r ex (e.runStep v g m x b) := by
  have hs : a.Upholds v r ex ((e.makeStep g x.turn).ttc fun t => { t with
      current := some { m with
        run := some x.stepped, slipped := m.slipped || slips g (e.makeStep g x.turn).u.ttc b } }) :=
    ttc_upholds (makeStep_upholds h)
  exact afterStep_upholds (.ite (unhome_upholds hs) hs)

theorem stepExpiry_upholds {s : HomeSensor} (h : a.Upholds v r ex e) : a.Upholds v r ex (e.stepExpiry v g s) := by
  have run (m : Move) : a.Upholds v r ex (match m.run with
      | some x => e.runStep v g m x (indexRise v e.u.ttc s)
      | none => e) := by
    split
    · exact runStep_upholds h
    · exact h
  unfold Ev.stepExpiry
  dsimp only
  split
  · exact homingStep_upholds h
  · exact run _
  · exact run _
  · exact h

/-! ## Requests (R130, R132, R150) -/

theorem leaveFault_upholds (h : a.Upholds v r ex e) : a.Upholds v r ex (e.leaveFault v) := .ite (setPhase_upholds h) h

theorem queueMove_upholds {q : MoveRequest} (h : a.Upholds v r ex e)
    (hq : e.TableKept v → e.u.ttc.queue.length < 4) : a.Upholds v r ex (e.queueMove v q) :=
  setMoves_upholds h fun k => by
    rw [List.length_append]
    exact hq k

theorem moveRequest_upholds {f : Frame} (h : a.Upholds v r ex e) : a.Upholds v r ex (e.moveRequest v f) := by
  have hl := leaveFault_upholds h
  unfold Ev.moveRequest
  dsimp only
  split
  · exact tellMove_upholds h
  · split
    · exact tellMove_upholds h
    · split
      · exact tellMove_upholds hl
      next hq => exact tellMove_upholds (queueMove_upholds hl fun _ => Nat.lt_of_not_le hq)

theorem cancelMoves_upholds {f : Frame} (h : a.Upholds v r ex e) : a.Upholds v r ex (e.cancelMoves v f) := by
  have hl := leaveFault_upholds h
  unfold Ev.cancelMoves
  dsimp only
  split
  · exact tellMove_upholds h
  · exact tellMove_upholds ((Ev.Upholds.ite hl (setMoves_upholds hl fun _ => Nat.zero_le _)).foldl _
      fun _ h _ _ => .ite h (tellMove_upholds h))

/-! ## The stop state and the panel (R108 to R111, R171 to R174) -/

theorem setStop_upholds {y : StopState} (h : a.Upholds v r ex e) : a.Upholds v r ex (e.setStop v y) := by
  have hc := (h.frame (stop_goes y e)).frame (callCompose_goes _)
  have hr := hc.frame (reevaluateSignals_goes v _)
  exact .ite h (.ite hc ((Ev.Upholds.ite (abortMove_upholds hr) (hr.frame (callExamine_goes _))).frame (testBars_goes ..)))

theorem pressShow_upholds {k : Nat} (h : a.Upholds v r ex e) : a.Upholds v r ex (e.pressShow v k) := by
  unfold Ev.pressShow
  dsimp only
  split
  next hr =>
    refine queueMove_upholds (h.frame (setButton_goes k Button.busy e)) fun hk => ?_
    have hready : e.u.biu.ready = true := by simp_all
    have hempty : e.u.ttc.queue = [] := by
      have hx := hk.ready
      simp [Units.readyKept, hready] at hx
      exact hx.2
    rw [setButton_u_ttc, hempty]
    decide
  · exact h

theorem press_upholds {k : Nat} (h : a.Upholds v r ex e) : a.Upholds v r ex (e.press v k) := by
  unfold Ev.press
  dsimp only
  split
  · exact pressDepart_upholds h
  · exact pressShow_upholds h
  · exact setStop_upholds h
  · exact h

theorem pressExpiry_upholds {k : Nat} (h : a.Upholds v r ex e) : a.Upholds v r ex (e.pressExpiry v k) :=
  .ite (press_upholds (h.frame (setButton_goes ..))) h

end

end Sys2Proof.Machine


/-! The end of an event, and whole events, as steps of the invariant. -/

namespace Sys2Proof.Machine

set_option Elab.async false

section
variable {v : Env} {r : Bool} {a e : Ev}

/-! ## The end of an event (R75, R102, R119, R133) -/

/-- The end of an event up to what the transmitter takes. -/
def Ev.ended (v : Env) (e : Ev) : Ev :=
  (((((e.settleMoves v).settleScan v).testPossessions.settleSignals v).carryTimer v).notices v).settleBoard v

theorem settle_eq (v : Env) (e : Ev) : settle v e = ((e.ended v).offerFrames v).u := rfl

theorem notices_upholds (h : a.Upholds v r none e) : a.Upholds v r none (e.notices v) := by
  refine h.foldl _ fun e h n _ => ?_
  unfold Ev.noticesOf
  split
  · exact h
  · have hn := Ev.Upholds.ite (p := e.newest = some n) h (h.foldl (List.range 48) (g := fun e b =>
      if (‹Watch›.inRange b && countedBits e.causes ‹Watch›.mask b != 0) then
        e.notice v n ‹Watch› (countedBits e.causes ‹Watch›.mask b) b else e)
      fun _ h _ _ => .ite (send_upholds v _ _ _ h) h)
    exact .ite (send_upholds v _ _ _ hn) hn

theorem ended_upholds (h : a.Upholds v v.running none e) :
    a.Upholds v v.running none (e.ended v) := by
  have hm := Ev.Upholds.ite (p := e.examine = true) (examineTable_upholds h) h
  have hs := Ev.Upholds.ite (p := ((e.settleMoves v).scan && v.running) = true) (scanList_upholds hm) hm
  exact (notices_upholds (((hs.frame (testPossessions_goes _)).frame (settleSignals_goes v _)).frame
    (carryTimer_goes v _))).frame (settleBoard_goes v _)

/-! ## The invariant of a state -/

/-- The station's invariant, the configuration apart, as it holds within an event. -/
structure Ev.Safe (v : Env) (e : Ev) : Prop where
  kept  : e.Kept v v.running none
  table : e.TableKept v

theorem Ev.Safe.upholds {b : Ev} (h : e.Safe v) (hu : e.Upholds v v.running none b) : b.Safe v :=
  ⟨hu.kept h.kept, hu.table h.table⟩

theorem Ev.Safe.frame {ps : List Part} {b : Ev} (h : e.Safe v) (g : Ev.Goes ps e b)
    (hp : ∀ p ∈ [Part.turnouts, .throws, .cdu, .waiting, .table, .ready], p ∉ ps := by decide) : b.Safe v :=
  ⟨h.kept.frame g (avoids_of hp), h.table.frame g (avoids_of hp)⟩

/-- What an event reads of its units alone. -/
theorem Ev.Safe.of_u {b : Ev} (h : e.Safe v) (hu : b.u = e.u) : b.Safe v := by
  obtain ⟨⟨hs, hw, hd, hl⟩, ⟨hm, hr⟩⟩ := h
  exact ⟨⟨hu ▸ hs, hu ▸ hw, hu ▸ hd, hl⟩, ⟨hu ▸ hm, hu ▸ hr⟩⟩

theorem sound_iff {s : State} : s.sound ↔ (Ev.start s.units).Safe s.env :=
  ⟨fun h => ⟨⟨h.units, h.lists.1, drivesBut_none_iff.2 h.drives, h.config⟩, ⟨h.lists.2, h.ready⟩⟩,
   fun ⟨hk, ht⟩ => ⟨hk.sound, ⟨hk.waiting, ht.moves⟩, ht.ready, drivesBut_none_iff.1 hk.drives, hk.config⟩⟩

theorem settle_safe (h : e.Safe v) : (Ev.start (settle v e)).Safe v :=
  ((h.upholds (ended_upholds (.refl ..))).frame (offerFrames_goes v _)).of_u rfl

/-! ## Whole events -/

theorem become_sound {s : State} {y : Sys} {u : Units} {f : Env → Ev → Ev}
    (he : (f ⟨y, s.pins⟩ (.start u)).Safe ⟨y, s.pins⟩) : (s.become y u f).sound := by
  let v : Env := ⟨y, s.pins⟩
  have hs : (Ev.start (settle v (f v (.start u)))).Safe v := settle_safe he
  refine sound_iff.2 ?_
  rw [become_units]
  exact hs

variable {s : State} {f : Env → Ev → Ev}

theorem event_sound (h : s.sound)
    (hf : (Ev.start s.units).Safe s.env → (f s.env (.start s.units)).Safe s.env) : (s.event f).sound :=
  become_sound (f := f) (hf (sound_iff.1 h))

theorem whenRunning_sound (h : s.sound) (hf : ∀ e, e.Safe s.env → (f s.env e).Safe s.env) :
    (s.whenRunning f).sound := by
  unfold State.whenRunning
  split
  · exact event_sound h (hf _)
  · exact h

theorem whenStarted_sound (h : s.sound) (hf : ∀ e, e.Safe s.env → (f s.env e).Safe s.env) :
    (s.whenStarted f).sound := by
  unfold State.whenStarted
  split
  · exact event_sound h (hf _)
  · exact h

theorem whenTable_sound {f : Env → TurntableCfg → Ev → Ev} (h : s.sound)
    (hf : ∀ g e, e.Safe s.env → (f s.env g e).Safe s.env) : (s.whenTable f).sound := by
  unfold State.whenTable
  split
  · exact whenRunning_sound h (hf _)
  · exact h

/-- R186: the oldest frame leaves the receive queue. -/
theorem taken_sound {x : RxFrame} {rest : List RxFrame} (h : s.sound) (hx : s.units.lnk.rx = x :: rest) :
    ({ s with units.lnk.rx := rest } : State).sound := by
  obtain ⟨hz, hc, ⟨⟨hr, hq⟩, hs⟩, hn⟩ := h.units
  refine { h with units := ⟨hz, hc, ⟨⟨?_, hq⟩, hs⟩, hn⟩, drives := ?_ }
  · rw [hx] at hr
    exact Nat.le_of_succ_le hr
  · exact { h.drives with }

theorem takeFrame_sound {takes : Frame → Bool} {act : RxFrame → State → State} (h : s.sound)
    (ha : ∀ x t, t.sound → t.env = s.env → (act x t).sound) : (s.takeFrame takes act).sound := by
  unfold State.takeFrame
  split
  next x rest hx =>
    split
    · exact ha x _ (taken_sound h hx) rfl
    · exact h
  · exact h

theorem takeStarted_sound {takes : Frame → Bool} {f : Env → RxFrame → Ev → Ev} (h : s.sound)
    (hf : ∀ x e, e.Safe s.env → (f s.env x e).Safe s.env) : (s.takeStarted takes f).sound :=
  takeFrame_sound h fun x t ht hv => whenStarted_sound ht (by rw [hv]; exact hf x)

theorem takeRunning_sound {takes : Frame → Bool} {f : Env → RxFrame → Ev → Ev} (h : s.sound)
    (hf : ∀ x e, e.Safe s.env → (f s.env x e).Safe s.env) : (s.takeRunning takes f).sound :=
  takeFrame_sound h fun x t ht hv => whenRunning_sound ht (by rw [hv]; exact hf x)

/-- R127: a change of the input lines changes nothing that the invariant speaks of. -/
theorem setPins_sound {g : Pins → Pins} (h : s.sound) : (s.setPins g).sound :=
  { h with drives := { h.drives with } }

end

end Sys2Proof.Machine


/-! The steps that change more than one event does: start-up, restart, the image, reception and transmission, the entry
into RUNNING, and the passing of a millisecond. -/

namespace Sys2Proof.Machine

set_option Elab.async false

/-! ## Lawful configurations (R52, R125, R197) -/

/-- R197 check 4: a section with no fault has every record as it must be. -/
theorem ok_of_no_fault {α : Type} {bound n : Nat} {ok : Nat → α → Bool} {l : List α} {x : α}
    (h : firstFault bound ok l = none) (hx : l[n]? = some x) : ok n x = true := by
  have hm : (x, n) ∈ l.zipIdx := List.mk_mem_zipIdx_iff_getElem?.2 hx
  have hall := List.find?_eq_none.1 (Option.map_eq_none_iff.1 h) _ hm
  simp_all

theorem getElem?_of_getD {α : Type} {l : List (Option α)} {n : Nat} {x : α} (h : l.getD n none = some x) :
    l[n]? = some (some x) := by
  rw [List.getD_eq_getElem?_getD] at h
  cases hl : l[n]? <;> simp_all

/-- R197 check 4: with no fault in an image no section has one. -/
theorem section_of_no_rangeFault {own : Nat} {c : Config} (h : rangeFault own c = none) {x : Option Byte}
    (hx : x ∈ sectionFaults own c) : x = none := by
  obtain ⟨n, hn⟩ := List.mem_iff_getElem?.1 hx
  simpa using List.findSome?_eq_none_iff.1 h (x, n) (List.mk_mem_zipIdx_iff_getElem?.2 hn)

/-- R197: an image with no fault in any section gives a lawful configuration. -/
theorem lawful_of_no_rangeFault {own : Nat} {c : Config} (h : rangeFault own c = none) : Lawful c where
  turnouts n r hr x hx := by
    have hs : (firstFault 64 (ifUsed (routeOk c own)) c.routes).map byte = none :=
      section_of_no_rangeFault h (by simp [sectionFaults])
    have hok : routeOk c own n r = true :=
      ok_of_no_fault (ok := ifUsed (routeOk c own)) (Option.map_eq_none_iff.1 hs) (getElem?_of_getD hr)
    simp only [routeOk, Bool.and_eq_true, List.all_eq_true, decide_eq_true_eq] at hok
    obtain ⟨⟨⟨⟨⟨_, hthrown⟩, _⟩, _⟩, _⟩, _⟩ := hok
    exact hthrown x hx
  turntable g hg := by
    have hs : tableFault c = none := section_of_no_rangeFault h (by simp [sectionFaults])
    have hok : geometryOk c g = true := by
      cases hok : geometryOk c g
      · simp [tableFault, hg, hok] at hs
      · rfl
    simp only [geometryOk, inSteps, Bool.and_eq_true, Bool.or_eq_true, decide_eq_true_eq, beq_iff_eq] at hok
    omega

theorem lawful_of_accepted {i : Image} (h : imageFault i = none) : Lawful (acceptedConfig i) := by
  have hr : rangeFault (headerNumber i) (imageConfig i) = none := by
    unfold imageFault at h
    repeat' split at h
    all_goals simp_all
  have hl := lawful_of_no_rangeFault hr
  exact ⟨hl.turnouts, hl.turntable⟩

end Sys2Proof.Machine


/-! The steps that change more than one event does: start-up, restart, reception and transmission, the entry into RUNNING,
and the passing of a millisecond. -/

namespace Sys2Proof.Machine

set_option Elab.async false

section
variable {v : Env} {e : Ev} {u : Units} {s : State}

/-! ## A station that is not RUNNING (R37, R53, R127) -/

/-- Before RUNNING no throw is queued and every turnout is at rest. -/
theorem rests_of_not_running (h : u.drivesSound v) (hr : v.running = false) :
    u.tdu.queue = [] ∧ ∀ t, (u.turnout t).Rests := by
  have hrest (t : Nat) : (u.turnout t).Rests := by
    obtain ⟨hq, hm⟩ := h.resting hr t
    exact ((drivesBut_none_iff.2 h).fits t nofun).rests hq hm
  exact ⟨List.eq_nil_iff_forall_not_mem.2 fun x hx =>
    (hrest x.1).notQueued ((h.queued x.1).1 (List.mem_map_of_mem hx)), hrest⟩

/-- Before RUNNING the drives are sound whatever the configuration. -/
theorem drivesSound_of_not_running {w : Env} (h : u.drivesSound v) (hr : v.running = false) : u.drivesSound w :=
  have ⟨hq, hrest⟩ := rests_of_not_running h hr
  drivesSound_of_rests hq hrest

theorem start_safe (hu : u.sound) (hl : u.listsBounded) (hr : u.readyKept v) (hd : u.drivesSound v)
    (hc : Lawful v.cfg) : (Ev.start u).Safe v := ⟨⟨hu, hl.1, drivesBut_none_iff.2 hd, hc⟩, ⟨hl.2, hr⟩⟩

/-- A station that is not RUNNING keeps the invariant under another station state that is not RUNNING either. -/
theorem readyKept_of_not_running {w : Env} (h : u.readyKept v) (hv : v.running = false) (hw : w.running = false) :
    u.readyKept w := by
  rw [Units.readyKept, hw]
  rw [Units.readyKept, hv] at h
  exact h

/-- Units whose drives, lists and turntable ready are at their power-on values. -/
theorem start_safe_of_initial (hu : u.sound) (hd : u.tdu = Units.initial.tdu) (hw : u.ilk.waiting = [])
    (hq : u.ttc.queue = []) (hb : u.biu.ready = false) (hv : v.running = false) (hc : Lawful v.cfg) :
    (Ev.start u).Safe v := by
  refine start_safe hu ⟨by simp [hw], by simp [hq]⟩ (by simp [Units.readyKept, hb, hv])
    (drivesSound_of_rests (by rw [hd]; rfl) fun t => ?_) hc
  have ht : u.turnout t = .initial := by
    rw [Units.turnout, hd]
    exact initial_turnout t
  exact ht ▸ initial_rests

theorem sendAnnounce_safe {b : Bool} (h : e.Safe v) : (e.sendAnnounce v b).Safe v := h.frame (sendAnnounce_goes v b e)

/-! ## Power-on, image, restart (R196 to R200) -/

theorem powerUp_sound (s : State) (k : RestartCause) : (s.powerUp k).sound where
  units := initial_units_sound
  lists := ⟨Nat.zero_le _, Nat.zero_le _⟩
  ready := rfl
  drives := drivesSound_of_rests rfl fun t => initial_turnout t ▸ initial_rests
  config := lawful_of_empty rfl rfl

theorem not_running_of_station {p : Pins} {y : Sys} (h : y.station ≠ .running) : Env.running ⟨y, p⟩ = false := by
  simpa [Env.running] using h

theorem supplySettled_sound (h : s.sound) : s.supplySettled.sound := by
  unfold State.supplySettled
  split
  next hp =>
    have hv : s.env.running = false := not_running_of_station (by rw [hp]; decide)
    exact become_sound (f := fun _ e => e) (start_safe h.units h.lists (readyKept_of_not_running h.ready hv rfl)
      (drivesSound_of_not_running h.drives hv) h.config)
  · exact h

theorem configured_sound {c : Config} {l : Link} (h : u.sound) (hl : l.sound) :
    ({ u.configured c with lnk := l } : Units).sound := by
  obtain ⟨hz, hc, -, hn⟩ := h
  refine ⟨?_, hc, hl, hn⟩
  simp_all [Units.sized, Units.configured, routesOf, entriesOf]

theorem watching_sound {l : Link} (h : l.sound) : l.watching.sound := h

theorem configured_safe {w : Env} {c : Config} {l : Link} (h : s.sound) (hv : s.env.running = false)
    (hw : w.running = false) (hl : l.sound) (hc : Lawful w.cfg) : (Ev.start { s.units.configured c with lnk := l }).Safe w :=
  start_safe (configured_sound h.units hl) h.lists (readyKept_of_not_running h.ready hv hw)
    { drivesSound_of_not_running h.drives hv with } hc

theorem accepted_sound {i : Image} (h : s.sound) (hv : s.env.running = false) (hi : imageFault i = none) :
    (s.accepted i).sound :=
  become_sound (f := fun v e => e.sendAnnounce v false)
    (sendAnnounce_safe (configured_safe h hv rfl (watching_sound h.units.2.2.1) (lawful_of_accepted hi)))

theorem refused_sound {i : Image} {k : FaultKind} {x : Item} (h : s.sound) (hv : s.env.running = false) :
    (s.refused i k x).sound :=
  become_sound (f := fun v e => (e.drawn.writeFault k x).sendAnnounce v true)
    (sendAnnounce_safe (((configured_safe h hv rfl (watching_sound h.units.2.2.1) (lawful_of_empty rfl rfl)).frame
      (drawn_goes _)).frame (writeFault_goes ..)))

theorem imageRead_sound {i : Image} (h : s.sound) : (s.imageRead i).sound := by
  unfold State.imageRead
  split
  next hs =>
    have hv : s.env.running = false := not_running_of_station (by rw [hs]; decide)
    split
    next hi => exact accepted_sound h hv hi
    · exact refused_sound h hv
  · exact h

theorem restarted_sound {c : Config} (h : u.sound) : (u.restarted c).sound := by
  obtain ⟨hz, hc, hl, hn⟩ := initial_units_sound
  exact ⟨by simp_all [Units.sized, Units.restarted, routesOf, entriesOf, Board.restarted], hc, hl, h.2.2.2⟩

theorem restart_sound (h : s.sound) : s.restart.sound :=
  become_sound (f := fun _ e => e) (start_safe_of_initial (restarted_sound h.units) rfl rfl rfl rfl rfl h.config)

/-- R12: the mirrors of `u` keep their number where others take their place. -/
theorem keepMirrors_sound {u' : Units} (h : u.sound) (h' : u'.sound) : (u.keepMirrors u').sound := by
  obtain ⟨⟨hf, hb, -, -, hz⟩, hc⟩ := h'
  obtain ⟨⟨-, -, hm, hx, -⟩, -⟩ := h
  exact ⟨⟨hf, hb, hm, hx, hz⟩, hc⟩

/-- R184: the units of a station whose address clashes. -/
theorem clash_sound {c : Config} (h : u.sound) :
    ({ u.keepMirrors (u.restarted c) with lnk := (u.keepMirrors (u.restarted c)).lnk.watching } : Units).sound := by
  obtain ⟨hz, hc, hl, hn⟩ := keepMirrors_sound h (restarted_sound (c := c) h)
  exact ⟨hz, hc, watching_sound hl, hn⟩

theorem addressClash_sound (h : s.sound) : s.addressClash.sound := by
  let f : Env → Ev → Ev := fun v e => match v.sys.number with
    | some n => (e.writeFault .addressClash (.station n)).sendAnnounce v true
    | none => e
  have hf (v : Env) (e : Ev) (he : e.Safe v) : (f v e).Safe v := by
    dsimp only [f]
    split
    · exact sendAnnounce_safe (he.frame (writeFault_goes ..))
    · exact he
  exact become_sound (f := f) (hf _ _ (start_safe_of_initial (clash_sound h.units) rfl rfl rfl rfl rfl h.config))

/-! ## Reception and transmission (R183 to R189) -/

/-- A change of the link that keeps its bounds. -/
theorem Ev.Safe.link {f : Link → Link} (h : e.Safe v) (hf : e.u.lnk.sound → (f e.u.lnk).sound) : (e.link f).Safe v := by
  obtain ⟨⟨⟨hz, hc, hl, hn⟩, hw, hd, hx⟩, ht⟩ := h
  exact ⟨⟨⟨hz, hc, hf hl, hn⟩, hw, drivesBut_congr hd rfl, hx⟩, ⟨ht.moves, ht.ready⟩⟩

theorem received_safe {x : Verdict} (h : e.Safe v) (hx : ∀ f, x = .placed f → e.u.lnk.rx.length < 8) :
    (e.received v x).Safe v := by
  cases x with
  | badFraming => exact (h.frame (receptionLost_goes v e)).frame (link_raiseFraming_goes _)
  | badCrc => exact (h.frame (receptionLost_goes v e)).frame (link_raiseCrc_goes _)
  | clash => exact h
  | notForUs => exact h.frame (receptionLost_goes v e)
  | full => exact (h.frame (receptionLost_goes v e)).upholds (receiveOverflow_upholds (.refl ..))
  | placed f => exact h.frame (place_goes f e (hx f rfl))

theorem frameEnd_sound {bytes : List Byte} {broken : Bool} (h : s.sound) : (s.frameEnd bytes broken).sound := by
  unfold State.frameEnd
  dsimp only
  split
  · exact h
  · split
    · split
      · exact event_sound h fun hs => hs.link id
      · exact addressClash_sound h
    · exact event_sound h fun hs => (received_safe hs fun f hf => judge_placed hf).link id

theorem frameSent_safe (h : e.Safe v) : e.frameSent.Safe v := by
  unfold Ev.frameSent
  split
  · split
    · exact h.link id
    · exact h
  · exact h

/-- R189: the contents of a frame given up return to where they came from. -/
theorem giveBack_safe {o : Origin} (h : e.Safe v) : (e.link (Link.giveBack o)).Safe v := by
  cases o with
  | blocks items => exact h.link fun ⟨hq, hc, hb, hs, ho⟩ => ⟨hq, hc, setUnion_rising hb, hs, ho⟩
  | signals items => exact h.link fun ⟨hq, hc, hb, hs, ho⟩ => ⟨hq, hc, hb, setUnion_rising hs, ho⟩
  | faultNotice c => exact h.frame (link_returnFaults_goes c e)
  | trackingNotice c => exact h.frame (link_returnTracking_goes c e)
  | linkNotice => exact h.frame (link_pend_goes .link e)
  | urgent | ordinary => exact h.link id

theorem collision_safe (h : e.Safe v) : e.collision.Safe v := by
  unfold Ev.collision
  split
  · exact h
  next x _ =>
    split
    · exact h
    · split
      · exact h.link id
      · split
        · exact giveBack_safe (o := x.origin)
            ((h.link (f := fun l => { l with inHand := none }) id).frame (link_raiseGiveUp_goes _))
        · exact (h.link id).frame (drawn_goes _)

/-! ## Entry into RUNNING (R199) -/

/-- R37, R46: the contacts are read while every turnout is at rest. -/
theorem readContacts_upholds {a : Ev} (h : a.Upholds v false none e) : a.Upholds v false none (e.readContacts v) := by
  refine h.foldl _ fun e h t _ => ?_
  dsimp only
  split
  · exact h
  next c _ =>
    have hs := setTurnout_rests (t := t)
      (f := Turnout.start c.feedback (v.pins.normals.getD t false) (v.pins.reverses.getD t false)) h
      (fun k => (k.drives.fits t nofun).resting rfl)
      fun x hx => ⟨(restingState_atRest _).1, (restingState_atRest _).2, hx.noDrive, hx.noRequester⟩
    exact .ite (enterFailed_upholds (hs.but t)) hs

/-- What holds while no turnout may be QUEUED or MOVING holds where they may. -/
theorem Ev.Kept.relax {r : Bool} (h : e.Kept v false none) : e.Kept v r none :=
  ⟨h.sound, h.waiting, ⟨h.drives.once, fun t ht =>
    { h.drives.fits t ht with resting := fun _ => (h.drives.fits t ht).resting rfl }, h.drives.motors⟩, h.config⟩

theorem start_kept_of_not_running {w : Env} (h : s.sound) (hv : s.env.running = false) (hc : Lawful w.cfg) :
    (Ev.start s.units).Kept w false none :=
  have ⟨hq, hrest⟩ := rests_of_not_running h.drives hv
  ⟨h.units, h.lists.1, ⟨by simp [hq], fun t _ => turnoutFits_of_rests (by simp [hq]) (hrest t),
    (drivesSound_of_not_running h.drives hv).motors⟩, hc⟩

/-- The reading of the inputs leaves the move queue. -/
theorem inputs_queue (v : Env) (e : Ev) :
    (((((e.readDetectors v).readContacts v).startProving v).readLock v).readButtons v).u.ttc.queue = e.u.ttc.queue := by
  have hlock (e : Ev) : (e.readLock v).u.ttc.queue = e.u.ttc.queue := by
    unfold Ev.readLock
    split <;> rfl
  have hb := (readButtons_goes v ((((e.readDetectors v).readContacts v).startProving v).readLock v)).keeps .table
    (by decide)
  have hp := (startProving_goes v ((e.readDetectors v).readContacts v)).keeps .table (by decide)
  have hc := (readContacts_goes v (e.readDetectors v)).keeps .table (by decide)
  have hd := (readDetectors_goes v e).keeps .table (by decide)
  have table {u t : Units} (h : Part.agree u t .table) : t.ttc.queue = u.ttc.queue := congrArg Turntable.queue h
  exact (table hb).trans ((hlock _).trans ((table hp).trans ((table hc).trans (table hd))))

/-- R199: every unit has its start state; turntable ready is made from the turntable as it is. -/
theorem enterRunning_safe (h : e.Kept v false none) (hq : e.u.ttc.queue.length ≤ 4) : (e.enterRunning v).Safe v := by
  have hc := (readContacts_upholds (.refl ..)).kept (h.frame (readDetectors_goes v e))
  have hb := ((hc.frame (startProving_goes v _)).frame (readLock_goes v _)).frame (readButtons_goes v _)
  have hs : (((((e.readDetectors v).readContacts v).startProving v).readLock v).readButtons v).Safe v :=
    ⟨hb.relax, by rw [inputs_queue]; exact hq, rfl⟩
  exact ((hs.frame (startTimers_goes _)).frame (publishAll_goes v _)).frame (callCompose_goes _)

theorem settled_sound (h : s.sound) : s.settled.sound := by
  unfold State.settled
  split
  next hs =>
    have hv : s.env.running = false := not_running_of_station (by rw [hs.1]; decide)
    exact become_sound (f := Ev.enterRunning) (enterRunning_safe (start_kept_of_not_running h hv h.config) h.lists.2)
  · exact h

/-! ## A millisecond (R1, R16, R36, R41, R43, R44, R152) -/

theorem tick_turnout (t : Nat) : u.tick.turnout t = (u.turnout t).tick := by
  have hi : Turnout.initial = Turnout.initial.tick := rfl
  simp only [Units.turnout, Units.tick]
  conv_lhs => rw [hi]
  exact List.getD_map ..

theorem tick_isSome (d : Option Drive) : (d.map Drive.tick).isSome = d.isSome := by cases d <;> rfl

theorem tick_sound (h : u.sound) : u.tick.sound := by
  obtain ⟨hz, hc, hl, hn⟩ := h
  exact ⟨by simpa [Units.sized, Units.tick] using hz, hc, hl, hn⟩

theorem tickMirrors_sound (h : u.sound) : u.tickMirrors.sound := by
  obtain ⟨hz, hc, hl, hn⟩ := h
  exact ⟨by simpa [Units.sized, Units.tickMirrors] using hz, hc, hl, hn⟩

theorem tick_drives {r : Bool} (h : u.drivesBut v r none) : u.tick.drivesBut v r none where
  once := h.once
  fits t ht := by
    have hx := tick_turnout (u := u) t
    refine turnoutFits_congr (h.fits t ht) Iff.rfl (by rw [hx]; rfl) ?_ (fun p hp => ?_) (by rw [hx]; exact id) ?_
    · rw [hx]
      exact tick_isSome _
    · rw [hx] at hp
      obtain ⟨d, hd, hdp⟩ := Option.map_eq_some_iff.1 hp
      refine ⟨d.pos, hd.trans ?_⟩
      cases d with | mk pos stage => cases stage <;> simp_all [Drive.tick]
    · intro j hj
      exact ⟨j + 1, by simp [Units.tick, hj, Cdu.tick]⟩
  motors := by
    refine le_trans (List.countP_mono_left fun t _ => ?_) h.motors
    rw [tick_turnout]
    exact id

theorem tick_safe (h : (Ev.start u).Safe v) : (Ev.start u.tick).Safe v := by
  obtain ⟨⟨hs, hw, hd, hc⟩, ⟨hm, hr⟩⟩ := h
  exact ⟨⟨tick_sound hs, hw, tick_drives hd, hc⟩, ⟨hm, hr⟩⟩

theorem tickMirrors_safe (h : (Ev.start u).Safe v) : (Ev.start u.tickMirrors).Safe v := by
  obtain ⟨⟨hs, hw, hd, hc⟩, ⟨hm, hr⟩⟩ := h
  exact ⟨⟨tickMirrors_sound hs, hw, drivesBut_congr hd rfl, hc⟩, ⟨hm, hr⟩⟩

theorem tickTimers_sound (h : s.sound) : s.tickTimers.sound := by
  have hs := sound_iff.1 h
  refine sound_iff.2 ?_
  have ht : (Ev.start s.tickTimers.units).Safe s.env := by
    show (Ev.start (if s.sys.mirrors then s.units.tick.tickMirrors else s.units.tick)).Safe s.env
    split
    · exact tickMirrors_safe (tick_safe hs)
    · exact tick_safe hs
  obtain ⟨⟨hu, hw, hd, hc⟩, ⟨hm, hr⟩⟩ := ht
  exact ⟨⟨hu, hw, drivesBut_none_iff.2 { drivesBut_none_iff.1 hd with }, hc⟩, ⟨hm, hr⟩⟩

theorem count_sound (h : s.sound) : s.count.sound := by
  unfold State.count
  split
  · exact { h with drives := { h.drives with } }
  · exact h

end

end Sys2Proof.Machine


/-! Every step keeps the invariant (O4). -/

namespace Sys2Proof.Machine

set_option Elab.async false

section
variable {v : Env} {a e : Ev} {s : State}

/-! ## CLEAR events (R6, R25) -/

/-- R6, R25: the block's own record and the Train Tracker at a CLEAR event. -/
def Ev.clearedTrain (v : Env) (b : Nat) (e : Ev) : Ev := (e.setOccupied v b false).trackClear v b

theorem clearedTrain_goes (v : Env) (b : Nat) (e : Ev) :
    Ev.Goes [.occupancy, .marks, .slots] e (e.clearedTrain v b) := by
  have hc := (clearTrain_goes v b e).mono (ps := [.occupancy, .marks, .slots]) (by decide)
  unfold Ev.clearedTrain Ev.trackClear
  dsimp only
  split
  · exact hc
  · split
    · exact hc.after (searchTag_goes ..) (by decide)
    · exact hc

/-- R6: what the other units do at a CLEAR event. -/
theorem cleared_upholds {b : Nat} (h : a.Upholds v v.running none (e.clearedTrain v b)) :
    a.Upholds v v.running none (e.cleared v b) :=
  (((arbiterAtClear_upholds (routesClear_upholds (h.frame (claimsClear_goes v b _)))).frame
    (departures_goes ..)).frame (occupancyReaches_goes ..)).frame (approachChanged_goes ..)

theorem dropExpiry_safe {n : Nat} (h : e.Safe v) : (e.dropExpiry v n).Safe v := by
  unfold Ev.dropExpiry
  split
  · exact ((h.frame (setFilter_goes ..)).frame (clearedTrain_goes v n _)).upholds (cleared_upholds (.refl ..))
  · exact h

/-! ## The commands -/

/-- An outcome after which the invariant holds. -/
def SoundAfter (o : Host.Outcome State Fault Refusal) : Prop := ∀ t, o = .next t → t.sound

theorem next_sound (h : s.sound) : SoundAfter (.next s) := fun t ht => by
  cases ht
  exact h

theorem listening_sound {f : Env → Ev → Ev} (h : s.sound) (hf : ∀ e, e.Safe s.env → (f s.env e).Safe s.env) :
    (if s.env.listens then s.event f else s).sound := by
  split
  · exact event_sound h (hf _)
  · exact h

/-- R129, log entry 31: the filtered lock confirm shows a level, and its line follows. -/
theorem lockShows_sound {p : Prop} [Decidable p] {g : Pins → Pins} {f : Env → TurntableCfg → Ev → Ev} (h : s.sound)
    (hf : ∀ v c e, e.Safe v → (f v c e).Safe v) : (if p then (s.setPins g).whenTable f else s).sound := by
  split
  · exact whenTable_sound (setPins_sound h) (hf _)
  · exact h

theorem exec_sound (c : Instr) (h : s.sound) : SoundAfter (exec c s) := by
  cases c with
  | powerOn => exact next_sound (powerUp_sound s _)
  | resetPin => exact next_sound (powerUp_sound s _)
  | supplySettled => exact next_sound (supplySettled_sound h)
  | imageReadComplete i => exact next_sound (imageRead_sound h)
  | settleTimerExpiry => exact next_sound (settled_sound h)
  | restart =>
    exact next_sound (takeFrame_sound h fun x t ht _ => by
      split
      · exact restart_sound ht
      · exact ht)
  | detectorRiseExpiry n => exact next_sound (whenRunning_sound h fun e k => k.frame (riseExpiry_goes _ n e))
  | detectorDropExpiry n => exact next_sound (whenRunning_sound h fun e k => dropExpiry_safe k)
  | republishTimerExpiry => exact next_sound (whenRunning_sound h fun e k => k.frame (republish_goes _ e))
  | mirrorLapse m => exact next_sound (whenStarted_sound h fun e k => k.upholds (mirrorLapse_upholds (.refl ..)))
  | deckCarryLapse => exact next_sound (whenRunning_sound h fun e k => k.frame (carryLapse_goes _ e))
  | tagSet => exact next_sound (takeStarted_sound h fun x e k => k.frame (tagSet_goes _ x.frame e))
  | turnoutFeedbackChange t n r =>
    refine next_sound ?_
    split
    · exact event_sound (setPins_sound h) fun k => k.upholds (feedbackChange_upholds (.refl ..))
    · exact h
  | turnoutRequest =>
    exact next_sound (takeStarted_sound h fun x e k => k.upholds (turnoutRequest_upholds (.refl ..)))
  | solenoidPulseEnd => exact next_sound (whenRunning_sound h fun e k => k.upholds (pulseEnd_upholds (.refl ..)))
  | cduRechargeExpiry => exact next_sound (whenRunning_sound h fun e k => k.upholds (rechargeExpiry_upholds (.refl ..)))
  | confirmWindowExpiry t => exact next_sound (whenRunning_sound h fun e k => k.upholds (windowExpiry_upholds (.refl ..)))
  | motorTimeoutExpiry t => exact next_sound (whenRunning_sound h fun e k => k.upholds (motorExpiry_upholds (.refl ..)))
  | routeRequest =>
    exact next_sound (takeStarted_sound h fun x e k => k.upholds (routeRequest_upholds (.refl ..)))
  | routeCancel => exact next_sound (takeStarted_sound h fun x e k => k.upholds (routeCancel_upholds (.refl ..)))
  | approachReleaseExpiry n =>
    exact next_sound (whenRunning_sound h fun e k => k.upholds (approachExpiry_upholds (.refl ..)))
  | claimAnswerGrant => exact next_sound (takeStarted_sound h fun x e k => k.upholds (claimGrant_upholds (.refl ..)))
  | claimAnswerRefuse =>
    exact next_sound (takeStarted_sound h fun x e k => k.upholds (.ite (claimRefuse_upholds (.refl ..)) (.refl ..)))
  | claimAnswerTimeout n =>
    exact next_sound (whenRunning_sound h fun e k => k.upholds (answerTimeout_upholds (.refl ..)))
  | ownerWaitExpiry n =>
    exact next_sound (whenRunning_sound h fun e k => k.upholds (ownerWaitExpiry_upholds (.refl ..)))
  | claimBlockListReceived bytes =>
    exact next_sound (whenRunning_sound h fun e k => k.frame (blockListReceived_goes _ bytes e))
  | claimRequestTaken =>
    exact next_sound (takeStarted_sound h fun x e k => k.frame (claimRequest_goes _ x.frame (x.arrival.getD []) e))
  | claimRelease => exact next_sound (takeStarted_sound h fun x e k => k.frame (claimRelease_goes _ x.frame e))
  | claimPurge => exact next_sound (takeStarted_sound h fun x e k => k.frame (claimPurge_goes _ x.frame e))
  | approachControlExpiry n => exact next_sound (whenRunning_sound h fun e k => k.frame (releaseControl_goes n e))
  | lampProvingExpiry n => exact next_sound (whenRunning_sound h fun e k => k.frame (lampProven_goes _ n e))
  | zoneStop => exact next_sound (takeStarted_sound h fun x e k => k.upholds (setStop_upholds (.refl ..)))
  | zoneResume => exact next_sound (takeStarted_sound h fun x e k => k.upholds (setStop_upholds (.refl ..)))
  | watchSet => exact next_sound (takeStarted_sound h fun x e k => k.frame (watchSet_goes _ x.frame e))
  | watchClear => exact next_sound (takeStarted_sound h fun x e k => k.frame (watchClear_goes _ x.frame e))
  | turntableMove => exact next_sound (takeStarted_sound h fun x e k => k.upholds (moveRequest_upholds (.refl ..)))
  | turntableSwap => exact next_sound (takeStarted_sound h fun x e k => k.upholds (moveRequest_upholds (.refl ..)))
  | turntableCancelAll => exact next_sound (takeStarted_sound h fun x e k => k.upholds (cancelMoves_upholds (.refl ..)))
  | lockConfirmWithdrawn =>
    exact next_sound (lockShows_sound h fun v g e k => k.upholds (confirmWithdrawn_upholds (.refl ..)))
  | lockConfirmEngaged =>
    exact next_sound (lockShows_sound h fun v g e k => k.upholds (confirmEngaged_upholds (.refl ..)))
  | unlockConfirmExpiry => exact next_sound (whenTable_sound h fun g e k => k.upholds (unlockExpiry_upholds (.refl ..)))
  | stepIntervalExpiry home =>
    exact next_sound (setPins_sound (whenTable_sound h fun g e k => k.upholds (stepExpiry_upholds (.refl ..))))
  | lockConfirmExpiry => exact next_sound (whenTable_sound h fun g e k => k.upholds (lockExpiry_upholds (.refl ..)))
  | scaleRollover => exact next_sound (whenRunning_sound h fun e k => k.upholds (scaleRollover_upholds (.refl ..)))
  | clockSet => exact next_sound (takeRunning_sound h fun x e k => k.upholds (clockSet_upholds (.refl ..)))
  | clockControlRun => exact next_sound (takeRunning_sound h fun x e k => k.frame (clockControl_goes _ x.frame _ _ e))
  | clockControlStop => exact next_sound (takeRunning_sound h fun x e k => k.frame (clockControl_goes _ x.frame _ _ e))
  | clockBeacon => exact next_sound (takeRunning_sound h fun x e k => k.upholds (clockBeacon_upholds (.refl ..)))
  | timetableLoad => exact next_sound (takeStarted_sound h fun x e k => k.upholds (timetableLoad_upholds (.refl ..)))
  | timetableCancel => exact next_sound (takeStarted_sound h fun x e k => k.upholds (timetableCancel_upholds (.refl ..)))
  | buttonPress b => exact next_sound (whenRunning_sound h fun e k => k.upholds (pressExpiry_upholds (.refl ..)))
  | buttonReleaseFilter b => exact next_sound (whenRunning_sound h fun e k => k.frame (releaseExpiry_goes b e))
  | guardExpiry b => exact next_sound (whenRunning_sound h fun e k => k.frame (guardExpiry_goes b e))
  | lampFlashExpiry b => exact next_sound (whenRunning_sound h fun e k => k.frame (flashExpiry_goes b e))
  | boardRowSent => exact next_sound (event_sound h fun k => k.frame (rowSent_goes _))
  | boardRefreshExpiry => exact next_sound (whenRunning_sound h fun e k => k.frame (refreshRows_goes e))
  | frameEnd bytes broken => exact next_sound (frameEnd_sound h)
  | occupancyReportTaken =>
    exact next_sound (takeStarted_sound h fun x e k => k.upholds (occupancyReport_upholds (.refl ..)))
  | aspectReportTaken =>
    exact next_sound (takeStarted_sound h fun x e k => k.upholds (aspectReport_upholds (.refl ..)))
  | announceTaken => exact next_sound (takeStarted_sound h fun x e k => k.upholds (announce_upholds (.refl ..)))
  | refreshQuery => exact next_sound (takeRunning_sound h fun x e k => k.frame (refreshQuery_goes _ e))
  | statusQuery =>
    exact next_sound (takeFrame_sound h fun x t ht _ => listening_sound ht fun e k => k.frame (statusQuery_goes _ x.frame e))
  | urgentGapReached => exact next_sound (listening_sound h fun e k => k.frame (urgentGap_goes e))
  | ordinaryGapReached => exact next_sound (listening_sound h fun e k => k.frame (ordinaryGap_goes e))
  | frameSent => exact next_sound (event_sound h fun k => frameSent_safe k)
  | collision => exact next_sound (event_sound h fun k => collision_safe k)
  | backoffRetry => exact next_sound (event_sound h fun k => k.frame (backoffRetry_goes _))
  | detectorInputChange n level =>
    exact next_sound (whenRunning_sound (setPins_sound h) fun e k => k.frame (detectorInput_goes _ n level e))
  | turnoutContactInputChange t x level =>
    exact next_sound (whenRunning_sound (setPins_sound h) fun e k => k.upholds (contactInput_upholds (.refl ..)))
  | redLampInputChange n level =>
    exact next_sound (whenRunning_sound (setPins_sound h) fun e k => k.frame (lampInput_goes _ n level e))
  | lockConfirmInputChange level =>
    exact next_sound (whenTable_sound (setPins_sound h) fun g e k => k.upholds (ttc_upholds (.refl ..)))
  | buttonInputChange b level =>
    exact next_sound (whenRunning_sound (setPins_sound h) fun e k => k.frame (buttonInput_goes _ b level e))
  | lineStartBit => exact next_sound (listening_sound h fun e k => k.link id)

/-! ## One step -/

theorem idle_sound (h : s.sound) : SoundAfter (idle s) := by
  unfold idle
  split
  · exact exec_sound _ h
  · split
    · exact exec_sound _ (tickTimers_sound h)
    · exact next_sound (count_sound (tickTimers_sound h))

theorem step_sound (h : s.sound) : SoundAfter (step s) := by
  unfold step
  split
  · exact exec_sound _ { h with drives := { h.drives with } }
  · exact idle_sound h

end

/-- Settles O4: the invariant is inductive over the commands and the passing of a millisecond. -/
theorem everyStepKeepsTheStateSound : Obligations.EveryStepKeepsTheStateSound := fun _ _ hs ht => step_sound hs _ ht

end Sys2Proof.Machine


/-! Events that start no move and no route, and the Mirror Table (O15). -/

namespace Sys2Proof.Machine

set_option Elab.async false

section
variable {v : Env} {e : Ev} {s : State}

/-! ## Calm events (R75, R133) -/

/-- An event that calls for no scan and for no examination of the move queue. -/
structure Ev.Calm (e : Ev) : Prop where
  scan    : e.scan = false
  examine : e.examine = false

theorem calm_start (u : Units) : (Ev.start u).Calm := ⟨rfl, rfl⟩

theorem Ev.Calm.ite {b : Ev} {p : Prop} [Decidable p] (he : e.Calm) (hb : b.Calm) : (if p then e else b).Calm := by
  split
  · exact he
  · exact hb

theorem Ev.Calm.foldl {α : Type} {g : Ev → α → Ev} (h : e.Calm) (l : List α) (hg : ∀ e x, e.Calm → (g e x).Calm) :
    (l.foldl g e).Calm := List.foldlRecOn l g h fun e h x _ => hg e x h

/-- A change of the units alone, and what waits for re-evaluation, leave an event calm. -/
theorem Ev.Calm.units (h : e.Calm) (u : Units) (n : List Nat) : { e with u := u, signals := n }.Calm :=
  ⟨h.scan, h.examine⟩

theorem reevaluate_calm {n : Nat} (h : e.Calm) : (e.reevaluate n).Calm := h.units _ _

theorem approachControl_calm {n : Nat} (h : e.Calm) : (e.approachControl v n).Calm :=
  .ite h (.ite (reevaluate_calm (h.units _ e.signals)) (h.units _ e.signals))

theorem approachChanged_calm {b : BlockRef} (h : e.Calm) : (e.approachChanged v b).Calm :=
  h.foldl _ fun _ _ h => .ite (approachControl_calm h) h

theorem reachBehind_calm {r : SignalRef} (h : e.Calm) : (e.reachBehind v r).Calm := by
  refine h.foldl _ fun e n h => ?_
  split
  · exact .ite (reevaluate_calm h) h
  · exact h

theorem send_calm {d : Nat} {k : FrameKind} {p : List Byte} (h : e.Calm) : (e.send v d k p).Calm := by
  unfold Ev.send
  split
  · exact h.units _ e.signals
  · exact h

theorem reclaim_calm {n : Nat} (h : e.Calm) : (e.reclaim v n).Calm := by
  refine h.foldl _ fun e n h => ?_
  split
  · split
    · exact .ite (send_calm (h.units _ e.signals)) h
    · exact h
  · exact h

theorem changeSMirror_calm {i : Nat} {f : SignalMirror → SignalMirror} (h : e.Calm) : (e.changeSMirror v i f).Calm :=
  reachBehind_calm (h.units _ e.signals)

theorem takeSignalItem_calm {n : Nat} {p : Bool} {x : Nat × Nat × Bool × Bool} (h : e.Calm) :
    (e.takeSignalItem v n p x).Calm := by
  unfold Ev.takeSignalItem
  split
  · exact changeSMirror_calm h
  · exact h

theorem aspectReport_calm {x : RxFrame} (h : e.Calm) : (e.aspectReport v x).Calm :=
  have hs := h.foldl (signalItems x.frame.payload) fun _ _ h => takeSignalItem_calm h
  .ite (reclaim_calm hs) hs

/-- The frame of a calm event. -/
theorem event_calm (f : Env → Ev → Ev) (h : (f s.env (.start s.units)).Calm) :
    Goes Part.ofCalm (f s.env (.start s.units)).u (s.event f).units := settle_calm (.inl h.examine) (.inl h.scan)

/-! ## Mirrors (R14 to R16, R18) -/

theorem changeBMirror_mirrors (i : Nat) (f : BlockMirror → BlockMirror) (e : Ev) :
    Part.agree (e.setBMirror i f).u (e.changeBMirror v i f).u .mirrors := by
  have ha := (approachChanged_goes v (.mirror i) (e.setBMirror i f)).keeps .mirrors (by decide)
  have hc := (Ev.Goes.foldl (fun e n => approachCleared_goes v (.mirror i) n e) (List.range 64)
    ((e.setBMirror i f).approachChanged v (.mirror i))).keeps .mirrors (by decide)
  unfold Ev.changeBMirror
  dsimp only
  split
  · exact Part.agree_trans ha hc
  · exact ha

theorem changeSMirror_mirrors (i : Nat) (f : SignalMirror → SignalMirror) (e : Ev) :
    Part.agree (e.setSMirror i f).u (e.changeSMirror v i f).u .mirrors :=
  (reachBehind_goes v (.mirror i) (e.setSMirror i f)).keeps .mirrors (by decide)

/-- R13: a mirror that becomes STALE is taken as OCCUPIED, and ends no approach hold. -/
theorem changeBMirror_stale {i : Nat} (h : (e.u.bmirror i).lapse.isSome = true) :
    e.changeBMirror v i BlockMirror.stale = (e.setBMirror i BlockMirror.stale).approachChanged v (.mirror i) := by
  have hm := (approachChanged_goes v (.mirror i) (e.setBMirror i BlockMirror.stale)).keeps .mirrors (by decide)
  have hi : i < e.u.bkt.bmirrors.length := by
    by_contra hi
    simp [Units.bmirror, List.getElem?_eq_none (Nat.le_of_not_lt hi), BlockMirror.initial] at h
  have ho : ((e.setBMirror i BlockMirror.stale).approachChanged v (.mirror i)).u.refOccupied (.mirror i) = true := by
    simp [Units.refOccupied, Units.bmirror, hm.1, hi, BlockMirror.stale]
  simp [Ev.changeBMirror, ho]

theorem takeBlockItem_bmirrors (n : Nat) (p : Bool) (x : Nat × Bool × Tag × Dir) (e : Ev) :
    (e.takeBlockItem v n p x).u.bkt.bmirrors = match v.cfg.bmirrors.idxOf? (some ⟨n, x.1⟩) with
      | some i => e.u.bkt.bmirrors.modify i (BlockMirror.take p x.2.1 x.2.2.1 x.2.2.2)
      | none => e.u.bkt.bmirrors := by
  unfold Ev.takeBlockItem
  cases v.cfg.bmirrors.idxOf? (some ⟨n, x.1⟩) with
  | some i => exact (changeBMirror_mirrors ..).1
  | none => rfl

theorem takeBlockItem_smirrors (n : Nat) (p : Bool) (x : Nat × Bool × Tag × Dir) (e : Ev) :
    (e.takeBlockItem v n p x).u.bkt.smirrors = e.u.bkt.smirrors := by
  unfold Ev.takeBlockItem
  split
  · exact (changeBMirror_mirrors ..).2
  · rfl

theorem takeSignalItem_smirrors (n : Nat) (p : Bool) (x : Nat × Nat × Bool × Bool) (e : Ev) :
    (e.takeSignalItem v n p x).u.bkt.smirrors = match v.cfg.smirrors.idxOf? (some ⟨n, x.1⟩) with
      | some i => e.u.bkt.smirrors.modify i (SignalMirror.take p x.2.1 x.2.2.1 x.2.2.2)
      | none => e.u.bkt.smirrors := by
  unfold Ev.takeSignalItem
  cases v.cfg.smirrors.idxOf? (some ⟨n, x.1⟩) with
  | some i =>
    dsimp only
    exact (changeSMirror_mirrors i _ e).2
  | none => rfl

theorem takeSignalItem_bmirrors (n : Nat) (p : Bool) (x : Nat × Nat × Bool × Bool) (e : Ev) :
    (e.takeSignalItem v n p x).u.bkt.bmirrors = e.u.bkt.bmirrors := by
  unfold Ev.takeSignalItem
  split
  · exact (changeSMirror_mirrors ..).1
  · rfl

/-- R87: the claims made afresh after a report leave the mirrors. -/
theorem reclaim_mirrors {b : Bool} (n : Nat) (e : Ev) :
    Part.agree e.u (if b then e.reclaim v n else e).u .mirrors := by
  cases b with
  | true => exact (reclaim_goes v n e).keeps .mirrors (by decide)
  | false => exact Part.agree_refl _ _

theorem occupancyReport_bmirrors (x : RxFrame) (e : Ev) :
    (e.occupancyReport v x).u.bkt.bmirrors = (blockItems x.frame.payload).foldl (fun l y =>
      match v.cfg.bmirrors.idxOf? (some ⟨x.frame.src, y.1⟩) with
      | some i => l.modify i (BlockMirror.take x.precedes y.2.1 y.2.2.1 y.2.2.2)
      | none => l) e.u.bkt.bmirrors :=
  (reclaim_mirrors ..).1.trans
    (List.foldl_hom (fun e : Ev => e.u.bkt.bmirrors) fun e y => (takeBlockItem_bmirrors _ _ y e).symm).symm

theorem occupancyReport_smirrors (x : RxFrame) (e : Ev) :
    (e.occupancyReport v x).u.bkt.smirrors = e.u.bkt.smirrors := by
  refine (reclaim_mirrors ..).2.trans (List.foldlRecOn (motive := fun a : Ev => a.u.bkt.smirrors = e.u.bkt.smirrors)
    _ _ rfl fun a h y _ => ?_)
  exact (takeBlockItem_smirrors _ _ y a).trans h

theorem aspectReport_smirrors (x : RxFrame) (e : Ev) :
    (e.aspectReport v x).u.bkt.smirrors = (signalItems x.frame.payload).foldl (fun l y =>
      match v.cfg.smirrors.idxOf? (some ⟨x.frame.src, y.1⟩) with
      | some i => l.modify i (SignalMirror.take x.precedes y.2.1 y.2.2.1 y.2.2.2)
      | none => l) e.u.bkt.smirrors :=
  (reclaim_mirrors ..).2.trans
    (List.foldl_hom (fun e : Ev => e.u.bkt.smirrors) fun e y => (takeSignalItem_smirrors _ _ y e).symm).symm

theorem aspectReport_bmirrors (x : RxFrame) (e : Ev) :
    (e.aspectReport v x).u.bkt.bmirrors = e.u.bkt.bmirrors := by
  refine (reclaim_mirrors ..).1.trans (List.foldlRecOn (motive := fun a : Ev => a.u.bkt.bmirrors = e.u.bkt.bmirrors)
    _ _ rfl fun a h y _ => ?_)
  exact (takeSignalItem_bmirrors _ _ y a).trans h

end

/-- Settles O15: no operation of these events touches the mirrors but the ones that fill them or make them STALE. -/
theorem mirrorsAreFilledAndLapse : Obligations.MirrorsAreFilledAndLapse := by
  refine ⟨fun s i hm => ⟨fun hl => ?block, fun hl => ?signal⟩, fun s x rest hm hx => ⟨fun hk => ?occupancy,
    fun hk => ?aspect⟩⟩
  case block =>
    let f : Env → Ev → Ev := fun v e => e.mirrorLapse v (.block i)
    have he : f s.env (.start s.units)
        = ((Ev.start s.units).setBMirror i BlockMirror.stale).approachChanged s.env (.mirror i) :=
      (if_pos hl).trans (changeBMirror_stale hl)
    have hc : (f s.env (.start s.units)).Calm := he ▸ approachChanged_calm ((calm_start _).units _ [])
    have hg : Ev.Goes [.mirrors, .control] (.start s.units) (f s.env (.start s.units)) := he ▸
      Ev.Goes.after ((setBMirror_goes i _ _).mono (by decide)) (approachChanged_goes s.env (.mirror i) _) (by decide)
    have ha : Part.agree ((Ev.start s.units).setBMirror i BlockMirror.stale).u (f s.env (.start s.units)).u .mirrors :=
      he ▸ (approachChanged_goes s.env (.mirror i) _).keeps .mirrors (by decide)
    have hs := Part.agree_trans ha ((event_calm f hc).keeps .mirrors (by decide))
    exact ⟨s.event f, congrArg Host.Outcome.next (whenStarted_of_mirrors hm f), hs.1, hs.2,
      (Goes.after (hg.mono (by decide)) (event_calm f hc) (by decide)).keeps⟩
  case signal =>
    let f : Env → Ev → Ev := fun v e => e.mirrorLapse v (.signal i)
    have he : f s.env (.start s.units) = (Ev.start s.units).changeSMirror s.env i SignalMirror.stale := if_pos hl
    have hc : (f s.env (.start s.units)).Calm := he ▸ changeSMirror_calm (calm_start _)
    have hg : Ev.Goes [.mirrors] (.start s.units) (f s.env (.start s.units)) := he ▸ changeSMirror_goes s.env i _ _
    have ha : Part.agree ((Ev.start s.units).setSMirror i SignalMirror.stale).u (f s.env (.start s.units)).u .mirrors :=
      he ▸ changeSMirror_mirrors i _ _
    have hs := Part.agree_trans ha ((event_calm f hc).keeps .mirrors (by decide))
    exact ⟨s.event f, congrArg Host.Outcome.next (whenStarted_of_mirrors hm f), hs.2, hs.1,
      (Goes.after (hg.mono (by decide)) (event_calm f hc) (by decide)).keeps⟩
  case occupancy =>
    let s' : State := { s with units := s.taken rest }
    let f : Env → Ev → Ev := fun v e => e.occupancyReport v x
    have hs : Goes Part.ofSettle (f s'.env (.start s'.units)).u (s'.event f).units := settle_goes s'.env _
    have ha := hs.keeps .mirrors (by decide)
    have hg := Goes.after (ps := [.holders, .mirrors, .carry, .turnouts, .routes, .claims, .control, .counters, .slots,
      .transmitter] ++ Part.ofSettle) ((occupancyReport_goes s'.env x (.start s'.units)).mono (by decide)) hs (by decide)
    refine ⟨s'.event f, congrArg Host.Outcome.next ?_, ha.1.trans (occupancyReport_bmirrors x _),
      ha.2.trans (occupancyReport_smirrors x _), fun p hp => hg.keeps p ?_⟩
    · exact (takeFrame_of_takes hx (by simp [ofKind, hk]) _).trans (whenStarted_of_mirrors (s := s') hm f)
    · revert p
      decide
  case aspect =>
    let s' : State := { s with units := s.taken rest }
    let f : Env → Ev → Ev := fun v e => e.aspectReport v x
    have hs := event_calm (s := s') f (aspectReport_calm (calm_start _))
    have ha := hs.keeps .mirrors (by decide)
    have hg := Goes.after (ps := .mirrors :: .claims :: Part.ofCalm)
      ((aspectReport_goes s'.env x (.start s'.units)).mono (by decide)) hs (by decide)
    refine ⟨s'.event f, congrArg Host.Outcome.next ?_, ha.2.trans (aspectReport_smirrors x _),
      ha.1.trans (aspectReport_bmirrors x _), hg.keeps⟩
    exact (takeFrame_of_takes hx (by simp [ofKind, hk]) _).trans (whenStarted_of_mirrors (s := s') hm f)

end Sys2Proof.Machine


/-! Detector filters that have counted their time (O13): what becomes of a block's train and of its tag. -/

namespace Sys2Proof.Machine

set_option Elab.async false

section
variable {v : Env} {e : Ev} {u : Units} {s : State} {l l' : Link} {P : TrackingSlot → Prop} {b : Nat}

/-! ## What the TRACKING notice tells (R192) -/

/-- R192: contents that meet `P` are told in a TRACKING notice: they stand in the slot, or in the notice in hand. -/
def Link.tellsTracking (P : TrackingSlot → Prop) (l : Link) : Prop :=
  P l.tracking ∨ ∃ x c, l.inHand = some x ∧ x.origin = .trackingNotice c ∧ P c

theorem tellsStray_iff : l.tellsStray b ↔ l.tellsTracking fun c => b ∈ c.stray := Iff.rfl
theorem tellsLostTag_iff : l.tellsLostTag b ↔ l.tellsTracking fun c => b ∈ c.lost := Iff.rfl

theorem tellsTracking_congr (ht : l'.tracking = l.tracking) (hi : l'.inHand = l.inHand) :
    l'.tellsTracking P ↔ l.tellsTracking P := by
  rw [Link.tellsTracking, ht, hi]
  rfl

/-- A frame taken in hand tells of tracking what the link told before. -/
theorem takeInHand_tellsTracking {x : InHand} (ht : P l.tracking → l'.tellsTracking P)
    (hx : ∀ c, x.origin = .trackingNotice c → P c → l'.tellsTracking P)
    (h : (l.takeInHand x).tellsTracking P) : l'.tellsTracking P := by
  rcases h with h | ⟨y, c, hy, ho, hc⟩
  · exact ht h
  · cases hy
    exact hx c ho hc

/-- R191: the arbiter tells nothing new of tracking. -/
theorem arbitrate_tellsTracking {n : Nat} (hP : ¬ P .empty) (h : (arbitrate v n u).tellsTracking P) :
    u.lnk.tellsTracking P := by
  unfold arbitrate at h
  dsimp only at h
  split at h
  · exact takeInHand_tellsTracking .inl (fun _ ho => by cases ho) h
  · split at h
    · exact takeInHand_tellsTracking .inl (fun _ ho => by cases ho) h
    · split at h
      · exact takeInHand_tellsTracking .inl (fun _ ho => by cases ho) h
      · split at h
        next k ks _ _ =>
          cases k with
          | fault => exact takeInHand_tellsTracking .inl (fun _ ho => by cases ho) h
          | tracking =>
            exact takeInHand_tellsTracking (fun hp => absurd hp hP) (fun c ho hc => by cases ho; exact .inl hc) h
          | link => exact takeInHand_tellsTracking .inl (fun _ ho => by cases ho) h
        · exact h

theorem offerFrames_tellsTracking (hP : ¬ P .empty) (h : (e.offerFrames v).u.lnk.tellsTracking P) :
    e.u.lnk.tellsTracking P := by
  unfold Ev.offerFrames offer at h
  dsimp only at h
  split at h
  · exact h
  · split at h
    · exact h
    · split at h
      · exact takeInHand_tellsTracking .inl (fun _ ho => by cases ho) h
      · exact takeInHand_tellsTracking .inl (fun _ ho => by cases ho) h
      · exact arbitrate_tellsTracking hP h
      · exact h

/-- The end of an event tells nothing new of tracking. -/
theorem settle_tellsTracking (hP : ¬ P .empty) (h : (settle v e).lnk.tellsTracking P) : e.u.lnk.tellsTracking P := by
  have hu := ended_upholds (.refl v v.running e)
  rw [settle_eq] at h
  exact (tellsTracking_congr hu.tracking hu.inHand).1 (offerFrames_tellsTracking hP h)

/-! ## Block records -/

theorem setBlock_block (f : Block → Block) (i : Nat) (e : Ev) :
    (e.setBlock b f).u.block i = if i = b ∧ b < e.u.bkt.blocks.length then f (e.u.block b) else e.u.block i := by
  simp only [Units.block, Ev.setBlock, List.getD_eq_getElem?_getD, List.getElem?_modify]
  by_cases hi : b = i
  · subst hi
    by_cases hl : b < e.u.bkt.blocks.length <;> simp [hl]
  · simp [hi, Ne.symm hi]

theorem publish_block (i : Nat) (e : Ev) : (e.publish v b).u.block i = e.u.block i := by
  rw [Units.block, publish_bkt]
  rfl

theorem setTrain_block {t : Tag} {d : Dir} (hb : b < e.u.bkt.blocks.length) (i : Nat) :
    (e.setTrain v b t d).u.block i = if i = b then { e.u.block b with tag := t, dir := d } else e.u.block i := by
  have hset : ((e.setBlock b fun x => { x with tag := t, dir := d }).publish v b).u.block i
      = if i = b then { e.u.block b with tag := t, dir := d } else e.u.block i := by
    rw [publish_block, setBlock_block]
    simp [hb]
  unfold Ev.setTrain
  dsimp only
  split
  next h =>
    obtain ⟨rfl, rfl⟩ := h
    split
    next hi => rw [hi]
    · rfl
  · split
    · exact hset
    · exact hset

theorem setOccupied_u {o : Bool} (h : (e.u.block b).occupied ≠ o) :
    (e.setOccupied v b o).u = ((e.setBlock b fun x => { x with occupied := o }).publish v b).u := by
  simp only [Ev.setOccupied, if_neg h]
  split <;> split <;> rfl

/-- Blocks that agree in their trains, as frames say it. -/
theorem train_of_agree {u' : Units} (h : Part.agree u u' .occupancy) (i : Nat) : (u'.block i).train = (u.block i).train := by
  have hmap (w : Units) : (w.block i).train = (w.bkt.blocks.map Block.train).getD i Block.initial.train :=
    (List.getD_map ..).symm
  rw [hmap, hmap, h]

theorem occupied_of_train {x : Block} {o : Bool} {t : Tag} {d : Dir} (h : x.train = (o, t, d)) : x.occupied = o :=
  congrArg Prod.fst h

theorem named_of_train {x : Block} {o : Bool} {t : Tag} {d : Dir} (h : x.train = (o, t, d)) :
    (x.tag, x.dir) = (t, d) := congrArg Prod.snd h

theorem tellsTracking_of_goes {ps : List Part} {u' : Units} (g : Goes ps u u')
    (hp : ∀ p ∈ [Part.slots, .transmitter], p ∉ ps := by decide) :
    u'.lnk.tellsTracking P ↔ u.lnk.tellsTracking P := by
  have hs : Part.agree u u' .slots := g.keeps _ (hp _ (by decide))
  have ht : Part.agree u u' .transmitter := g.keeps _ (hp _ (by decide))
  exact tellsTracking_congr hs.2.1 ht.2.2.1

theorem setFilter_filter {n : Nat} (x : DetectorFilter) (hn : n < e.u.filters.length) (i : Nat) :
    (e.setFilter n fun _ => x).u.filter i = if i = n then x else e.u.filter i := by
  simp only [Units.filter, setFilter_u_filters, List.getD_eq_getElem?_getD, List.getElem?_modify]
  by_cases hi : n = i
  · subst hi
    simp [hn]
  · simp [hi, Ne.symm hi]

/-! ## OCCUPIED events (R6, R21 to R24, R31) -/

/-- R21, R24, R31: the three things that the tracker does on an OCCUPIED event. -/
theorem trackOccupied_cases (v : Env) (b : Nat) (e : Ev) :
    (∃ c, (v.deck == some b) = true ∧ e.u.trk.carry = some c
      ∧ e.trackOccupied v b = (e.setTrain v b c.tag c.dir).setCarry none)
    ∨ (¬ ((v.deck == some b) = true ∧ e.u.trk.carry.isSome = true)
      ∧ ((∃ x, (routeSource v e.u b).or (neighbourSource v e.u b) = some x
          ∧ e.trackOccupied v b = e.setTrain v b x.1 x.2)
        ∨ ((routeSource v e.u b).or (neighbourSource v e.u b) = none
          ∧ e.trackOccupied v b = (e.setTrain v b .unknown .unknown).link (Link.addStray b)))) := by
  unfold Ev.trackOccupied
  split
  next c hd hc => exact .inl ⟨c, hd, hc, rfl⟩
  next hn =>
    refine .inr ⟨fun ⟨hd, hc⟩ => ?_, ?_⟩
    · obtain ⟨c, hc⟩ := Option.isSome_iff_exists.1 hc
      exact hn c hd hc
    · split
      next t d hx => exact .inl ⟨(t, d), hx, rfl⟩
      next hx => exact .inr ⟨hx, rfl⟩

/-- R6, R21: the block's own record and the Train Tracker at an OCCUPIED event. -/
def Ev.occupiedTrain (v : Env) (b : Nat) (e : Ev) : Ev := (e.setOccupied v b true).trackOccupied v b

/-- R22, R23: the blocks and the mirrors are all that the sources of a tag read of trains. -/
theorem trainAt_congr {u' : Units} (h : u'.bkt = u.bkt) : u'.trainAt = u.trainAt := by
  funext r
  cases r <;> simp [Units.trainAt, Units.block, Units.bmirror, h]

theorem routeSource_congr {u' : Units} (hb : u'.bkt = u.bkt) (hi : u'.ilk = u.ilk) :
    routeSource v u' b = routeSource v u b := by
  have hblock : u'.block b = u.block b := by rw [Units.block, hb, Units.block]
  have hroute (n : Nat) : u'.route n = u.route n := by rw [Units.route, hi, Units.route]
  unfold routeSource
  rw [hblock, trainAt_congr hb]
  simp only [hroute]

theorem neighbourSource_congr {u' : Units} (h : u'.bkt = u.bkt) : neighbourSource v u' b = neighbourSource v u b := by
  simp only [neighbourSource, trainAt_congr h]

theorem publish_ilk (e : Ev) : (e.publish v b).u.ilk = e.u.ilk := by
  unfold Ev.publish
  split <;> rfl

theorem publish_trk (e : Ev) : (e.publish v b).u.trk = e.u.trk := by
  unfold Ev.publish
  split <;> rfl

/-- R21 to R24, R31: the train that a CLEAR block is told to hold at an OCCUPIED event, the deck carry, and strays. The
sources are read with the block OCCUPIED. -/
theorem occupiedTrain_cases (hb : b < e.u.bkt.blocks.length) (ho : (e.u.block b).occupied = false) :
    let u := (e.setBlock b fun x => { x with occupied := true }).u
    let told := ∀ P, (e.occupiedTrain v b).u.lnk.tellsTracking P ↔ e.u.lnk.tellsTracking P
    (∃ c, (v.deck == some b) = true ∧ e.u.trk.carry = some c ∧ (e.occupiedTrain v b).u.trk.carry = none
      ∧ ((e.occupiedTrain v b).u.block b).train = (true, c.tag, c.dir) ∧ told)
    ∨ (¬ ((v.deck == some b) = true ∧ e.u.trk.carry.isSome = true)
      ∧ (e.occupiedTrain v b).u.trk.carry = e.u.trk.carry
      ∧ ((∃ x, (routeSource v u b).or (neighbourSource v u b) = some x
          ∧ ((e.occupiedTrain v b).u.block b).train = (true, x.1, x.2) ∧ told)
        ∨ ((routeSource v u b).or (neighbourSource v u b) = none
          ∧ ((e.occupiedTrain v b).u.block b).train = (true, .unknown, .unknown)
          ∧ (e.occupiedTrain v b).u.lnk.tellsStray b))) := by
  intro u told
  have hu := setOccupied_u (v := v) (e := e) (b := b) (o := true) (by simp [ho])
  have hbkt : (e.setOccupied v b true).u.bkt = u.bkt := by rw [hu, publish_bkt]
  have hilk : (e.setOccupied v b true).u.ilk = u.ilk := by rw [hu, publish_ilk]
  have htrk : (e.setOccupied v b true).u.trk = e.u.trk := by
    rw [hu, publish_trk]
    rfl
  have hl : b < (e.setOccupied v b true).u.bkt.blocks.length := by
    rw [hbkt]
    simpa [u, Ev.setBlock] using hb
  have hon := setOccupied_block v b e hl
  have train (t : Tag) (d : Dir) : (((e.setOccupied v b true).setTrain v b t d).u.block b).train = (true, t, d) := by
    rw [setTrain_block hl]
    simp [Block.train, hon]
  have keeps (t : Tag) (d : Dir) := (setOccupied_goes v b e).trans
    (setTrain_goes v b t d (e.setOccupied v b true) fun _ => .inl hon)
  have carry (t : Tag) (d : Dir) : ((e.setOccupied v b true).setTrain v b t d).u.trk.carry = e.u.trk.carry :=
    (keeps t d).keeps .carry (by decide)
  have hroute := routeSource_congr (v := v) (b := b) hbkt hilk
  have hnear := neighbourSource_congr (v := v) (b := b) hbkt
  rcases trackOccupied_cases v b (e.setOccupied v b true) with ⟨c, hd, hc, he⟩ | ⟨hn, hx⟩
  · have he' : e.occupiedTrain v b = _ := he
    refine .inl ⟨c, hd, htrk ▸ hc, by rw [he']; rfl, by rw [he']; exact train _ _, fun P => ?_⟩
    rw [he']
    exact tellsTracking_of_goes (Goes.after (ps := [.occupancy, .marks, .carry]) ((keeps c.tag c.dir).mono (by decide))
      (setCarry_goes none _) (by decide))
  · rw [htrk] at hn
    rw [hroute, hnear] at hx
    refine .inr ⟨hn, ?_⟩
    rcases hx with ⟨x, hx, he⟩ | ⟨hx, he⟩
    · have he' : e.occupiedTrain v b = _ := he
      rw [he']
      refine ⟨carry _ _, .inl ⟨x, hx, train _ _, fun P => ?_⟩⟩
      rw [he']
      exact tellsTracking_of_goes (keeps x.1 x.2)
    · have he' : e.occupiedTrain v b = _ := he
      rw [he']
      exact ⟨carry _ _, .inr ⟨hx, train _ _, .inl (by simp [Link.addStray])⟩⟩

theorem occupiedTrain_block (hb : b < e.u.bkt.blocks.length) (ho : (e.u.block b).occupied = false) {i : Nat}
    (hi : i ≠ b) : (e.occupiedTrain v b).u.block i = e.u.block i := by
  have hu := setOccupied_u (v := v) (e := e) (b := b) (o := true) (by simp [ho])
  have hset : (e.setOccupied v b true).u.block i = e.u.block i := by
    rw [hu, publish_block, setBlock_block, if_neg fun h => hi h.1]
  have hl : b < (e.setOccupied v b true).u.bkt.blocks.length := by
    rw [hu, publish_bkt]
    simpa [Ev.setBlock] using hb
  have train (t : Tag) (d : Dir) : ((e.setOccupied v b true).setTrain v b t d).u.block i = e.u.block i := by
    rw [setTrain_block hl, if_neg hi, hset]
  unfold Ev.occupiedTrain
  rcases trackOccupied_cases v b (e.setOccupied v b true) with ⟨_, _, _, he⟩ | ⟨_, ⟨_, _, he⟩ | ⟨_, he⟩⟩
  all_goals
    rw [he]
    exact train _ _

/-- R6: what the other units do at an OCCUPIED event. -/
theorem occupied_after (v : Env) (b : Nat) (e : Ev) :
    Ev.Goes [.routes, .claimTable, .control] (e.occupiedTrain v b) (e.occupied v b) :=
  ((((claimsOccupied_goes b _).mono (by decide)).after (routesOccupied_goes v b _) (by decide)).after
    (occupancyReaches_goes v b _) (by decide)).after (approachChanged_goes v _ _) (by decide)

theorem setOccupied_reports {o : Bool} (hr : v.running = true) (hp : v.cfg.published b = true)
    (h : (e.u.block b).occupied ≠ o) : (e.setOccupied v b o).u.lnk.reports b := by
  rw [setOccupied_u h]
  exact publish_reports hr hp _

/-- R22, R23: the sources of a tag, as they are seen in a block or a mirror. -/
theorem trainAt_eq (r : BlockRef) : u.trainAt r = match r with
    | .here a => match (u.block a).occupied, (u.block a).tag with
      | true, .known n => some (n, (u.block a).dir)
      | _, _ => none
    | .mirror i => match (u.bmirror i).freshness, (u.bmirror i).occupied, (u.bmirror i).tag with
      | .fresh, true, .known n => some (n, (u.bmirror i).dir)
      | _, _, _ => none := by
  cases r with
  | here a =>
    cases ho : (u.block a).occupied <;> cases ht : (u.block a).tag <;> simp [Units.trainAt, ho, ht]
  | mirror i =>
    cases hf : (u.bmirror i).freshness <;> cases ho : (u.bmirror i).occupied <;> cases ht : (u.bmirror i).tag
      <;> simp [Units.trainAt, hf, ho, ht]

end

/-- R23: what the neighbours of a block have to say together. -/
theorem neighbourSource_cons {v : Env} {u : Units} {b n : Nat} {d : Dir} {rest : List (Nat × Dir)}
    (h : (v.cfg.block b).neighbours.filterMap u.trainAt = (n, d) :: rest) :
    neighbourSource v u b = if ∀ y ∈ rest, y.1 = n then some (.known n, if ∀ y ∈ rest, y.2 = d then d else .unknown)
      else none := by
  unfold neighbourSource
  rw [h]
  simp only [List.all_eq_true, beq_iff_eq]

theorem neighbourSource_nil {v : Env} {u : Units} {b : Nat}
    (h : (v.cfg.block b).neighbours.filterMap u.trainAt = []) : neighbourSource v u b = none := by
  unfold neighbourSource
  rw [h]

/-- R22: the route source, read off the block's holder. -/
theorem routeSource_eq (v : Env) (u : Units) (b : Nat) : routeSource v u b = match (u.block b).holder with
    | .route n => (v.cfg.route n).bind fun r =>
      if (u.route n).state = .set ∨ (u.route n).state = .approachHeld ∨ (u.route n).state = .inUse then
        ((precedingRef v.cfg r b).bind u.trainAt).map fun x => (.known x.1, r.dir)
      else none
    | _ => none := by
  unfold routeSource
  cases (u.block b).holder with
  | route n =>
    dsimp only
    cases v.cfg.route n with
    | none => rfl
    | some r =>
      dsimp only [Option.bind_some]
      cases (u.route n).state <;> simp [RouteState.serves]
  | _ => rfl

section
variable {s : State} {b : Nat}

/-- R1: the rise filter of a block counts its time. -/
def riseEvent (b : Nat) (v : Env) (e : Ev) : Ev := e.riseExpiry v b

/-- R6: the units at an OCCUPIED event, its detector's filter being OCCUPIED. -/
def State.risen (s : State) (b : Nat) : Ev := (Ev.start s.units).setFilter b fun _ => ⟨.occupied, none⟩

theorem riseEvent_eq (hx : (s.units.filter b).state = .rising) :
    riseEvent b s.env (.start s.units) = (s.risen b).occupied s.env b := if_pos hx

/-- R6: what follows an OCCUPIED event's train when neither a request nor a move waits. -/
theorem riseEvent_after (hx : (s.units.filter b).state = .rising) (hw : s.units.nothingWaits) :
    Goes Part.ofCalm ((s.risen b).occupied s.env b).u (s.event (riseEvent b)).units := by
  have hwhole := riseExpiry_goes s.env b (.start s.units)
  have hq : (riseEvent b s.env (.start s.units)).u.ttc.queue = [] :=
    (congrArg Turntable.queue (hwhole.keeps .table (by decide))).trans hw.2
  have hl : (riseEvent b s.env (.start s.units)).u.ilk.waiting = [] :=
    (hwhole.keeps .waiting (by decide)).trans hw.1
  exact riseEvent_eq hx ▸ settle_calm (.inr hq) (.inr hl)

theorem riseEvent_goes (hx : (s.units.filter b).state = .rising) (hw : s.units.nothingWaits) :
    Goes ([.routes, .claimTable, .control] ++ Part.ofCalm) ((s.risen b).occupiedTrain s.env b).u
      (s.event (riseEvent b)).units :=
  Goes.after ((occupied_after s.env b (s.risen b)).mono (by decide)) (riseEvent_after hx hw) (by decide)

/-- The end of the event tells of no stray that the tracker has not told. -/
theorem riseEvent_tellsStray (hx : (s.units.filter b).state = .rising)
    (h : (s.event (riseEvent b)).units.lnk.tellsStray b) : ((s.risen b).occupiedTrain s.env b).u.lnk.tellsStray b := by
  have hs : (settle s.env ((s.risen b).occupied s.env b)).lnk.tellsTracking fun c => b ∈ c.stray :=
    tellsStray_iff.1 (riseEvent_eq hx ▸ h)
  exact (tellsTracking_of_goes (occupied_after s.env b (s.risen b))).1 (settle_tellsTracking (by simp [TrackingSlot.empty]) hs)

/-- R21 to R24, R31: `occupiedTrain_cases`, as the whole event leaves it. -/
theorem riseEvent_cases (hz : s.units.sized) (hb : b < 48) (hw : s.units.nothingWaits)
    (hx : (s.units.filter b).state = .rising) (ho : (s.units.block b).occupied = false) :
    let u := { s.units with bkt.blocks := s.units.bkt.blocks.modify b fun x => { x with occupied := true } }
    let t := (s.event (riseEvent b)).units
    let told := t.lnk.tellsStray b → s.units.lnk.tellsStray b
    (∃ c, (s.env.deck == some b) = true ∧ s.units.trk.carry = some c ∧ t.trk.carry = none
      ∧ (t.block b).train = (true, c.tag, c.dir) ∧ told)
    ∨ (¬ ((s.env.deck == some b) = true ∧ s.units.trk.carry.isSome = true) ∧ t.trk.carry = s.units.trk.carry
      ∧ ((∃ x, (routeSource s.env u b).or (neighbourSource s.env u b) = some x
          ∧ (t.block b).train = (true, x.1, x.2) ∧ told)
        ∨ ((routeSource s.env u b).or (neighbourSource s.env u b) = none
          ∧ (t.block b).train = (true, .unknown, .unknown) ∧ t.lnk.tellsStray b))) := by
  intro u t told
  have hg := riseEvent_goes hx hw
  have htrain := train_of_agree (hg.keeps .occupancy (by decide)) b
  have hcarry : t.trk.carry = _ := hg.keeps .carry (by decide)
  have hbl : b < (s.risen b).u.bkt.blocks.length := lt_of_lt_of_eq hb hz.2.1.symm
  rcases occupiedTrain_cases (v := s.env) hbl ho with ⟨c, hd, hc, hn, ht, hi⟩ | ⟨hn, hc, ⟨x, hs, ht, hi⟩ | ⟨hs, ht, hi⟩⟩
  · exact .inl ⟨c, hd, hc, hcarry.trans hn, htrain.trans ht, fun h => (hi fun c => b ∈ c.stray).1 (riseEvent_tellsStray hx h)⟩
  · exact .inr ⟨hn, hcarry.trans hc, .inl ⟨x, hs, htrain.trans ht, fun h => (hi fun c => b ∈ c.stray).1 (riseEvent_tellsStray hx h)⟩⟩
  · exact .inr ⟨hn, hcarry.trans hc, .inr ⟨hs, htrain.trans ht, hg.onward.stray b hi⟩⟩

theorem riseEvent_filter (hz : s.units.sized) (hb : b < 48) (hw : s.units.nothingWaits)
    (hx : (s.units.filter b).state = .rising) (i : Nat) :
    (s.event (riseEvent b)).units.filter i = if i = b then ⟨.occupied, none⟩ else s.units.filter i := by
  have hf : (s.event (riseEvent b)).units.filters = (s.risen b).u.filters :=
    ((riseEvent_after hx hw).keeps .filters (by decide)).trans
      ((occupied_goes s.env b (s.risen b)).keeps .filters (by decide))
  rw [Units.filter, hf]
  exact setFilter_filter _ (lt_of_lt_of_eq hb hz.1.symm) i

theorem riseEvent_reports (hr : s.env.running = true) (hp : s.env.cfg.published b = true)
    (hw : s.units.nothingWaits) (hx : (s.units.filter b).state = .rising)
    (ho : (s.units.block b).occupied = false) : (s.event (riseEvent b)).units.lnk.reports b := by
  have hbl : b < ((s.risen b).setOccupied s.env b true).u.bkt.blocks.length → _ :=
    setOccupied_block s.env b (s.risen b)
  have hm : ((s.risen b).setOccupied s.env b true).u.lnk.reports b :=
    setOccupied_reports hr hp (show (s.units.block b).occupied ≠ true by simp [ho])
  exact (riseEvent_goes hx hw).onward.blocks b ((trackOccupied_goes s.env b _ hbl).onward.blocks b hm)

end

section
variable {v : Env} {e : Ev} {s : State} {b n : Nat}

/-! ## CLEAR events (R6, R20, R25, R30) -/

/-- R6, R20: the block is CLEAR, and tag and direction are dropped. -/
def Ev.emptied (v : Env) (b : Nat) (e : Ev) : Ev := (e.setOccupied v b false).setTrain v b .none .unknown

theorem setOccupied_block_eq {o : Bool} (h : (e.u.block b).occupied ≠ o) (i : Nat) :
    (e.setOccupied v b o).u.block i
      = if i = b ∧ b < e.u.bkt.blocks.length then { e.u.block b with occupied := o } else e.u.block i := by
  rw [setOccupied_u h, publish_block, setBlock_block]

theorem emptied_block (hb : b < e.u.bkt.blocks.length) (ho : (e.u.block b).occupied = true) (i : Nat) :
    ((e.emptied v b).u.block i).train = if i = b then (false, .none, .unknown) else (e.u.block i).train := by
  have hne : (e.u.block b).occupied ≠ false := by simp [ho]
  have hl : b < (e.setOccupied v b false).u.bkt.blocks.length := by
    rw [setOccupied_u hne, publish_bkt]
    simpa [Ev.setBlock] using hb
  rw [Ev.emptied, setTrain_block hl]
  by_cases hi : i = b
  · simp [hi, Block.train, setOccupied_block_eq hne, hb]
  · simp [hi, setOccupied_block_eq hne]

/-- R25, R30: the tracker looks for a known tag that the block held, unless the deck carry keeps it. -/
theorem clearedTrain_eq (hb : b < e.u.bkt.blocks.length) (ho : (e.u.block b).occupied = true) :
    e.clearedTrain v b = if (v.deck == some b && e.u.trk.carry.isSome) = true then e.emptied v b
      else match (e.u.block b).tag with
        | .known n => (e.emptied v b).searchTag v b n
        | _ => e.emptied v b := by
  have hne : (e.u.block b).occupied ≠ false := by simp [ho]
  have htag : ((e.setOccupied v b false).u.block b).tag = (e.u.block b).tag := by
    simp [setOccupied_block_eq hne, hb]
  have hcarry : (e.emptied v b).u.trk.carry = e.u.trk.carry := (clearTrain_goes v b e).keeps .carry (by decide)
  unfold Ev.clearedTrain Ev.trackClear
  rw [htag, ← hcarry]
  rfl

theorem searchTag_of_found {r : BlockRef} (hr : r ∈ (v.cfg.block b).neighbours)
    (h : (e.u.trainAt r).map Prod.fst = some n) : e.searchTag v b n = e :=
  if_pos (List.any_eq_true.2 ⟨r, hr, by simp [h]⟩)

theorem searchTag_of_unsure {i : Nat} (hr : .mirror i ∈ (v.cfg.block b).neighbours)
    (h : (e.u.bmirror i).freshness ≠ .fresh) : e.searchTag v b n = e := by
  have hu : (v.cfg.block b).neighbours.any (fun r => match r with
      | .mirror i => (e.u.bmirror i).freshness != .fresh
      | .here _ => false) = true := List.any_eq_true.2 ⟨_, hr, by simpa using h⟩
  unfold Ev.searchTag
  by_cases hf : ((v.cfg.block b).neighbours.any fun r => (e.u.trainAt r).map Prod.fst == some n) = true
  · exact if_pos hf
  · exact (if_neg hf).trans (if_pos hu)

theorem searchTag_of_lost (hf : ∀ r ∈ (v.cfg.block b).neighbours, (e.u.trainAt r).map Prod.fst ≠ some n)
    (hu : ∀ i, .mirror i ∈ (v.cfg.block b).neighbours → (e.u.bmirror i).freshness = .fresh) :
    e.searchTag v b n = e.link (Link.addLostTag b) := by
  unfold Ev.searchTag
  dsimp only
  rw [if_neg, if_neg]
  · simp only [List.any_eq_true, not_exists, not_and]
    rintro (a | i) hr
    · exact nofun
    · simp [hu i hr]
  · simpa using hf

/-- R22, R25: a known tag is seen in a block or a mirror. -/
theorem trainAt_known {u : Units} (r : BlockRef) : (u.trainAt r).map Prod.fst = some n ↔ match r with
    | .here a => (u.block a).occupied = true ∧ (u.block a).tag = .known n
    | .mirror i => (u.bmirror i).freshness = .fresh ∧ (u.bmirror i).occupied = true ∧ (u.bmirror i).tag = .known n := by
  cases r with
  | here a =>
    simp only [Units.trainAt]
    cases (u.block a).occupied <;> cases (u.block a).tag <;> simp
  | mirror i =>
    simp only [Units.trainAt]
    cases (u.bmirror i).freshness <;> cases (u.bmirror i).occupied <;> cases (u.bmirror i).tag <;> simp

/-- R25: where a tag that has left block `b` is still seen: not in `b` itself, which is CLEAR. -/
theorem emptied_trainAt (hb : b < e.u.bkt.blocks.length) (ho : (e.u.block b).occupied = true) (r : BlockRef) :
    ((e.emptied v b).u.trainAt r).map Prod.fst = some n ↔ match r with
      | .here a => a ≠ b ∧ (e.u.block a).occupied = true ∧ (e.u.block a).tag = .known n
      | .mirror i => (e.u.bmirror i).freshness = .fresh ∧ (e.u.bmirror i).occupied = true
          ∧ (e.u.bmirror i).tag = .known n := by
  rw [trainAt_known]
  cases r with
  | here a =>
    have ht := emptied_block (v := v) hb ho a
    by_cases ha : a = b
    · rw [if_pos ha] at ht
      simp [ha, occupied_of_train (ha ▸ ht)]
    · rw [if_neg ha] at ht
      have hn := named_of_train ht
      simp_all [occupied_of_train ht, Block.train]
  | mirror i =>
    have hm := (clearTrain_goes v b e).keeps .mirrors (by decide)
    have hi : (e.emptied v b).u.bmirror i = e.u.bmirror i := by
      rw [Units.bmirror, Units.bmirror]
      exact congrArg (fun l => l.getD i BlockMirror.initial) hm.1
    simp only [hi]

/-- R6: what the other units do at a CLEAR event. -/
theorem cleared_after (v : Env) (b : Nat) (e : Ev) :
    Ev.Goes (.claimTable :: Part.ofSettle) (e.clearedTrain v b) (e.cleared v b) :=
  ((((((claimsClear_goes v b _).mono (by decide)).after (routesClear_goes v b _) (by decide)).after
    (arbiterAtClear_goes v b _) (by decide)).after (departures_goes v b _ _) (by decide)).after
    (occupancyReaches_goes v b _) (by decide)).after (approachChanged_goes v _ _) (by decide)

/-- R25: the tag stands in a neighbour, the block being CLEAR. -/
def Ev.tagHeld (v : Env) (b n : Nat) (e : Ev) : Prop :=
  ∃ r ∈ (v.cfg.block b).neighbours, ((e.emptied v b).u.trainAt r).map Prod.fst = some n

/-- R25: a mirror neighbour is not FRESH. -/
def Ev.tagUnsure (v : Env) (b : Nat) (e : Ev) : Prop :=
  ∃ i, .mirror i ∈ (v.cfg.block b).neighbours ∧ (e.u.bmirror i).freshness ≠ .fresh

/-- R30: the deck carry keeps the train that leaves the block. -/
def Ev.tagCarried (v : Env) (b : Nat) (e : Ev) : Prop := v.deck = some b ∧ e.u.trk.carry.isSome = true

theorem emptied_bmirror (i : Nat) : (e.emptied v b).u.bmirror i = e.u.bmirror i := by
  rw [Units.bmirror, Units.bmirror]
  exact congrArg (fun l => l.getD i BlockMirror.initial) ((clearTrain_goes v b e).keeps .mirrors (by decide)).1

/-- R25: a known tag that is sought and not seen is told as lost. -/
theorem clearedTrain_of_lost (hb : b < e.u.bkt.blocks.length) (ho : (e.u.block b).occupied = true)
    (ht : (e.u.block b).tag = .known n) (hh : ¬ e.tagHeld v b n) (hu : ¬ e.tagUnsure v b) (hc : ¬ e.tagCarried v b) :
    e.clearedTrain v b = (e.emptied v b).link (Link.addLostTag b) := by
  rw [clearedTrain_eq hb ho, if_neg (by simpa [Ev.tagCarried] using hc), ht]
  refine searchTag_of_lost (fun r hr hn => hh ⟨r, hr, hn⟩) fun i hi => ?_
  rw [emptied_bmirror]
  exact not_not.1 fun hf => hu ⟨i, hi, hf⟩

/-- R25, R30: a tag that is seen, may be behind a mirror, or goes with the deck is not told. -/
theorem clearedTrain_of_kept (hb : b < e.u.bkt.blocks.length) (ho : (e.u.block b).occupied = true)
    (h : ∀ n, (e.u.block b).tag = .known n → e.tagHeld v b n ∨ e.tagUnsure v b ∨ e.tagCarried v b) :
    e.clearedTrain v b = e.emptied v b := by
  rw [clearedTrain_eq hb ho]
  split
  · rfl
  next hc =>
    split
    next n ht =>
      rcases h n ht with ⟨r, hr, hn⟩ | ⟨i, hi, hf⟩ | hk
      · exact searchTag_of_found hr hn
      · exact searchTag_of_unsure hi (by rwa [emptied_bmirror])
      · exact absurd hk (by simpa [Ev.tagCarried] using hc)
    · rfl

/-- R25: the trains at a CLEAR event; the search for the tag changes none. -/
theorem clearedTrain_block (hb : b < e.u.bkt.blocks.length) (ho : (e.u.block b).occupied = true) (i : Nat) :
    ((e.clearedTrain v b).u.block i).train = if i = b then (false, .none, .unknown) else (e.u.block i).train := by
  rw [← emptied_block (v := v) hb ho]
  refine train_of_agree ?_ i
  rw [clearedTrain_eq hb ho]
  split
  · exact .refl _
  · split
    · exact (searchTag_goes v b _ _).keeps .occupancy (by decide)
    · exact .refl _

/-- R1: the drop filter of a block counts its time. -/
def dropEvent (b : Nat) (v : Env) (e : Ev) : Ev := e.dropExpiry v b

/-- R6: the units at a CLEAR event, its detector's filter being CLEAR. -/
def State.fallen (s : State) (b : Nat) : Ev := (Ev.start s.units).setFilter b fun _ => ⟨.clear, none⟩

theorem dropEvent_eq (hx : (s.units.filter b).state = .falling) :
    dropEvent b s.env (.start s.units) = (s.fallen b).cleared s.env b := if_pos hx

theorem dropEvent_goes (hx : (s.units.filter b).state = .falling) :
    Goes (.claimTable :: Part.ofSettle) ((s.fallen b).clearedTrain s.env b).u (s.event (dropEvent b)).units :=
  Goes.after (cleared_after s.env b (s.fallen b))
    ((dropEvent_eq hx ▸ settle_goes s.env _ : Goes Part.ofSettle ((s.fallen b).cleared s.env b).u
      (s.event (dropEvent b)).units)) (by decide)

theorem dropEvent_filter (hz : s.units.sized) (hb : b < 48) (hx : (s.units.filter b).state = .falling) (i : Nat) :
    (s.event (dropEvent b)).units.filter i = if i = b then ⟨.clear, none⟩ else s.units.filter i := by
  have hf : (s.event (dropEvent b)).units.filters = (s.fallen b).u.filters :=
    ((dropEvent_goes hx).keeps .filters (by decide)).trans
      ((clearedTrain_goes s.env b (s.fallen b)).keeps .filters (by decide))
  rw [Units.filter, hf]
  exact setFilter_filter _ (lt_of_lt_of_eq hb hz.1.symm) i

theorem dropEvent_block (hz : s.units.sized) (hb : b < 48) (hx : (s.units.filter b).state = .falling)
    (ho : (s.units.block b).occupied = true) (i : Nat) : ((s.event (dropEvent b)).units.block i).train
      = if i = b then (false, .none, .unknown) else (s.units.block i).train :=
  (train_of_agree ((dropEvent_goes hx).keeps .occupancy (by decide)) i).trans
    (clearedTrain_block (e := s.fallen b) (lt_of_lt_of_eq hb hz.2.1.symm) ho i)

theorem dropEvent_reports (hr : s.env.running = true) (hp : s.env.cfg.published b = true)
    (hx : (s.units.filter b).state = .falling) (ho : (s.units.block b).occupied = true) :
    (s.event (dropEvent b)).units.lnk.reports b := by
  have hm : ((s.fallen b).setOccupied s.env b false).u.lnk.reports b :=
    setOccupied_reports hr hp (show (s.units.block b).occupied ≠ false by simp [ho])
  have ht : ((s.fallen b).clearedTrain s.env b).u.lnk.reports b := by
    have he := (setTrain_goes s.env b .none .unknown ((s.fallen b).setOccupied s.env b false)
      fun _ => .inr ⟨rfl, rfl⟩).onward.blocks b hm
    unfold Ev.clearedTrain Ev.trackClear
    dsimp only
    split
    · exact he
    · split
      · exact (searchTag_goes s.env b _ _).onward.blocks b he
      · exact he
  exact (dropEvent_goes hx).onward.blocks b ht

/-- The end of the event tells of no lost tag that the tracker has not told. -/
theorem dropEvent_tellsLostTag (hx : (s.units.filter b).state = .falling)
    (h : (s.event (dropEvent b)).units.lnk.tellsLostTag b) : ((s.fallen b).clearedTrain s.env b).u.lnk.tellsLostTag b := by
  have hs : (settle s.env ((s.fallen b).cleared s.env b)).lnk.tellsTracking fun c => b ∈ c.lost :=
    tellsLostTag_iff.1 (dropEvent_eq hx ▸ h)
  have hu := cleared_upholds (.refl s.env s.env.running ((s.fallen b).clearedTrain s.env b))
  exact (tellsTracking_congr hu.tracking hu.inHand).1 (settle_tellsTracking (by simp [TrackingSlot.empty]) hs)

theorem dropEvent_of_lost (hz : s.units.sized) (hb : b < 48) (hx : (s.units.filter b).state = .falling)
    (ho : (s.units.block b).occupied = true) (ht : (s.units.block b).tag = .known n)
    (hh : ¬ (s.fallen b).tagHeld s.env b n) (hu : ¬ (s.fallen b).tagUnsure s.env b)
    (hc : ¬ (s.fallen b).tagCarried s.env b) : (s.event (dropEvent b)).units.lnk.tellsLostTag b := by
  refine (dropEvent_goes hx).onward.lostTag b ?_
  rw [clearedTrain_of_lost (lt_of_lt_of_eq hb hz.2.1.symm) ho ht hh hu hc]
  exact .inl (by simp [Link.addLostTag])

theorem dropEvent_of_kept (hz : s.units.sized) (hb : b < 48) (hx : (s.units.filter b).state = .falling)
    (ho : (s.units.block b).occupied = true) (h : ∀ n, (s.units.block b).tag = .known n →
      (s.fallen b).tagHeld s.env b n ∨ (s.fallen b).tagUnsure s.env b ∨ (s.fallen b).tagCarried s.env b)
    (hl : (s.event (dropEvent b)).units.lnk.tellsLostTag b) : s.units.lnk.tellsLostTag b := by
  have ht := dropEvent_tellsLostTag hx hl
  rw [clearedTrain_of_kept (lt_of_lt_of_eq hb hz.2.1.symm) ho h] at ht
  have hb' := (tellsTracking_of_goes (P := fun c => b ∈ c.lost)
    ((clearTrain_goes s.env b (s.fallen b)).mono (ps := [.occupancy, .marks]) (by decide))).1 ht
  exact hb'

end

/-- Settles O13: the sources of the tag in their order at a rise, the search for the tag at a drop. -/
theorem detectorsChangeTheirBlocks : Obligations.DetectorsChangeTheirBlocks := by
  refine ⟨fun s b hr hz hb hw hx ho => ?rise, fun s b hr hz hb hx ho => ?drop⟩
  case rise =>
    have hg := riseEvent_goes hx hw
    have hcases := riseEvent_cases hz hb hw hx ho
    have hfilter := riseEvent_filter hz hb hw hx
    have hreports := fun hp => riseEvent_reports (running_env hr) hp hw hx ho
    have hkeeps : s.units.keepsBut ([.filters, .occupancy, .carry, .routes, .claimTable, .control] ++ Part.ofCalm)
        (s.event (riseEvent b)).units :=
      (Goes.after ((riseExpiry_goes s.env b (.start s.units)).mono (by decide))
        (riseEvent_eq hx ▸ riseEvent_after hx hw) (by decide)).keeps
    have hother (i : Nat) (hi : i ≠ b) :
        ((s.event (riseEvent b)).units.block i).train = (s.units.block i).train := by
      rw [train_of_agree (hg.keeps .occupancy (by decide)) i,
        occupiedTrain_block (lt_of_lt_of_eq hb hz.2.1.symm) ho hi]
      rfl
    refine ⟨s.event (riseEvent b), congrArg Host.Outcome.next (whenRunning_of_running hr _),
      by rw [hfilter, if_pos rfl], fun i hi => by rw [hfilter, if_neg hi], ?_, ?_, hother, hreports, hkeeps⟩
    · rcases hcases with ⟨_, _, _, _, ht, _⟩ | ⟨_, _, ⟨_, _, ht, _⟩ | ⟨_, ht, _⟩⟩
      all_goals exact occupied_of_train ht
    · intro u train seen before route near notStray
      have hseen : seen = u.trainAt := funext fun r => (trainAt_eq r).symm
      have hbefore (r : RouteCfg) : before r = precedingRef s.env.cfg r b := by
        simp only [before, precedingRef]
        rcases r.path.idxOf? b with _ | _ | i <;> rfl
      have hroute : route = routeSource s.env u b := by
        rw [routeSource_eq]
        simp only [route, hseen, hbefore]
        rfl
      have hnear : (s.env.cfg.block b).neighbours.filterMap u.trainAt = near := by
        rw [← hseen]
        rfl
      clear_value seen before route near
      rcases hcases with ⟨c, hd, hc, hn, ht, hi⟩ | ⟨hn, hc, hsource⟩
      · rw [hd, hc]
        exact ⟨named_of_train ht, hn, hi⟩
      · split
        next c hd hx => exact absurd ⟨hd, by rw [hx]; rfl⟩ hn
        · refine ⟨hc, ?_⟩
          rw [← hroute] at hsource
          cases hro : route with
          | some y =>
            rw [hro] at hsource
            rcases hsource with ⟨x, hs, ht, hi⟩ | ⟨hs, _⟩
            · cases hs
              exact ⟨named_of_train ht, hi⟩
            · cases hs
          | none =>
            rw [hro, Option.none_or] at hsource
            cases hne : near with
            | nil =>
              rw [neighbourSource_nil (hnear.trans hne)] at hsource
              rcases hsource with ⟨x, hs, _⟩ | ⟨_, ht, hi⟩
              · cases hs
              · exact ⟨named_of_train ht, hi⟩
            | cons y rest =>
              rw [neighbourSource_cons (hnear.trans hne)] at hsource
              refine ⟨fun hall => ?_, fun ⟨z, hz, hne⟩ => ?_⟩
              · rw [if_pos hall] at hsource
                rcases hsource with ⟨x, hs, ht, hi⟩ | ⟨hs, _⟩
                · cases hs
                  exact ⟨named_of_train ht, hi⟩
                · cases hs
              · rw [if_neg fun hall => hne (hall z hz)] at hsource
                rcases hsource with ⟨x, hs, _⟩ | ⟨_, ht, hi⟩
                · cases hs
                · exact ⟨named_of_train ht, hi⟩
  case drop =>
    have hbl : b < (s.fallen b).u.bkt.blocks.length := lt_of_lt_of_eq hb hz.2.1.symm
    have hfilter := dropEvent_filter hz hb hx
    have htrain := dropEvent_block hz hb hx ho
    refine ⟨s.event (dropEvent b), congrArg Host.Outcome.next (whenRunning_of_running hr _),
      by rw [hfilter, if_pos rfl], fun i hi => by rw [hfilter, if_neg hi], by rw [htrain, if_pos rfl],
      fun i hi => by rw [htrain, if_neg hi], ?_, fun hp => dropEvent_reports (running_env hr) hp hx ho, ?_⟩
    · intro held unsure carried
      have hheld (n : Nat) : held n ↔ (s.fallen b).tagHeld s.env b n :=
        exists_congr fun r => and_congr_right fun _ => (emptied_trainAt (e := s.fallen b) hbl ho r).symm
      have hunsure : unsure ↔ (s.fallen b).tagUnsure s.env b := by
        constructor
        · rintro ⟨a | i, hr, hf⟩
          · exact hf.elim
          · exact ⟨i, hr, hf⟩
        · rintro ⟨i, hr, hf⟩
          exact ⟨.mirror i, hr, hf⟩
      have hcarried : carried ↔ (s.fallen b).tagCarried s.env b := Iff.rfl
      clear_value held unsure carried
      split
      next n ht =>
        rw [hheld, hunsure, hcarried]
        refine ⟨dropEvent_of_lost hz hb hx ho ht, fun h => dropEvent_of_kept hz hb hx ho fun m hm => ?_⟩
        cases ht.symm.trans hm
        exact h
      all_goals
        next ht => exact dropEvent_of_kept hz hb hx ho fun m hm => by cases ht.symm.trans hm
    · have hg : Goes ([.filters, .occupancy, .claimTable] ++ Part.ofSettle) s.units (s.event (dropEvent b)).units :=
        Goes.after ((dropExpiry_goes s.env b (.start s.units)).mono (by decide))
          (settle_goes s.env (dropEvent b s.env (.start s.units))) (by decide)
      exact fun p hp => hg.keeps p (by revert p; decide)

end Sys2Proof.Machine


/-! The entry into RUNNING (O11): every input is read once, while every unit is at rest. -/

namespace Sys2Proof.Machine

set_option Elab.async false

section
variable {v : Env} {e : Ev} {u : Units}

/-! ## Records read one after the other -/

/-- A loop that changes the records of one list, each by its own function, under an invariant of the event. -/
theorem foldl_modify_getElem? {α : Type} {I : Ev → Prop} {get : Ev → List α} {g : Ev → Nat → Ev} {F : Nat → α → α}
    (keep : ∀ e k, I e → I (g e k)) (step : ∀ e k, I e → get (g e k) = (get e).modify k (F k)) (he : I e) (n i : Nat) :
    (get ((List.range n).foldl g e))[i]? = if i < n then (get e)[i]?.map (F i) else (get e)[i]? := by
  induction n with
  | zero => simp
  | succ n ih =>
    have hi : I ((List.range n).foldl g e) := List.foldlRecOn _ g he fun e h k _ => keep e k h
    rw [List.range_succ, List.foldl_append, List.foldl_cons, List.foldl_nil, step _ _ hi, List.getElem?_modify, ih]
    by_cases hn : n = i
    · subst hn
      simp
    · simp [hn, show i < n + 1 ↔ i < n by omega]

theorem foldl_modify_getD {α : Type} {I : Ev → Prop} {get : Ev → List α} {g : Ev → Nat → Ev} {F : Nat → α → α}
    (keep : ∀ e k, I e → I (g e k)) (step : ∀ e k, I e → get (g e k) = (get e).modify k (F k)) (he : I e) (n i : Nat)
    (hl : (get e).length = n) (d : α) :
    (get ((List.range n).foldl g e)).getD i d = if i < n then F i ((get e).getD i d) else (get e).getD i d := by
  rw [List.getD_eq_getElem?_getD, foldl_modify_getElem? keep step he]
  split
  next hi => simp [hl ▸ hi]
  · rw [List.getD_eq_getElem?_getD]

/-! ## Detectors (R3, R5) -/

/-- R3: what the start reading makes of a detector's filter. -/
def DetectorFilter.read (k : BlockKind) (active : Bool) (x : DetectorFilter) : DetectorFilter :=
  if k = .absent then x else ⟨if active then .occupied else .clear, none⟩

/-- R3, R5: what the start reading makes of a block. -/
def Block.read (k : BlockKind) (active : Bool) (x : Block) : Block :=
  if k = .absent then x else { x with
    occupied := active, tag := if active then .unknown else .none, dir := .unknown }

theorem readDetectors_filter (v : Env) (hz : e.u.filters.length = 48) (b : Nat) :
    (e.readDetectors v).u.filter b = if b < 48 then
      (e.u.filter b).read (v.cfg.block b).kind (v.pins.detectors.getD b false) else e.u.filter b := by
  refine foldl_modify_getD (I := fun _ => True) (get := fun e => e.u.filters)
    (F := fun b x => x.read (v.cfg.block b).kind (v.pins.detectors.getD b false)) (fun _ _ _ => trivial)
    (fun e b _ => ?_) trivial 48 b hz .initial
  unfold DetectorFilter.read
  split
  · exact (List.modify_id ..).symm
  · rfl

theorem readDetectors_block (v : Env) (hz : e.u.bkt.blocks.length = 48) (b : Nat) :
    (e.readDetectors v).u.block b = if b < 48 then
      (e.u.block b).read (v.cfg.block b).kind (v.pins.detectors.getD b false) else e.u.block b := by
  refine foldl_modify_getD (I := fun _ => True) (get := fun e => e.u.bkt.blocks)
    (F := fun b x => x.read (v.cfg.block b).kind (v.pins.detectors.getD b false)) (fun _ _ _ => trivial)
    (fun e b _ => ?_) trivial 48 b hz .initial
  unfold Block.read
  split
  · exact (List.modify_id ..).symm
  · rfl

/-! ## Contacts (R37, R46) -/

/-- Before RUNNING: every turnout is at rest, no throw waits, every route is IDLE and no signal has an evaluated route. -/
structure Ev.AtRest (e : Ev) : Prop where
  throws   : e.u.tdu.queue = []
  turnouts : ∀ t, (e.u.turnout t).Rests
  routes   : ∀ n, (e.u.route n).state = .idle
  signals  : ∀ n, (e.u.signal n).route = none

/-- Units that agree in throws, routes and signals are at rest with one another; the turnouts are told apart. -/
theorem Ev.AtRest.of_turnouts {ps : List Part} {b : Ev} (h : e.AtRest) (g : Ev.Goes ps e b)
    (ht : ∀ t, (b.u.turnout t).Rests) (hp : ∀ p ∈ [Part.throws, .routes, .control], p ∉ ps := by decide) : b.AtRest where
  throws := (g.keeps .throws (hp _ (by decide))).trans h.throws
  turnouts := ht
  routes n := by
    have hr : b.u.ilk.routes = e.u.ilk.routes := g.keeps .routes (hp _ (by decide))
    rw [Units.route, hr]
    exact h.routes n
  signals n := by
    have hs : b.u.ase.signals.map Signal.kept = e.u.ase.signals.map Signal.kept := g.keeps .control (hp _ (by decide))
    have kept (w : Units) : (w.signal n).kept = (w.ase.signals.map Signal.kept).getD n Signal.initial.kept :=
      (List.getD_map ..).symm
    have hn : (b.u.signal n).kept = (e.u.signal n).kept := by rw [kept, kept, hs]
    exact (congrArg Prod.fst hn).trans (h.signals n)

theorem Ev.AtRest.setTurnout {t : Nat} {f : Turnout → Turnout} (h : e.AtRest) (hf : ∀ x : Turnout, x.Rests → (f x).Rests) :
    (e.setTurnout t f).AtRest := by
  refine h.of_turnouts (setTurnout_goes t f e) fun k => ?_
  rw [setTurnout_turnout]
  split
  · exact hf _ (h.turnouts t)
  · exact h.turnouts k

theorem Ev.AtRest.setSame {b : Ev} {ps : List Part} (h : e.AtRest) (g : Ev.Goes ps e b)
    (hp : ∀ p ∈ [Part.turnouts, .throws, .routes, .control], p ∉ ps := by decide) : b.AtRest := by
  refine h.of_turnouts g (fun t => ?_) (avoids_of hp)
  have ht : b.u.tdu.turnouts = e.u.tdu.turnouts := g.keeps .turnouts (hp _ (by decide))
  rw [Units.turnout, ht]
  exact h.turnouts t

theorem turnoutReaches_of_dark (h : ∀ n, (e.u.signal n).route = none) (t : Nat) : e.turnoutReaches v t = e :=
  List.foldlRecOn _ _ (motive := fun x => x = e) rfl fun x hx n _ => by simp [hx, h]

theorem turnoutChanged_of_rest (h : e.AtRest) (t : Nat) : e.turnoutChanged v t = e := by
  unfold Ev.turnoutChanged
  rw [turnoutReaches_of_dark h.signals]
  refine List.foldlRecOn _ _ (motive := fun x => x = e) rfl fun x hx n _ => ?_
  subst hx
  unfold Ev.routeMeetsTurnout
  split
  · rfl
  · split
    · simp [h.routes]
    · rfl

/-- R46, R50: a turnout at rest enters FAILED: record, masks and cause. -/
def Ev.failsAtRest (v : Env) (t : Nat) (e : Ev) : Ev :=
  (((e.setTurnout t fun x => { x with state := .failed, drive := none }).link (Link.addFailedTurnout t)).writeFault
    .contactsBoth (.turnout t)).raiseTurnout v t

theorem failsAtRest_after (v : Env) (t : Nat) (e : Ev) : Ev.Goes [.record, .slots]
    (e.setTurnout t fun x => { x with state := .failed, drive := none }) (e.failsAtRest v t) :=
  (((link_addFailedTurnout_goes t _).mono (by decide)).after (writeFault_goes _ _ _) (by decide)).after
    (raiseTurnout_goes v t _) (by decide)

theorem failed_rests {t : Nat} (h : e.AtRest) : (e.setTurnout t fun x => { x with state := .failed, drive := none }).AtRest :=
  h.setTurnout fun _ hx => ⟨by simp, by simp, rfl, hx.noRequester⟩

theorem failsAtRest_rests {t : Nat} (h : e.AtRest) : (e.failsAtRest v t).AtRest :=
  (failed_rests h).setSame (failsAtRest_after v t e)

/-- Nobody waits for a turnout at rest, and no route and no signal follows it. -/
theorem enterFailed_of_rest {t : Nat} (h : e.AtRest) : e.enterFailed v t .contactsBoth = e.failsAtRest v t := by
  have hq : (e.setThrows fun q => q.filter fun x => x.1 != t) = e := by
    rw [Ev.setThrows, h.throws, List.filter_nil, ← h.throws]
  have hr : (e.setTurnout t fun x => { x with state := .failed, drive := none }).settleRequester v t .throwFailed
      = e.setTurnout t fun x => { x with state := .failed, drive := none } := by
    rw [Ev.settleRequester, ((failed_rests h).turnouts t).noRequester]
  have hc : (e.failsAtRest v t).turnoutChanged v t = e.failsAtRest v t := turnoutChanged_of_rest (failsAtRest_rests h) t
  unfold Ev.enterFailed
  dsimp only
  rw [hq, hr, if_neg fun hm => (h.turnouts t).notMoving hm.1]
  exact hc

/-- R37, R46: what the start reading makes of a turnout. -/
def Turnout.read (c : Option TurnoutCfg) (normal reverse : Bool) (x : Turnout) : Turnout := match c with
  | none => x
  | some c =>
    let y := x.start c.feedback normal reverse
    if contradicts c.feedback normal reverse then { y with state := .failed, drive := none } else y

/-- R37, R46: the contacts of one configured turnout are read. -/
def Ev.readContact (v : Env) (e : Ev) (t : Nat) : Ev := match v.cfg.turnout t with
  | none => e
  | some c =>
    let n := v.pins.normals.getD t false
    let r := v.pins.reverses.getD t false
    let e := e.setTurnout t (Turnout.start c.feedback n r)
    if contradicts c.feedback n r then e.enterFailed v t .contactsBoth else e

theorem start_rests {k : Feedback} {n r : Bool} (x : Turnout) (h : x.Rests) : (x.start k n r).Rests :=
  ⟨(restingState_atRest _).1, (restingState_atRest _).2, h.noDrive, h.noRequester⟩

/-- An event that calls for no more than notices and a recomposition. -/
structure Ev.Quiet (e : Ev) : Prop where
  holders : e.holders = []
  signals : e.signals = []
  scan    : e.scan = false
  examine : e.examine = false

theorem quiet_start (u : Units) : (Ev.start u).Quiet := ⟨rfl, rfl, rfl, rfl⟩

theorem Ev.Quiet.units (h : e.Quiet) (u : Units) (c : List (Nat × Cause)) (r : Bool) :
    { e with u := u, causes := c, compose := r }.Quiet := ⟨h.holders, h.signals, h.scan, h.examine⟩

theorem failsAtRest_quiet {t : Nat} (h : e.Quiet) : (e.failsAtRest v t).Quiet := by
  unfold Ev.failsAtRest Ev.raiseTurnout
  split
  · exact h.units _ _ e.compose
  · exact h.units _ e.causes e.compose

/-- R37: the start values of a turnout. -/
def Ev.startTurnout (v : Env) (t : Nat) (c : TurnoutCfg) (e : Ev) : Ev :=
  e.setTurnout t (Turnout.start c.feedback (v.pins.normals.getD t false) (v.pins.reverses.getD t false))

/-- R37, R46: the cases of one reading. -/
theorem readContact_cases (h : e.AtRest) (t : Nat) :
    (v.cfg.turnout t = none ∧ e.readContact v t = e)
    ∨ ∃ c, v.cfg.turnout t = some c ∧
      let both := contradicts c.feedback (v.pins.normals.getD t false) (v.pins.reverses.getD t false)
      (both = false ∧ e.readContact v t = e.startTurnout v t c)
      ∨ (both = true ∧ e.readContact v t = (e.startTurnout v t c).failsAtRest v t) := by
  unfold Ev.readContact
  cases hc : v.cfg.turnout t with
  | none => exact .inl ⟨rfl, rfl⟩
  | some c =>
    refine .inr ⟨c, rfl, ?_⟩
    dsimp only
    split
    next hb => exact .inr ⟨hb, enterFailed_of_rest (h.setTurnout start_rests)⟩
    next hb => exact .inl ⟨by simpa using hb, rfl⟩

theorem readContact_goes (h : e.AtRest) (t : Nat) : Ev.Goes [.turnouts, .record, .slots] e (e.readContact v t) := by
  have hs (c : TurnoutCfg) : Ev.Goes [.turnouts, .record, .slots] e (e.startTurnout v t c) :=
    (setTurnout_goes t _ e).mono (by decide)
  rcases readContact_cases (v := v) h t with ⟨_, he⟩ | ⟨c, _, ⟨_, he⟩ | ⟨_, he⟩⟩ <;> rw [he]
  · exact .refl _ _
  · exact hs c
  · exact ((hs c).after (setTurnout_goes t _ _) (by decide)).after (failsAtRest_after v t _) (by decide)

theorem readContact_rests (h : e.AtRest) (t : Nat) : (e.readContact v t).AtRest := by
  rcases readContact_cases (v := v) h t with ⟨_, he⟩ | ⟨c, _, ⟨_, he⟩ | ⟨_, he⟩⟩ <;> rw [he]
  · exact h
  · exact h.setTurnout start_rests
  · exact failsAtRest_rests (h.setTurnout start_rests)

theorem readContact_quiet (h : e.AtRest) (hq : e.Quiet) (t : Nat) : (e.readContact v t).Quiet := by
  rcases readContact_cases (v := v) h t with ⟨_, he⟩ | ⟨c, _, ⟨_, he⟩ | ⟨_, he⟩⟩ <;> rw [he]
  · exact hq
  · exact hq.units _ e.causes e.compose
  · exact failsAtRest_quiet (hq.units _ e.causes e.compose)

theorem readContact_turnouts (h : e.AtRest) (t : Nat) : (e.readContact v t).u.tdu.turnouts = e.u.tdu.turnouts.modify t
    (Turnout.read (v.cfg.turnout t) (v.pins.normals.getD t false) (v.pins.reverses.getD t false)) := by
  unfold Turnout.read
  rcases readContact_cases (v := v) h t with ⟨hc, he⟩ | ⟨c, hc, ⟨hb, he⟩ | ⟨hb, he⟩⟩ <;> rw [he, hc]
  · exact (List.modify_id ..).symm
  · simp only [hb]
    rfl
  · simp only [hb, if_true]
    exact ((failsAtRest_after v t _).keeps .turnouts (by decide)).trans (List.modify_modify_eq ..)

/-- R46: a turnout that shows both contacts is told, and stands in the fault record. -/
theorem readContact_both {t : Nat} {c : TurnoutCfg} (h : e.AtRest) (hc : v.cfg.turnout t = some c)
    (hb : contradicts c.feedback (v.pins.normals.getD t false) (v.pins.reverses.getD t false) = true) :
    (e.readContact v t).u.lnk.tellsTurnout t ∧ (e.readContact v t).u.record.kind = .contactsBoth := by
  rcases readContact_cases (v := v) h t with ⟨hn, _⟩ | ⟨d, hd, ⟨hf, _⟩ | ⟨_, he⟩⟩
  · cases hn.symm.trans hc
  · cases hd.symm.trans hc
    cases hf.symm.trans hb
  · rw [he]
    let y := ((e.startTurnout v t d).setTurnout t fun x => { x with state := .failed, drive := none }).link
      (Link.addFailedTurnout t)
    have ht : y.u.lnk.tellsTurnout t := .inl (by simp [y, Ev.link, Link.addFailedTurnout])
    have hr := (raiseTurnout_goes v t (y.writeFault .contactsBoth (.turnout t))).keeps .record (by decide)
    exact ⟨(raiseTurnout_goes v t _).onward.turnouts t ((writeFault_goes .contactsBoth (.turnout t) y).onward.turnouts t ht),
      congrArg FaultRecord.kind hr⟩

/-- No later reading puts another kind into the fault record. -/
theorem readContact_record (h : e.AtRest) (t : Nat) (hk : e.u.record.kind = .contactsBoth) :
    (e.readContact v t).u.record.kind = .contactsBoth := by
  rcases readContact_cases (v := v) h t with ⟨_, he⟩ | ⟨c, hc, ⟨_, he⟩ | ⟨hb, _⟩⟩
  · rw [he]
    exact hk
  · rw [he]
    exact hk
  · exact (readContact_both h hc hb).2

end

end Sys2Proof.Machine


/-! The entry into RUNNING (O11), as the whole event leaves it. -/

namespace Sys2Proof.Machine

set_option Elab.async false

section
variable {v : Env} {e : Ev} {u : Units}

/-! ## Every contact, proving filter and button (R37, R46, R96, R169) -/

theorem readContacts_inv (h : e.AtRest) (hq : e.Quiet) : (e.readContacts v).AtRest ∧ (e.readContacts v).Quiet :=
  List.foldlRecOn (motive := fun e => e.AtRest ∧ e.Quiet) _ (Ev.readContact v) ⟨h, hq⟩ fun _ h t _ =>
    ⟨readContact_rests h.1 t, readContact_quiet h.1 h.2 t⟩

theorem readContacts_rest_goes (h : e.AtRest) : Ev.Goes [.turnouts, .record, .slots] e (e.readContacts v) :=
  (List.foldlRecOn (motive := fun b => b.AtRest ∧ Ev.Goes [.turnouts, .record, .slots] e b) _ (Ev.readContact v)
    ⟨h, .refl _ _⟩ fun _ h t _ => ⟨readContact_rests h.1 t, h.2.trans (readContact_goes h.1 t)⟩).2

theorem readContacts_turnout (h : e.AtRest) (hz : e.u.tdu.turnouts.length = 32) (t : Nat) :
    (e.readContacts v).u.turnout t = if t < 32 then
      (e.u.turnout t).read (v.cfg.turnout t) (v.pins.normals.getD t false) (v.pins.reverses.getD t false)
      else e.u.turnout t :=
  foldl_modify_getD (get := fun e => e.u.tdu.turnouts) (F := fun t =>
      Turnout.read (v.cfg.turnout t) (v.pins.normals.getD t false) (v.pins.reverses.getD t false))
    (fun _ t h => readContact_rests h t) (fun _ t h => readContact_turnouts h t) h 32 t hz .initial

/-- R46: every turnout that shows both contacts is told, and the fault record says that one did. -/
theorem readContacts_both {t : Nat} {c : TurnoutCfg} (h : e.AtRest) (ht : t < 32) (hc : v.cfg.turnout t = some c)
    (hb : contradicts c.feedback (v.pins.normals.getD t false) (v.pins.reverses.getD t false) = true) :
    (e.readContacts v).u.lnk.tellsTurnout t ∧ (e.readContacts v).u.record.kind = .contactsBoth :=
  foldl_reaches_of (I := Ev.AtRest) (P := fun e => e.u.lnk.tellsTurnout t ∧ e.u.record.kind = .contactsBoth)
    (g := Ev.readContact v) (fun _ k h => readContact_rests h k)
    (fun _ k h hp => ⟨(readContact_goes h k).onward.turnouts t hp.1, readContact_record h k hp.2⟩)
    (fun _ h => readContact_both h hc hb) (List.mem_range.2 ht) h

/-- R96, R106: a signal's proving filter starts. -/
def Signal.read (configured active : Bool) (x : Signal) : Signal :=
  if configured then { x with proving := provingStart x.rank x.dark active } else x

theorem startProving_signal (v : Env) (hz : e.u.ase.signals.length = 24) (n : Nat) :
    (e.startProving v).u.signal n = if n < 24 then
      (e.u.signal n).read (v.cfg.signal n).isSome (v.pins.redLamps.getD n false) else e.u.signal n := by
  refine foldl_modify_getD (I := fun _ => True) (get := fun e => e.u.ase.signals)
    (F := fun n g => g.read (v.cfg.signal n).isSome (v.pins.redLamps.getD n false)) (fun _ _ _ => trivial)
    (fun e n _ => ?_) trivial 24 n hz .initial
  unfold Signal.read
  split
  · rfl
  · exact (List.modify_id ..).symm

/-- R169: the input of button `k` is read. -/
def Ev.readButton (v : Env) (e : Ev) (k : Nat) : Ev :=
  e.setButton k (Button.start (v.cfg.button k).kind e.u.barred (v.pins.buttons.getD k false))

theorem readButtons_eq (v : Env) (e : Ev) :
    e.readButtons v = ((List.range 16).foldl (Ev.readButton v) e).keepReady v := rfl

theorem readButtons_button (v : Env) (hz : e.u.biu.buttons.length = 16) (k : Nat) :
    (e.readButtons v).u.button k = if k < 16 then
      (e.u.button k).start (v.cfg.button k).kind e.u.barred (v.pins.buttons.getD k false) else e.u.button k := by
  have hread : ((List.range 16).foldl (Ev.readButton v) e).u.button k = if k < 16 then
      (e.u.button k).start (v.cfg.button k).kind e.u.barred (v.pins.buttons.getD k false) else e.u.button k :=
    foldl_modify_getD (I := fun a => a.u.barred = e.u.barred) (get := fun e => e.u.biu.buttons) (g := Ev.readButton v) (e := e)
      (F := fun k => Button.start (v.cfg.button k).kind e.u.barred (v.pins.buttons.getD k false)) (fun _ _ h => h)
      (fun a k h => by rw [← h]; rfl) rfl 16 k hz .initial
  have hready (a : Ev) : (a.keepReady v).u.button k = a.u.button k := rfl
  rw [readButtons_eq, hready, hread]

theorem readDetectors_quiet (h : e.Quiet) : (e.readDetectors v).Quiet :=
  List.foldlRecOn _ _ h fun e h b _ => by
    split
    · exact h
    · exact h.units _ e.causes e.compose

theorem startProving_quiet (h : e.Quiet) : (e.startProving v).Quiet :=
  List.foldlRecOn _ _ h fun e h n _ => by
    split
    · exact h.units _ e.causes e.compose
    · exact h

theorem readLock_quiet (h : e.Quiet) : (e.readLock v).Quiet := by
  unfold Ev.readLock
  split
  · exact h.units _ e.causes e.compose
  · exact h

theorem readButtons_quiet (h : e.Quiet) : (e.readButtons v).Quiet :=
  (List.foldlRecOn (motive := Ev.Quiet) _ _ h fun e h _ _ => h.units _ e.causes e.compose : Ev.Quiet _).units _ _ _

theorem startTimers_quiet (h : e.Quiet) : e.startTimers.Quiet := h.units _ e.causes e.compose

theorem callCompose_quiet (h : e.Quiet) : e.callCompose.Quiet := h.units e.u e.causes true

theorem publishAll_quiet (h : e.Quiet) : (e.publishAll v).Quiet := by
  refine List.foldlRecOn _ _ (List.foldlRecOn _ _ h fun e h b _ => ?_) fun e h n _ => ?_
  · unfold Ev.publish
    split
    · exact h.units _ e.causes e.compose
    · exact h
  · unfold Ev.publishSignal
    split
    · exact h.units _ e.causes e.compose
    · exact h

/-- The parts that the end of a quiet event may change: those of any end, and the counters that its notices may raise. -/
def Part.ofQuiet : List Part := .counters :: Part.ofEnd

theorem settle_quiet (h : e.Quiet) : Goes Part.ofQuiet e.u (settle v e) := by
  have hs : e.settleSignals v = e := by
    unfold Ev.settleSignals Ev.evaluateAll
    simp [h.signals]
  unfold settle
  rw [settleMoves_calm (.inl h.examine), settleScan_calm (.inl h.scan), testPossessions_silent h.holders]
  dsimp only
  rw [hs]
  have hc : Ev.Goes Part.ofQuiet e (e.carryTimer v) := (carryTimer_goes v e).mono (by decide)
  exact ((hc.after (notices_goes v _) (by decide)).after (settleBoard_goes v _) (by decide)).after
    (offerFrames_goes v _) (by decide)

end

section
variable {s : State}

/-! ## The whole event (R199) -/

/-- The station that enters RUNNING. -/
def State.entering (s : State) : Env := ⟨{ s.sys with station := .running, settle := none }, s.pins⟩

/-- R3, R5: the detectors have been read. -/
def State.detectorsRead (s : State) : Ev := (Ev.start s.units).readDetectors s.entering
/-- R37, R46: the contacts have been read. -/
def State.contactsRead (s : State) : Ev := s.detectorsRead.readContacts s.entering
/-- R96, R106: the proving filters have started. -/
def State.provingStarted (s : State) : Ev := s.contactsRead.startProving s.entering
/-- R127: the lock confirm has been read. -/
def State.lockRead (s : State) : Ev := s.provingStarted.readLock s.entering
/-- R169: the buttons have been read. -/
def State.buttonsRead (s : State) : Ev := s.lockRead.readButtons s.entering

/-- What a station that is ANNOUNCING and has a settle timer is, as the invariants know it. -/
structure State.SettlesFrom (s : State) : Prop where
  station : s.sys.station = .announcing
  settle  : s.sys.settle.isSome = true
  sized   : s.units.sized
  rest    : (Ev.start s.units).AtRest
  dark    : ∀ n, (s.units.signal n).rank = 0

theorem settlesFrom_of_sound (ha : s.sys.station = .announcing) (ht : s.sys.settle.isSome = true) (hs : s.sound)
    (hl : s.signalsSound) (hd : s.tableSound) : s.SettlesFrom := by
  have hv : s.env.running = false := not_running_of_station (by rw [ha]; decide)
  obtain ⟨hq, hr⟩ := rests_of_not_running hs.drives hv
  exact ⟨ha, ht, hs.units.1, ⟨hq, hr, fun n => ((hd.before hv).1 n).1, fun n => (hl.dark hv n).2⟩,
    fun n => (hl.dark hv n).1⟩

theorem detectorsRead_rests (h : s.SettlesFrom) : s.detectorsRead.AtRest :=
  h.rest.setSame (readDetectors_goes s.entering _)

theorem buttonsRead_quiet (h : s.SettlesFrom) : s.buttonsRead.Quiet :=
  readButtons_quiet (readLock_quiet (startProving_quiet
    (readContacts_inv (detectorsRead_rests h) (readDetectors_quiet (quiet_start _))).2))

/-- R11, R180: the timers have started. -/
def State.timersStarted (s : State) : Ev := s.buttonsRead.startTimers

theorem enterRunning_eq (s : State) : (Ev.start s.units).enterRunning s.entering
    = (s.timersStarted.publishAll s.entering).callCompose := rfl

theorem settled_eq (h : s.SettlesFrom) : s.settled = s.become s.entering.sys s.units Ev.enterRunning :=
  if_pos ⟨h.station, h.settle⟩

theorem settled_units (h : s.SettlesFrom) :
    s.settled.units = settle s.entering (s.timersStarted.publishAll s.entering).callCompose := by
  rw [settled_eq h, become_units, ← enterRunning_eq]
  rfl

theorem timersStarted_quiet (h : s.SettlesFrom) : s.timersStarted.Quiet := startTimers_quiet (buttonsRead_quiet h)

theorem settled_of_published (h : s.SettlesFrom) :
    Goes Part.ofQuiet (s.timersStarted.publishAll s.entering).u s.settled.units := by
  have hq : (s.timersStarted.publishAll s.entering).callCompose.Quiet :=
    callCompose_quiet (publishAll_quiet (timersStarted_quiet h))
  have hs := settle_quiet (v := s.entering) hq
  have hc : Goes [] (s.timersStarted.publishAll s.entering).u _ := callCompose_goes (s.timersStarted.publishAll s.entering)
  rw [settled_units h]
  exact (hc.mono (by decide)).trans hs

theorem settled_of_timers (h : s.SettlesFrom) : Goes Part.ofQuiet s.timersStarted.u s.settled.units :=
  Goes.after ((publishAll_goes s.entering _).mono (by decide)) (settled_of_published h) (by decide)

/-- The parts that change once the inputs have been read. -/
def Part.ofTimers : List Part := .republish :: .refresh :: Part.ofQuiet

theorem settled_of_buttons (h : s.SettlesFrom) : Goes Part.ofTimers s.buttonsRead.u s.settled.units :=
  Goes.after ((startTimers_goes _).mono (by decide)) (settled_of_timers h) (by decide)

theorem settled_of_lock (h : s.SettlesFrom) : Goes (.buttons :: .ready :: Part.ofTimers) s.lockRead.u s.settled.units :=
  Goes.after ((readButtons_goes s.entering _).mono (by decide)) (settled_of_buttons h) (by decide)

theorem settled_of_proving (h : s.SettlesFrom) :
    Goes (.table :: .buttons :: .ready :: Part.ofTimers) s.provingStarted.u s.settled.units :=
  Goes.after ((readLock_goes s.entering _).mono (by decide)) (settled_of_lock h) (by decide)

theorem settled_of_contacts (h : s.SettlesFrom) :
    Goes (.ranks :: .table :: .buttons :: .ready :: Part.ofTimers) s.contactsRead.u s.settled.units :=
  Goes.after ((startProving_goes s.entering _).mono (by decide)) (settled_of_proving h) (by decide)

theorem settled_of_detectors (h : s.SettlesFrom) :
    Goes ([.turnouts, .record, .ranks, .table, .buttons, .ready] ++ Part.ofTimers) s.detectorsRead.u s.settled.units :=
  Goes.after ((readContacts_rest_goes (v := s.entering) (detectorsRead_rests h)).mono (by decide)) (settled_of_contacts h)
    (by decide)

theorem settled_of_start (h : s.SettlesFrom) : Goes ([.filters, .occupancy, .turnouts, .record, .ranks, .table, .buttons,
    .ready] ++ Part.ofTimers) s.units s.settled.units :=
  Goes.after ((readDetectors_goes s.entering (.start s.units)).mono (by decide)) (settled_of_detectors h) (by decide)

/-- The reading of detectors and contacts leaves the other units as they were. -/
theorem contactsRead_goes (h : s.SettlesFrom) :
    Goes [.filters, .occupancy, .turnouts, .record, .slots] s.units s.contactsRead.u :=
  Goes.after ((readDetectors_goes s.entering (.start s.units)).mono (by decide))
    (readContacts_rest_goes (v := s.entering) (detectorsRead_rests h)) (by decide)

theorem provingStarted_goes (h : s.SettlesFrom) :
    Goes [.filters, .occupancy, .turnouts, .record, .slots, .ranks] s.units s.provingStarted.u :=
  Goes.after ((contactsRead_goes h).mono (by decide)) (startProving_goes s.entering s.contactsRead) (by decide)

theorem lockRead_goes (h : s.SettlesFrom) :
    Goes [.filters, .occupancy, .turnouts, .record, .slots, .ranks, .table] s.units s.lockRead.u :=
  Goes.after ((provingStarted_goes h).mono (by decide)) (readLock_goes s.entering s.provingStarted) (by decide)

/-! ## What every unit has at the entry -/

theorem settled_filter (h : s.SettlesFrom) (b : Nat) : s.settled.units.filter b = if b < 48 then
    (s.units.filter b).read (s.sys.cfg.block b).kind (s.pins.detectors.getD b false) else s.units.filter b := by
  have hf : s.settled.units.filters = s.detectorsRead.u.filters := (settled_of_detectors h).keeps .filters (by decide)
  rw [Units.filter, hf]
  exact readDetectors_filter s.entering (e := .start s.units) h.sized.1 b

theorem settled_train (h : s.SettlesFrom) (b : Nat) : (s.settled.units.block b).train = (if b < 48 then
    (s.units.block b).read (s.sys.cfg.block b).kind (s.pins.detectors.getD b false) else s.units.block b).train := by
  rw [train_of_agree ((settled_of_detectors h).keeps .occupancy (by decide)) b]
  exact congrArg Block.train (readDetectors_block s.entering (e := .start s.units) h.sized.2.1 b)

theorem settled_turnout (h : s.SettlesFrom) (n : Nat) : s.settled.units.turnout n = if n < 32 then
    (s.units.turnout n).read (s.sys.cfg.turnout n) (s.pins.normals.getD n false) (s.pins.reverses.getD n false)
    else s.units.turnout n := by
  obtain ⟨-, -, -, -, hz, -⟩ := h.sized
  have ht : s.settled.units.tdu.turnouts = s.contactsRead.u.tdu.turnouts := (settled_of_contacts h).keeps .turnouts (by decide)
  have hd : s.detectorsRead.u.tdu.turnouts = s.units.tdu.turnouts :=
    (readDetectors_goes s.entering (.start s.units)).keeps .turnouts (by decide)
  have hn : s.detectorsRead.u.turnout n = s.units.turnout n := by rw [Units.turnout, hd, Units.turnout]
  rw [Units.turnout, ht, ← hn]
  exact readContacts_turnout (v := s.entering) (detectorsRead_rests h) (hd ▸ hz) n

theorem settled_both {n : Nat} {c : TurnoutCfg} (h : s.SettlesFrom) (hn : n < 32) (hc : s.sys.cfg.turnout n = some c)
    (hb : contradicts c.feedback (s.pins.normals.getD n false) (s.pins.reverses.getD n false) = true) :
    s.settled.units.lnk.tellsTurnout n ∧ s.settled.units.record.kind = .contactsBoth := by
  obtain ⟨ht, hk⟩ := readContacts_both (v := s.entering) (detectorsRead_rests h) hn hc hb
  exact ⟨(settled_of_contacts h).onward.turnouts n ht,
    (congrArg FaultRecord.kind ((settled_of_contacts h).keeps .record (by decide))).trans hk⟩

theorem settled_signal (h : s.SettlesFrom) (n : Nat) : s.settled.units.signal n = if n < 24 then
    (s.units.signal n).read (s.sys.cfg.signal n).isSome (s.pins.redLamps.getD n false) else s.units.signal n := by
  obtain ⟨-, -, -, -, -, -, -, hz, -⟩ := h.sized
  have hg := settled_of_proving h
  have hp : s.settled.units.ase.signals = s.provingStarted.u.ase.signals :=
    signals_eq_of_agree (hg.keeps .control (by decide)) (hg.keeps .ranks (by decide))
  have hc : s.contactsRead.u.ase.signals = s.units.ase.signals :=
    signals_eq_of_agree ((contactsRead_goes h).keeps .control (by decide)) ((contactsRead_goes h).keeps .ranks (by decide))
  have hn : s.contactsRead.u.signal n = s.units.signal n := by rw [Units.signal, hc, Units.signal]
  rw [Units.signal, hp, ← hn]
  exact startProving_signal s.entering (e := s.contactsRead) (hc ▸ hz) n

theorem lockRead_ttc (h : s.SettlesFrom) : s.lockRead.u.ttc = if s.sys.cfg.turntable.isSome = true then
    { s.units.ttc with confirm := ⟨s.pins.lock, none⟩, deckPower := s.pins.lock } else s.units.ttc := by
  have ht : s.provingStarted.u.ttc = s.units.ttc := (provingStarted_goes h).keeps .table (by decide)
  rw [← ht]
  unfold State.lockRead Ev.readLock
  exact apply_ite (fun e : Ev => e.u.ttc) ..

theorem settled_ttc (h : s.SettlesFrom) : s.settled.units.ttc = s.lockRead.u.ttc :=
  (settled_of_lock h).keeps .table (by decide)

theorem settled_button (h : s.SettlesFrom) (k : Nat) : s.settled.units.button k = if k < 16 then
    (s.units.button k).start (s.sys.cfg.button k).kind s.units.barred (s.pins.buttons.getD k false)
    else s.units.button k := by
  obtain ⟨-, -, -, -, -, -, -, -, -, -, hz, -⟩ := h.sized
  have hb : s.settled.units.biu.buttons = s.buttonsRead.u.biu.buttons := (settled_of_buttons h).keeps .buttons (by decide)
  have hl : s.lockRead.u.biu.buttons = s.units.biu.buttons := (lockRead_goes h).keeps .buttons (by decide)
  have hstop : s.lockRead.u.ase.stop = s.units.ase.stop := (lockRead_goes h).keeps .stop (by decide)
  have hclock : s.lockRead.u.clock = s.units.clock := (lockRead_goes h).keeps .clock (by decide)
  have hbar : s.lockRead.u.barred = s.units.barred := by rw [Units.barred, hstop, hclock, Units.barred]
  have hk : s.lockRead.u.button k = s.units.button k := by rw [Units.button, hl, Units.button]
  rw [Units.button, hb, ← hk, ← hbar]
  exact readButtons_button s.entering (e := s.lockRead) (hl ▸ hz) k

theorem settled_ready (h : s.SettlesFrom) :
    s.settled.units.biu.ready = true ↔ s.units.ttc.phase = .aligned ∧ s.units.ttc.queue = [] := by
  have hr : s.settled.units.biu.ready = s.buttonsRead.u.biu.ready := (settled_of_buttons h).keeps .ready (by decide)
  have hb : s.buttonsRead.u.biu.ready
      = (s.buttonsRead.u.ttc.phase == .aligned && s.buttonsRead.u.ttc.queue.isEmpty) := rfl
  have ht : s.buttonsRead.u.ttc = s.lockRead.u.ttc := (readButtons_goes s.entering s.lockRead).keeps .table (by decide)
  have hphase : s.lockRead.u.ttc.phase = s.units.ttc.phase := by
    rw [lockRead_ttc h]
    split <;> rfl
  have hqueue : s.lockRead.u.ttc.queue = s.units.ttc.queue := by
    rw [lockRead_ttc h]
    split <;> rfl
  rw [hr, hb, ht, hphase, hqueue]
  simp

/-- R37, R46: what the start reading makes of a configured turnout without a drive. -/
theorem read_configured {c : TurnoutCfg} {x : Turnout} (hd : x.drive = none) (n r : Bool) :
    x.read (some c) n r = { x with
      state := if (c.feedback == .twoContact && n && r) = true then .failed else match proves c.feedback n r none with
        | some .normal => .normal
        | some .reverse => .reverse
        | none => .unknown
      proven := proves c.feedback n r none, commanded := (proves c.feedback n r none).getD .normal
      normalIn := ⟨n, none⟩, reverseIn := ⟨r, none⟩ } := by
  have hrest (p : Option Pos) : restingState p = match p with
      | some .normal => .normal
      | some .reverse => .reverse
      | none => .unknown := by
    rcases p with _ | _ | _ <;> rfl
  unfold Turnout.read Turnout.start contradicts
  dsimp only
  rw [hrest]
  split
  · simp [hd]
  · rfl

/-- R110, R171: what bars a button. -/
theorem barred_iff (u : Units) : u.barred = false ↔ u.ase.stop = .empty ∧ u.clock.state = .running := by
  have hstop : u.ase.stop.on = false ↔ u.ase.stop = .empty := by
    cases u.ase.stop
    simp [StopState.on, StopState.empty, and_assoc]
  simp [Units.barred, hstop]

theorem barred_state (u : Units) : (if u.barred = true then ButtonState.disabled else .armed)
    = if u.ase.stop = .empty ∧ u.clock.state = .running then .armed else .disabled := by
  cases hb : u.barred with
  | false => exact (if_pos ((barred_iff u).1 hb)).symm
  | true => exact (if_neg fun h => Bool.false_ne_true (((barred_iff u).2 h).symm.trans hb)).symm

end

/-- Settles O11: every unit's start reading, taken at rest, is what the end of the event leaves. -/
theorem settleTimerEntersRunning : Obligations.SettleTimerEntersRunning := by
  intro s ha ht hs hl hd c
  have h := settlesFrom_of_sound ha ht hs hl hd
  have hsys : s.settled.sys = s.entering.sys := (congrArg State.sys (settled_eq h)).trans (become_sys ..)
  have hgo := settled_of_timers h
  refine ⟨s.settled, rfl, hsys, fun b => ?filters, fun n hn x hx => ?turnouts, fun n hn => ?others, fun n hn hx => ?signals,
    (settled_ttc h).trans (lockRead_ttc h), fun k hk => ?buttons, settled_ready h, fun b hb hp => ?blocks,
    fun n hn hp => ?marks, hgo.keeps .republish (by decide), hgo.keeps .refresh (by decide),
    fun p hp => (settled_of_start h).keeps p (by revert p; decide)⟩
  case filters =>
    rw [settled_filter h, settled_train h]
    dsimp only
    split
    next hb =>
      have hk : (s.sys.cfg.block b).kind ≠ .absent := hb.2
      simp [hb.1, DetectorFilter.read, Block.read, hk, Block.train]
    next hb =>
      by_cases hl : b < 48
      · have hk : (s.sys.cfg.block b).kind = .absent := not_not.1 fun hk => hb ⟨hl, hk⟩
        simp [hl, DetectorFilter.read, Block.read, hk]
      · simp [hl]
  case turnouts =>
    intro normal reverse both p
    have hc : s.sys.cfg.turnout n = some x := hx
    have hp : proves x.feedback normal reverse none = p := by
      cases hf : x.feedback <;> simp only [p, both, hf] <;> cases normal <;> cases reverse <;> rfl
    refine ⟨?_, settled_both h hn hx⟩
    rw [settled_turnout h, if_pos hn, hc, ← hp]
    exact read_configured (h.rest.turnouts n).noDrive normal reverse
  case others =>
    have hc : s.sys.cfg.turnout n = none := hn
    rw [settled_turnout h, hc]
    exact ite_self _
  case signals =>
    have hc : (s.sys.cfg.signal n).isSome = true := hx
    rw [settled_signal h, if_pos hn, Signal.read, if_pos hc]
    simp [provingStart, h.dark n]
  case buttons =>
    intro x f
    have hb : s.settled.units.button k = x.start (c.button k).kind s.units.barred (s.pins.buttons.getD k false) :=
      (settled_button h k).trans (if_pos hk)
    rw [hb]
    cases (c.button k).kind with
    | unused | stopPlunger => rfl
    | depart | turntableShow => exact congrArg (fun y => { x with state := y, filter := f }) (barred_state s.units)
  case blocks =>
    exact (settled_of_published h).onward.blocks b (publishAll_reports (v := s.entering) rfl hb hp _)
  case marks =>
    exact (settled_of_published h).onward.signals n (publishAll_reportsSignal (v := s.entering) rfl hn hp _)

end Sys2Proof.Machine


/-! The tag's identity on command and at a lapse (O17, O18): the deck carry that lapses, and TAG SET. -/

namespace Sys2Proof.Machine

set_option Elab.async false

section
variable {v : Env} {e : Ev} {s : State} {b d n : Nat} {c : Carry}

/-! ## The deck carry lapses (R33) -/

theorem searchTag_silent (h : e.Silent) : (e.searchTag v b n).Silent := by
  unfold Ev.searchTag
  dsimp only
  split
  · exact h
  · split
    · exact h
    · exact h.units _

theorem carryLapse_silent (h : e.Silent) : (e.carryLapse v).Silent := by
  unfold Ev.carryLapse
  split
  · dsimp only
    split
    · exact searchTag_silent (h.units _)
    · exact h.units _
  · exact h

/-- R33: a known tag is looked for once the carry is empty. -/
theorem carryLapse_of_known (hl : e.u.trk.lapse.isSome = true) (hc : e.u.trk.carry = some c) (hd : v.deck = some d)
    (ht : c.tag = .known n) : e.carryLapse v = (e.setCarry none).searchTag v d n := by
  obtain ⟨k, hl⟩ := Option.isSome_iff_exists.1 hl
  simp [Ev.carryLapse, hl, hc, hd, ht]

theorem carryLapse_carry (hl : e.u.trk.lapse.isSome = true) (hc : e.u.trk.carry = some c) (hd : v.deck = some d) :
    (e.carryLapse v).u.trk.carry = none := by
  cases ht : c.tag with
  | known n =>
    rw [carryLapse_of_known hl hc hd ht]
    exact (searchTag_goes v d n (e.setCarry none)).keeps .carry (by decide)
  | none | unknown =>
    obtain ⟨k, hl⟩ := Option.isSome_iff_exists.1 hl
    simp [Ev.carryLapse, hl, hc, hd, ht]

theorem carryLapse_of_lost (hl : e.u.trk.lapse.isSome = true) (hc : e.u.trk.carry = some c) (hd : v.deck = some d)
    (ht : c.tag = .known n) (hf : ∀ r ∈ (v.cfg.block d).neighbours, (e.u.trainAt r).map Prod.fst ≠ some n)
    (hu : ∀ i, .mirror i ∈ (v.cfg.block d).neighbours → (e.u.bmirror i).freshness = .fresh) :
    (e.carryLapse v).u.lnk.tellsLostTag d := by
  have hlost : (e.setCarry none).searchTag v d n = (e.setCarry none).link (Link.addLostTag d) :=
    searchTag_of_lost hf hu
  rw [carryLapse_of_known hl hc hd ht, hlost]
  exact .inl (by simp [Link.addLostTag])

end

/-- Settles O17: the carry is emptied before the tag is looked for, in an event that calls for nothing. -/
theorem deckCarryLapseEmptiesTheCarry : Obligations.DeckCarryLapseEmptiesTheCarry := by
  intro s c d hr hl hc hd
  let f : Env → Ev → Ev := fun v e => e.carryLapse v
  have hs : (f s.env (.start s.units)).Silent := carryLapse_silent (silent_start s.units)
  exact ⟨s.event f, congrArg Host.Outcome.next (whenRunning_of_running hr f),
    (event_of_silent f hs (p := .carry)).trans (carryLapse_carry hl hc hd),
    fun n ht hf hu => (settle_silent hs).onward.lostTag d (carryLapse_of_lost hl hc hd ht hf hu),
    event_keepsBut f hs (carryLapse_goes s.env (.start s.units))⟩

/-! ## Answers (R190) -/

section
variable {v : Env} {e : Ev} {n d i : Nat} {k : FrameKind} {c : Code}

/-- R190: with a number and room in the ordinary queue, an ANSWER joins that queue and nothing else happens. -/
theorem answer_of_room (hn : v.sys.number = some n) (hq : e.u.lnk.ordinary.length < 16) : e.answer v d k i c
    = e.link fun l => { l with ordinary := l.ordinary ++ [⟨d, n, .answer, answerPayload k i c⟩] } := by
  simp [Ev.answer, Ev.send, hn, Ev.link, Link.add, FrameKind.urgent, Link.addOrdinary, hq]

theorem answer_carries (hn : v.sys.number = some n) (hq : e.u.lnk.ordinary.length < 16) :
    (e.answer v d k i c).u.lnk.carries ⟨d, n, .answer, answerPayload k i c⟩ := by
  rw [answer_of_room hn hq]
  exact .inl (by simp)

/-- R190, R193: with room in the queue no overflow is counted. -/
theorem answer_goes_of_room (hn : v.sys.number = some n) (hq : e.u.lnk.ordinary.length < 16) :
    Ev.Goes [.transmitter] e (e.answer v d k i c) where
  keeps p hp := by
    rw [answer_of_room hn hq]
    cases p <;> first | exact absurd (by decide) hp | simp [Part.agree]
  sound := (answer_goes v d k i c e).sound
  onward := (answer_goes v d k i c e).onward

theorem answer_silent (h : e.Silent) : (e.answer v d k i c).Silent := by
  unfold Ev.answer Ev.send
  split
  · exact h.units _
  · exact h

end

/-! ## TAG SET (R28, R29) -/

section
variable {v : Env} {e : Ev} {s : State} {b f n : Nat} {x : RxFrame} {rest : List RxFrame} {c : Code}

theorem lt_of_occupied {u : Units} (ho : (u.block b).occupied = true) : b < u.bkt.blocks.length := by
  by_contra hb
  simp [Units.block, List.getElem?_eq_none (Nat.le_of_not_lt hb), Block.initial] at ho

theorem setTrain_reports {t : Tag} {d : Dir} (hr : v.running = true) (hp : v.cfg.published b = true)
    (ht : (e.u.block b).tag ≠ t) : (e.setTrain v b t d).u.lnk.reports b := by
  simp only [Ev.setTrain, ht, false_and, if_false]
  exact publish_reports hr hp _

/-- R28, R29: the tag `f` is written to block `b`, and to the carry of a deck. -/
def Ev.tagged (v : Env) (b f : Nat) (e : Ev) : Ev :=
  let e := e.setTrain v b (.known f) (e.u.block b).dir
  match v.deck == some b, e.u.trk.carry with
  | true, some c => e.setCarry (some { c with tag := .known f })
  | _, _ => e

/-- R28: the block that a TAG SET names. -/
def RxFrame.tagBlock (x : RxFrame) : Nat := payloadAt x.frame.payload 0

/-- R28: the tag that a TAG SET asks for. -/
def RxFrame.tagAsked (x : RxFrame) : Nat := tagField (x.frame.payload.getD 1 0) (x.frame.payload.getD 2 0)

/-- R28: the checks after the first, while the station is RUNNING. -/
theorem tagSetCheck_of_running {u : Units} (hr : v.running = true) : tagSetCheck v u b f =
    if 48 ≤ b ∨ (v.cfg.block b).kind = .absent then some .badItem
    else if (u.block b).occupied = false then some .notOccupied
    else if f = 0 ∨ 999 < f then some .badTag else none := by
  simp [tagSetCheck, hr]

theorem tagSet_of_failing (h : tagSetCheck v e.u x.tagBlock x.tagAsked = some c) :
    e.tagSet v x.frame = e.answer v x.frame.src .tagSet x.tagBlock c := by
  unfold RxFrame.tagBlock RxFrame.tagAsked at *
  unfold Ev.tagSet
  dsimp only
  rw [h]

theorem tagSet_of_passed (h : tagSetCheck v e.u x.tagBlock x.tagAsked = none) :
    e.tagSet v x.frame = (e.tagged v x.tagBlock x.tagAsked).answer v x.frame.src .tagSet x.tagBlock .done := by
  unfold RxFrame.tagBlock RxFrame.tagAsked at *
  unfold Ev.tagSet
  dsimp only
  rw [h]
  rfl

theorem setTrain_trk (t : Tag) (d : Dir) (e : Ev) : (e.setTrain v b t d).u.trk = e.u.trk := by
  unfold Ev.setTrain
  dsimp only
  split
  · rfl
  · split <;> exact publish_trk _

/-- R29: on a deck a carry that is not empty takes the tag; elsewhere the carry stays. -/
theorem tagged_carry : (e.tagged v b f).u.trk.carry =
    if v.deck = some b then e.u.trk.carry.map fun c => { c with tag := .known f } else e.u.trk.carry := by
  have hc : (e.setTrain v b (.known f) (e.u.block b).dir).u.trk.carry = e.u.trk.carry := by rw [setTrain_trk]
  unfold Ev.tagged
  dsimp only
  split
  next c hd hx => simp [beq_iff_eq.1 hd, ← hc, hx]
  next hn =>
    by_cases hd : v.deck = some b
    · rw [hc] at hn ⊢
      cases hx : e.u.trk.carry with
      | none => simp
      | some c => exact absurd hx (hn c (beq_iff_eq.2 hd))
    · rw [if_neg hd, hc]

theorem tagged_goes (ho : (e.u.block b).occupied = true) :
    Ev.Goes [.occupancy, .carry, .marks] e (e.tagged v b f) := by
  have ht : Ev.Goes [.occupancy, .carry, .marks] e (e.setTrain v b (.known f) (e.u.block b).dir) :=
    (setTrain_goes v b _ _ e fun _ => .inl ho).mono (by decide)
  unfold Ev.tagged
  dsimp only
  split
  · exact ht.after (setCarry_goes _ _) (by decide)
  · exact ht

/-- R29: beyond the block's train the tag changes the carry alone. -/
theorem setTrain_tagged : Ev.Goes [.carry] (e.setTrain v b (.known f) (e.u.block b).dir) (e.tagged v b f) := by
  unfold Ev.tagged
  dsimp only
  split
  · exact setCarry_goes _ _
  · exact .refl _ _

theorem tagged_train (ho : (e.u.block b).occupied = true) (i : Nat) : ((e.tagged v b f).u.block i).train
    = if i = b then (true, .known f, (e.u.block b).dir) else (e.u.block i).train := by
  rw [train_of_agree (setTrain_tagged.keeps .occupancy (by decide)) i, setTrain_block (lt_of_occupied ho)]
  split
  · simp [Block.train, ho]
  · rfl

theorem tagged_reports (hr : v.running = true) (hp : v.cfg.published b = true)
    (ht : (e.u.block b).tag ≠ .known f) : (e.tagged v b f).u.lnk.reports b :=
  setTrain_tagged.onward.blocks b (setTrain_reports hr hp ht)

/-- R28: a TAG SET that fails a check is answered with that check's code, and changes nothing else. -/
theorem tagSet_refused (hm : s.env.mirrors = true) (hx : s.units.lnk.rx = x :: rest) (hk : x.frame.kind = .tagSet)
    (hn : s.canSend n) (hc : tagSetCheck s.env s.units x.tagBlock x.tagAsked = some c) :
    ∃ t, exec .tagSet s = .next t
      ∧ t.units.lnk.carries ⟨x.frame.src, n, .answer, answerPayload .tagSet x.tagBlock c⟩
      ∧ (s.taken rest).keepsBut Part.ofEnd t.units := by
  obtain ⟨hn, hq⟩ := hn
  let s' : State := { s with units := s.taken rest }
  let g : Env → Ev → Ev := fun v e => e.tagSet v x.frame
  have he : g s'.env (.start s'.units) = (Ev.start s'.units).answer s'.env x.frame.src .tagSet x.tagBlock c :=
    tagSet_of_failing hc
  have hs : (g s'.env (.start s'.units)).Silent := he ▸ answer_silent (silent_start _)
  have hg : Ev.Goes [.transmitter] (.start s'.units) (g s'.env (.start s'.units)) := he ▸ answer_goes_of_room hn hq
  have ha : (g s'.env (.start s'.units)).u.lnk.carries
      ⟨x.frame.src, n, .answer, answerPayload .tagSet x.tagBlock c⟩ := he ▸ answer_carries hn hq
  refine ⟨s'.event g, congrArg Host.Outcome.next ?_, (settle_silent hs).onward.frames _ ha,
    event_keepsBut (s := s') g hs hg⟩
  exact (takeFrame_of_takes hx (by simp [ofKind, hk]) _).trans (whenStarted_of_mirrors (s := s') hm g)

/-- R28, R29: a TAG SET that passes its checks is answered done, the tag being written. -/
theorem tagSet_done (hm : s.env.mirrors = true) (hx : s.units.lnk.rx = x :: rest) (hk : x.frame.kind = .tagSet)
    (hn : s.canSend n) (hw : s.units.nothingWaits)
    (hc : tagSetCheck s.env s.units x.tagBlock x.tagAsked = none) :
    ∃ t, exec .tagSet s = .next t
      ∧ t.units.lnk.carries ⟨x.frame.src, n, .answer, answerPayload .tagSet x.tagBlock .done⟩
      ∧ Goes Part.ofCalm ((Ev.start (s.taken rest)).tagged s.env x.tagBlock x.tagAsked).u t.units
      ∧ (s.taken rest).keepsBut ([.occupancy, .carry] ++ Part.ofCalm) t.units := by
  obtain ⟨hn, hq⟩ := hn
  let s' : State := { s with units := s.taken rest }
  let g : Env → Ev → Ev := fun v e => e.tagSet v x.frame
  let m : Ev := (Ev.start s'.units).tagged s'.env x.tagBlock x.tagAsked
  have he : g s'.env (.start s'.units) = m.answer s'.env x.frame.src .tagSet x.tagBlock .done := tagSet_of_passed hc
  have hwhole : Ev.Goes _ (.start s'.units) (g s'.env (.start s'.units)) := tagSet_goes s'.env x.frame (.start s'.units)
  have hcalm : Goes Part.ofCalm (g s'.env (.start s'.units)).u (s'.event g).units :=
    settle_calm (.inr ((congrArg Turntable.queue (hwhole.keeps .table (by decide))).trans hw.2))
      (.inr ((hwhole.keeps .waiting (by decide)).trans hw.1))
  have htag : Ev.Goes [.occupancy, .carry, .marks] (.start s'.units) m := tagged_goes (tagSetCheck_none hc)
  have hroom : m.u.lnk.ordinary.length < 16 := by
    have ho : Part.agree s'.units m.u .transmitter := htag.keeps .transmitter (by decide)
    rw [ho.2.1]
    exact hq
  have hcarries : (g s'.env (.start s'.units)).u.lnk.carries
      ⟨x.frame.src, n, .answer, answerPayload .tagSet x.tagBlock .done⟩ := he ▸ answer_carries hn hroom
  have hanswer : Ev.Goes [.transmitter] m (g s'.env (.start s'.units)) := he ▸ answer_goes_of_room hn hroom
  have hkeeps : Goes ([.occupancy, .carry] ++ Part.ofCalm) s'.units (s'.event g).units :=
    (hwhole.mono (by decide)).after hcalm (by decide)
  refine ⟨s'.event g, congrArg Host.Outcome.next ?_, hcalm.onward.frames _ hcarries,
    (hanswer.mono (by decide)).after hcalm (fun _ h => h), hkeeps.keeps⟩
  exact (takeFrame_of_takes hx (by simp [ofKind, hk]) _).trans (whenStarted_of_mirrors (s := s') hm g)

end

/-- Settles O18: each failing check is the one that `tagSetCheck` finds; none failing, the tag is written. -/
theorem tagSetWritesTheTag : Obligations.TagSetWritesTheTag := by
  intro s x rest n hm hx hk hn b f told refused
  have answered (c : Code) (hc : tagSetCheck s.env s.units b f = some c) : refused c := tagSet_refused hm hx hk hn hc
  split
  next hr => exact answered .notRunning (if_pos (by simp [State.env, Env.running, hr]))
  next hr =>
    have hrun : s.env.running = true := running_env (not_not.1 hr)
    have hcheck := tagSetCheck_of_running (u := s.units) (b := b) (f := f) hrun
    split
    next hb => exact answered .badItem (hcheck.trans (if_pos hb))
    next hb =>
      replace hcheck := hcheck.trans (if_neg hb)
      split
      next ho => exact answered .notOccupied (hcheck.trans (if_pos ho))
      next ho =>
        replace hcheck := hcheck.trans (if_neg ho)
        split
        next hf => exact answered .badTag (hcheck.trans (if_pos hf))
        next hf =>
          intro hw
          have hpass : tagSetCheck s.env s.units b f = none := hcheck.trans (if_neg hf)
          have hocc : ((Ev.start (s.taken rest)).u.block b).occupied = true := tagSetCheck_none hpass
          obtain ⟨t, ht, hanswer, hgoes, hkeeps⟩ := tagSet_done hm hx hk hn hw hpass
          have htrain (i : Nat) := (train_of_agree (hgoes.keeps .occupancy (by decide)) i).trans (tagged_train hocc i)
          refine ⟨t, ht, hanswer, (htrain b).trans (if_pos rfl), fun i hi => (htrain i).trans (if_neg hi),
            (hgoes.keeps .carry (by decide)).trans tagged_carry, fun hne hp => ?_, hkeeps⟩
          exact hgoes.onward.blocks b (tagged_reports hrun hp hne)

end Sys2Proof.Machine


/-! PROOFS. Law L10 (O24): what throw queue and drives say of one another is kept by every operation, of a station of which
no more is known than the sizes of its lists and that its configuration is lawful. -/

namespace Sys2Proof.Machine

set_option Elab.async false

section
variable {v : Env} {r : Bool} {ex : Option Nat} {e b : Ev} {t n : Nat} {c : RouteCfg}

/-! ## Throw queue and drives within an event -/

/-- Laws L9 and L10 on throw queue and drives within an event, but for the record of a turnout `ex` that is being changed. Of
`Ev.Kept` it has what the statement of law L10 supposes, and no more. -/
structure Ev.DrivesKept (v : Env) (r : Bool) (ex : Option Nat) (e : Ev) : Prop where
  records : e.u.tdu.turnouts.length = 32
  drives  : e.u.drivesBut v r ex
  config  : Lawful v.cfg

namespace Ev.DrivesKept

theorem lt (h : e.DrivesKept v r ex) (ht : t < 32) : t < e.u.tdu.turnouts.length := h.records.symm ▸ ht

theorem frame {ps : List Part} (h : e.DrivesKept v r ex) (g : Ev.Goes ps e b)
    (hp : ∀ p ∈ [Part.turnouts, .throws, .cdu], p ∉ ps := by decide) : b.DrivesKept v r ex :=
  ⟨by rw [g.tdu_eq hp]; exact h.records, drivesBut_congr h.drives (g.tdu_eq hp), h.config⟩

theorem ite {p : Prop} [Decidable p] (he : e.DrivesKept v r ex) (hb : b.DrivesKept v r ex) :
    (if p then e else b).DrivesKept v r ex := by
  split
  · exact he
  · exact hb

theorem foldl {α : Type} {g : Ev → α → Ev} (h : e.DrivesKept v r ex) (l : List α)
    (hg : ∀ e, e.DrivesKept v r ex → ∀ x ∈ l, (g e x).DrivesKept v r ex) : (l.foldl g e).DrivesKept v r ex :=
  List.foldlRecOn l g h hg

/-- From here on turnout `t` is being changed. -/
theorem but (h : e.DrivesKept v r none) (t : Nat) : e.DrivesKept v r (some t) :=
  ⟨h.records, h.drives.but (.inl rfl), h.config⟩

/-- Turnout `t` has been changed, and fits again. -/
theorem restore (h : e.DrivesKept v r (some t)) (hf : e.u.turnoutFits v r t) : e.DrivesKept v r none :=
  ⟨h.records, h.drives.restore hf, h.config⟩

/-- Turnout `t` has been changed, and is out of the queue and at rest. -/
theorem rested (h : e.DrivesKept v r (some t)) (hq : t ∉ e.u.tdu.queue.map Prod.fst) (hr : (e.u.turnout t).Rests) :
    e.DrivesKept v r none := h.restore (turnoutFits_of_rests hq hr)


end Ev.DrivesKept

/-- The event in which throw queue, records and CDU are as in `e` and every other unit is at its power-on values. -/
def Ev.drivesAlone (e : Ev) : Ev := .start { Units.initial with tdu := e.u.tdu }

/-- What the invariant's operations do to the drives alone may be read off at `Ev.drivesAlone`, where the rest of the
invariant holds. -/
theorem drivesAlone_upholds (h : e.DrivesKept v r ex) :
    (Ev.start Units.initial).Upholds v r ex e.drivesAlone where
  kept _ := {
    sound := by
      obtain ⟨⟨hf, hb, hm, hs, -, hz⟩, hl⟩ := initial_units_sound
      exact ⟨⟨hf, hb, hm, hs, h.records, hz⟩, hl⟩
    waiting := Nat.zero_le _
    drives := drivesBut_congr h.drives rfl
    config := h.config }
  table _ := ⟨Nat.zero_le _, by simp [Units.readyKept, Ev.drivesAlone, Units.initial, Turntable.initial]⟩
  tracking := rfl
  inHand := rfl

theorem initial_kept (h : Lawful v.cfg) : (Ev.start Units.initial).Kept v r none :=
  ⟨initial_units_sound, Nat.zero_le _, ⟨by decide, fun t _ => turnoutFits_of_rests (by simp [Units.initial])
    (by rw [start_u, initial_turnout]; exact initial_rests), (initial_drivesSound v).motors⟩, h⟩

/-- An operation that upholds the invariant where the other units are at their power-on values keeps the drives sound
where it makes of them the same. -/
theorem Ev.DrivesKept.of_upholds {ex' : Option Nat} {b' : Ev} (h : e.DrivesKept v r ex)
    (hu : (Ev.start Units.initial).Upholds v r ex' b') (hb : b.u.tdu = b'.u.tdu) : b.DrivesKept v r ex' :=
  have k := hu.kept (initial_kept h.config)
  ⟨by rw [hb]; exact turnouts_length k.sound, drivesBut_congr k.drives hb, h.config⟩


/-! ## One turnout's record (R35, R38, R49) -/

/-- A change of a record that leaves its state and drive, and adds no requester. -/
theorem setTurnout_keepsDrives {f : Turnout → Turnout} (h : e.DrivesKept v r ex)
    (hf : ∀ x, (f x).state = x.state ∧ (f x).drive = x.drive
      ∧ ((f x).requester.isSome = true → x.requester.isSome = true)) : (e.setTurnout t f).DrivesKept v r ex :=
  h.of_upholds (setTurnout_upholds (drivesAlone_upholds h) hf) rfl

theorem setHolds_keepsDrives {f : Turnout → Turnout} (h : e.DrivesKept v r ex)
    (hf : ∀ x, (f x).state = x.state ∧ (f x).drive = x.drive
      ∧ ((f x).requester.isSome = true → x.requester.isSome = true)) : (e.setHolds t f).DrivesKept v r ex :=
  have k := setTurnout_keepsDrives (t := t) h hf
  .ite (k.frame (callScan_goes _)) k

theorem holdPath_keepsDrives (h : e.DrivesKept v r ex) : (e.holdPath n t).DrivesKept v r ex :=
  setHolds_keepsDrives h fun _ => ⟨rfl, rfl, id⟩
theorem holdFlank_keepsDrives (h : e.DrivesKept v r ex) : (e.holdFlank t).DrivesKept v r ex :=
  setHolds_keepsDrives h fun _ => ⟨rfl, rfl, id⟩
theorem dropPath_keepsDrives (h : e.DrivesKept v r ex) : (e.dropPath n t).DrivesKept v r ex :=
  setHolds_keepsDrives h fun _ => ⟨rfl, rfl, id⟩
theorem dropFlank_keepsDrives (h : e.DrivesKept v r ex) : (e.dropFlank t).DrivesKept v r ex :=
  setHolds_keepsDrives h fun _ => ⟨rfl, rfl, id⟩

/-- An ANSWER changes nothing of the Turnout Drive Unit. -/
theorem settleRequester_tdu (w : Env) (k : Code) (e : Ev) :
    (e.settleRequester w t k).u.tdu = (e.setTurnout t fun x => { x with requester := none }).u.tdu := by
  unfold Ev.settleRequester
  split
  · exact (answer_goes ..).tdu_eq
  next hr =>
    have hx : ∀ x ∈ e.u.tdu.turnouts[t]?, ({ x with requester := none } : Turnout) = x := fun x hx => by
      have hr' : x.requester = none := by
        rw [Units.turnout, List.getD_eq_getElem?_getD, Option.mem_def.1 hx] at hr
        exact hr
      rw [← hr']
    have hl : e.u.tdu.turnouts.modify t (fun x => { x with requester := none }) = e.u.tdu.turnouts := by
      refine List.ext_getElem? fun k => ?_
      rw [List.getElem?_modify]
      split
      next hk =>
        subst hk
        cases ht : e.u.tdu.turnouts[t]? with
        | none => rfl
        | some x => exact congrArg some (hx x ht)
      · simp
    show e.u.tdu = { e.u.tdu with turnouts := e.u.tdu.turnouts.modify t fun x => { x with requester := none } }
    rw [hl]

theorem settleRequester_keepsDrives {k : Code} (h : e.DrivesKept v r ex) : (e.settleRequester v t k).DrivesKept v r ex :=
  have hs := setTurnout_keepsDrives (t := t) (f := fun x => { x with requester := none }) h fun _ => ⟨rfl, rfl, nofun⟩
  ⟨by rw [settleRequester_tdu]; exact hs.records, drivesBut_congr hs.drives (settleRequester_tdu ..), h.config⟩

/-- A change of the record of the turnout that is being changed, which starts no drive. -/
theorem changed_keepsDrives {f : Turnout → Turnout} (h : e.DrivesKept v r (some t))
    (hm : (f (e.u.turnout t)).state = .moving → (e.u.turnout t).state = .moving) :
    (e.setTurnout t f).DrivesKept v r (some t) :=
  h.of_upholds (setTurnout_at (drivesAlone_upholds h) hm) rfl

/-- A turnout at rest that stays at rest. -/
theorem resting_keepsDrives {f : Turnout → Turnout} (h : e.DrivesKept v r none)
    (hr : (e.u.turnout t).state ≠ .queued ∧ (e.u.turnout t).state ≠ .moving)
    (hf : ∀ x : Turnout, x.Rests → (f x).Rests) : (e.setTurnout t f).DrivesKept v r none :=
  h.of_upholds (setTurnout_rests (drivesAlone_upholds h) (fun _ => hr) hf) rfl

theorem leaveQueue_keepsDrives (h : e.DrivesKept v r (some t)) :
    (e.setThrows fun q => q.filter fun x => x.1 != t).DrivesKept v r (some t) :=
  h.of_upholds (leaveQueue_at (drivesAlone_upholds h)) rfl

/-- The turnout that is being changed comes to rest, and its requester is answered. -/
theorem settled_keepsDrives {f : Turnout → Turnout} {k : Code} (h : e.DrivesKept v r (some t))
    (hq : t ∉ e.u.tdu.queue.map Prod.fst) (hs : (f (e.u.turnout t)).state ≠ .queued ∧ (f (e.u.turnout t)).state ≠ .moving)
    (hd : (f (e.u.turnout t)).drive = none) : ((e.setTurnout t f).settleRequester v t k).DrivesKept v r none :=
  h.of_upholds (settled_upholds (k := k) (drivesAlone_upholds h) (fun _ => hq) hs fun _ => hd)
    (by rw [settleRequester_tdu, settleRequester_tdu]; rfl)

/-! ## The arbiter and withdrawal (R40 to R42) -/

theorem startEntry_records (e : Ev) : (e.startEntry v t).u.tdu.turnouts.length = e.u.tdu.turnouts.length := by
  unfold Ev.startEntry
  dsimp only
  split <;> simp

theorem arbiter_records (e : Ev) : (e.arbiter v).u.tdu.turnouts.length = e.u.tdu.turnouts.length :=
  List.foldlRecOn (motive := fun b : Ev => b.u.tdu.turnouts.length = e.u.tdu.turnouts.length) _ _ rfl fun b hb x _ => by
    split
    · rw [startEntry_records, hb]
    · exact hb

theorem arbiter_keepsDrives (h : e.DrivesKept v r none) : (e.arbiter v).DrivesKept v r none :=
  ⟨by rw [arbiter_records]; exact h.records,
    arbiter_fold_drives h.drives.once (fun _ hx => List.mem_map_of_mem hx) h.drives, h.config⟩

theorem withdrawThrow_keepsDrives (h : e.DrivesKept v r none) : (e.withdrawThrow v t).DrivesKept v r none := by
  unfold Ev.withdrawThrow
  dsimp only
  split
  · split
    next hx =>
      refine Ev.DrivesKept.frame ?_ (turnoutReaches_goes v t _)
      refine (changed_keepsDrives (leaveQueue_keepsDrives (h.but t)) fun hm => absurd hm (restingState_atRest _).2).rested
        (not_mem_leaveQueue _ t) (setTurnout_turnout_of ?_ initial_rests)
      exact ⟨(restingState_atRest _).1, (restingState_atRest _).2,
        (h.drives.fits t nofun).noDrive (by rw [hx.1]; exact nofun), rfl⟩
    · exact h
  · exact h

theorem withdrawThrows_keepsDrives (h : e.DrivesKept v r none) : (e.withdrawThrows v c).DrivesKept v r none :=
  h.foldl _ fun _ h _ _ => withdrawThrow_keepsDrives h

/-! ## Holds released, failure of routes (R62, R65 to R67, R77) -/

theorem dropPathIn_keepsDrives {b : Nat} (h : e.DrivesKept v r ex) : (e.dropPathIn v n c b).DrivesKept v r ex :=
  h.foldl _ fun _ h _ _ => .ite (dropPath_keepsDrives h) h

theorem releasePathBlock_keepsDrives {i : Nat} (h : e.DrivesKept v r ex) :
    (e.releasePathBlock v n c i).DrivesKept v r ex := by
  have hs := h.frame (setRoute_goes n (fun x => { x with progress := x.progress.set i .released }) e)
  unfold Ev.releasePathBlock
  dsimp only
  split
  · exact dropPathIn_keepsDrives (hs.frame (freeOfRoute_goes ..))
  · exact hs

theorem releaseOverlap_keepsDrives (h : e.DrivesKept v r ex) : (e.releaseOverlap v n c).DrivesKept v r ex := by
  have hs := h.frame (setRoute_goes n (fun x => { x with overlapHeld := false }) e)
  unfold Ev.releaseOverlap
  refine .ite ?_ h
  dsimp only
  split
  · exact dropPathIn_keepsDrives (hs.frame (freeOfRoute_goes ..))
  · exact hs

theorem releaseTurnouts_keepsDrives (h : e.DrivesKept v r ex) : (e.releaseTurnouts n c).DrivesKept v r ex :=
  (h.foldl _ fun _ h _ _ => dropPath_keepsDrives h).foldl _ fun _ h _ _ => dropFlank_keepsDrives h

theorem releaseHolds_keepsDrives (h : e.DrivesKept v r ex) : (e.releaseHolds v n c).DrivesKept v r ex :=
  releaseTurnouts_keepsDrives (h.foldl _ fun _ h _ _ => h.frame (freeOfRoute_goes ..))

/-- R62: what a route that fails does to the drives is done when its throws have been withdrawn. -/
theorem routeFail_keepsDrives {k : Code} {i : Item} {o : Nat} (h : e.DrivesKept v r none) :
    (e.routeFail v n c k i o).DrivesKept v r none := by
  have hc := (withdrawThrows_keepsDrives (c := c) (releaseHolds_keepsDrives (n := n) (c := c) h)).frame (closeClaim_goes v n c _)
  have hs := hc.frame (routeIdle_goes n c _)
  unfold Ev.routeFail
  refine Ev.DrivesKept.frame ?_ (callScan_goes _)
  split <;> split
  · exact (hs.frame (reportCode_goes ..)).frame (rejoin_goes ..)
  · exact hs.frame (rejoin_goes ..)
  · exact hs.frame (reportCode_goes ..)
  · exact hs

theorem routeMeetsTurnout_keepsDrives (h : e.DrivesKept v r none) : (e.routeMeetsTurnout v t n).DrivesKept v r none := by
  unfold Ev.routeMeetsTurnout
  split
  · exact h
  · refine .ite ?_ h
    split
    · exact .ite (routeFail_keepsDrives h) h
    · exact .ite (routeFail_keepsDrives h) (.ite (h.frame (routeSet_goes ..)) h)
    all_goals exact h

theorem turnoutChanged_keepsDrives (h : e.DrivesKept v r none) : (e.turnoutChanged v t).DrivesKept v r none :=
  (h.frame (turnoutReaches_goes v t e)).foldl _ fun _ h _ _ => routeMeetsTurnout_keepsDrives h

/-! ## Drives that end (R40, R45, R46) -/

theorem enterFailed_keepsDrives {k : FaultKind} (h : e.DrivesKept v r (some t)) :
    (e.enterFailed v t k).DrivesKept v r none := by
  have hs := settled_keepsDrives (f := fun x => { x with state := .failed, drive := none }) (k := .throwFailed)
    (leaveQueue_keepsDrives h) (not_mem_leaveQueue _ t) ⟨nofun, nofun⟩ rfl
  have hc := turnoutChanged_keepsDrives (t := t)
    (((hs.frame (link_addFailedTurnout_goes t _)).frame (writeFault_goes k (.turnout t) _)).frame (raiseTurnout_goes v t _))
  exact .ite (arbiter_keepsDrives hc) hc

theorem proofWhileQueued_keepsDrives (h : e.DrivesKept v r none) : (e.proofWhileQueued v t).DrivesKept v r none := by
  unfold Ev.proofWhileQueued
  dsimp only
  split
  · split
    next hx =>
      exact turnoutChanged_keepsDrives (settled_keepsDrives (leaveQueue_keepsDrives (h.but t)) (not_mem_leaveQueue _ t)
        (at_atRest _) ((h.drives.fits t nofun).noDrive (by rw [hx.1]; exact nofun)))
    · exact h
  · exact h

/-- R39, R40: a turnout that is not in the queue joins its tail. -/
theorem joinQueue_keepsDrives (h : e.DrivesKept v true (some t)) (ht : t < 32) (hq : t ∉ e.u.tdu.queue.map Prod.fst) :
    (e.joinQueue v t).DrivesKept v true none := by
  have hj : (e.setThrows fun q => q ++ [(t, (e.u.turnout t).commanded)]).DrivesKept v true (some t) := by
    refine ⟨h.records, drivesBut_change h.drives (.inr rfl) (fun _ _ => rfl) (fun k hk => ?_) (fun _ _ j hj => ⟨j, hj⟩) ?_
      h.drives.motors, h.config⟩
    · simp [hk]
    · rw [setThrows_u_tdu_queue, List.map_append]
      exact h.drives.once.append (List.nodup_singleton _) (List.disjoint_singleton.2 hq)
  have hs := changed_keepsDrives (f := fun x => { x with state := .queued, drive := none }) hj nofun
  have hx := setTurnout_turnout_self (hj.lt ht) fun x => { x with state := .queued, drive := none }
  refine arbiter_keepsDrives (proofWhileQueued_keepsDrives ((hs.restore ?_).frame (turnoutReaches_goes v t _)))
  exact {
    queued := iff_of_true (by simp) (by rw [hx])
    moving := by rw [hx]; exact iff_of_false nofun nofun
    known := by rw [hx]; exact nofun
    pulse := by rw [hx]; exact nofun
    waits := fun _ => .inl (by rw [hx])
    resting := nofun }

/-- A turnout that is driven has a record, is in no queue, and is driven while RUNNING alone. -/
theorem Ev.DrivesKept.of_driven (h : e.DrivesKept v r ex) (hf : e.u.turnoutFits v r t)
    (hd : (e.u.turnout t).drive.isSome = true) : t < 32 ∧ t ∉ e.u.tdu.queue.map Prod.fst ∧ r = true :=
  driven_facts (e := e.drivesAlone) ((drivesAlone_upholds h).kept (initial_kept h.config))
    (turnoutFits_of_eq hf rfl Iff.rfl fun j hj => ⟨j, hj⟩) hd

/-- R45: the drive of the turnout that is being changed ends. -/
theorem driveEnds_keepsDrives {p : Bool} (h : e.DrivesKept v true (some t)) (hd : (e.u.turnout t).drive.isSome = true)
    (ht : t < 32) (hq : t ∉ e.u.tdu.queue.map Prod.fst) : (e.driveEnd v t p).DrivesKept v true none := by
  obtain ⟨d, hd⟩ := Option.isSome_iff_exists.1 hd
  simp only [Ev.driveEnd, hd]
  have hc := turnoutChanged_keepsDrives (t := t) (settled_keepsDrives (k := .done)
    (f := fun x => { x with state := .at d.pos, drive := none }) h hq (at_atRest _) rfl)
  exact .ite (joinQueue_keepsDrives h ht hq) (.ite (.ite (arbiter_keepsDrives hc) hc) (enterFailed_keepsDrives h))

theorem driveEnd_keepsDrives {p : Bool} (h : e.DrivesKept v r none) : (e.driveEnd v t p).DrivesKept v r none := by
  cases hd : (e.u.turnout t).drive with
  | none => simpa only [Ev.driveEnd, hd] using h
  | some d =>
    have hs : (e.u.turnout t).drive.isSome = true := by rw [hd]; rfl
    obtain ⟨ht, hq, rfl⟩ := h.of_driven (h.drives.fits t nofun) hs
    exact driveEnds_keepsDrives (h.but t) hs ht hq

/-! ## Throws (R39, R48, R49) -/

theorem asked_keepsDrives {p : Pos} {s : Option Nat} (h : e.DrivesKept v r none) :
    (e.asked v t p s).DrivesKept v r (some t) :=
  have hr := Ev.DrivesKept.ite (p := (e.u.turnout t).requester = s) h
    (settleRequester_keepsDrives (t := t) (k := .conflict) h)
  changed_keepsDrives (changed_keepsDrives (hr.but t) id) id

theorem settleRequester_records (k : Code) (e : Ev) :
    (e.settleRequester v t k).u.tdu.turnouts.length = e.u.tdu.turnouts.length := by
  rw [settleRequester_tdu, setTurnout_u_tdu_turnouts, List.length_modify]

/-- R39: whatever waited for it, turnout `t` has the commanded position and the requester of the throw. -/
theorem asked_record {p : Pos} {s : Option Nat} (ht : t < e.u.tdu.turnouts.length) :
    (e.asked v t p s).u.turnout t = { e.u.turnout t with requester := s, commanded := p } := by
  unfold Ev.asked Ev.replaceRequester
  split
  · rw [setTurnout_turnout_self (by simpa using ht), setTurnout_turnout_self ht]
  · have hl : t < (e.settleRequester v t .conflict).u.tdu.turnouts.length := (settleRequester_records ..).symm ▸ ht
    rw [setTurnout_turnout_self (by simpa using hl), setTurnout_turnout_self hl, settleRequester_turnout]

/-- A QUEUED or MOVING turnout fits on when a throw has been taken. -/
theorem asked_restore {p : Pos} {s : Option Nat} (h : e.DrivesKept v r none) (ht : t < 32)
    (hw : (e.u.turnout t).state = .queued ∨ (e.u.turnout t).state = .moving) :
    (e.asked v t p s).DrivesKept v r none := by
  have hx := asked_record (v := v) (p := p) (s := s) (h.lt ht)
  have hq : (e.asked v t p s).u.tdu.queue = e.u.tdu.queue := (asked_goes p s e).keeps .throws (by decide)
  have hc : (e.asked v t p s).u.tdu.cdu = e.u.tdu.cdu := (asked_goes p s e).keeps .cdu (by decide)
  exact (asked_keepsDrives h).restore
    (turnoutFits_asked (h.drives.fits t nofun) (by rw [hq]) (by rw [hx]) (by rw [hx]) hc hw)

/-- The entry of `t` in the throw queue takes a new position. -/
theorem setThrows_pos_keepsDrives {p : Pos} (h : e.DrivesKept v r none) :
    (e.setThrows fun q => q.map fun y => if y.1 = t then (t, p) else y).DrivesKept v r none :=
  h.of_upholds (setThrows_pos_upholds (drivesAlone_upholds h)) rfl

theorem throw_keepsDrives {p : Pos} {s : Option Nat} (h : e.DrivesKept v true none) (ht : t < 32) :
    (e.throw v t p s).DrivesKept v true none := by
  have ha := asked_keepsDrives (t := t) (p := p) (s := s) h
  have hq : (e.asked v t p s).u.tdu.queue = e.u.tdu.queue := (asked_goes p s e).keeps .throws (by decide)
  have join (hs : (e.u.turnout t).state ≠ .queued) : t ∉ (e.asked v t p s).u.tdu.queue.map Prod.fst := by
    rw [hq]
    exact mt (h.drives.fits t nofun).queued.1 hs
  rw [throw_eq]
  cases hs : (e.u.turnout t).state with
  | moving => exact asked_restore h ht (.inr hs)
  | queued => exact proofWhileQueued_keepsDrives (setThrows_pos_keepsDrives (asked_restore h ht (.inl hs)))
  | failed => exact joinQueue_keepsDrives (ha.frame (callScan_goes _)) ht (join (by rw [hs]; decide))
  | normal | reverse | unknown => exact joinQueue_keepsDrives ha ht (join (by rw [hs]; decide))

/-! ## Feedback (R36, R46, R47) -/

theorem settleAt_keepsDrives {p : Pos} (h : e.DrivesKept v r none)
    (hs : (e.u.turnout t).state ≠ .queued ∧ (e.u.turnout t).state ≠ .moving) : (e.settleAt v t p).DrivesKept v r none :=
  have hx := resting_keepsDrives (f := fun x => { x with state := .at p, commanded := p }) h hs
    fun x hx => ⟨(at_atRest p).1, (at_atRest p).2, hx.noDrive, hx.noRequester⟩
  turnoutChanged_keepsDrives (.ite (hx.frame (callScan_goes _)) hx)

theorem feedbackWhileMoving_keepsDrives {p : Option Pos} (h : e.DrivesKept v r none) :
    (e.feedbackWhileMoving v t p).DrivesKept v r none := by
  unfold Ev.feedbackWhileMoving
  split
  · exact .ite (driveEnd_keepsDrives h) h
  · exact .ite (driveEnd_keepsDrives h) h
  · exact h
  · exact h

/-- R46, R47: a turnout at rest fails while it is held, and follows its reading while it is not. -/
theorem restReaction_keepsDrives {p : Option Pos} (h : e.DrivesKept v r none)
    (hs : (e.u.turnout t).state ≠ .queued ∧ (e.u.turnout t).state ≠ .moving) :
    (if (e.u.turnout t).held then e.enterFailed v t .proofLost else match p with
      | some q => e.settleAt v t q
      | none => (e.setTurnout t fun x => { x with state := .unknown }).turnoutChanged v t).DrivesKept v r none := by
  refine .ite (enterFailed_keepsDrives (h.but t)) ?_
  split
  · exact settleAt_keepsDrives h hs
  · exact turnoutChanged_keepsDrives (resting_keepsDrives h hs fun x hx => ⟨nofun, nofun, hx.noDrive, hx.noRequester⟩)

theorem feedbackReaction_keepsDrives {p : Option Pos} (h : e.DrivesKept v r none) :
    (e.feedbackReaction v t p).DrivesKept v r none := by
  unfold Ev.feedbackReaction
  dsimp only
  split
  next hs => exact restReaction_keepsDrives h (by rw [hs]; decide)
  next hs => exact restReaction_keepsDrives h (by rw [hs]; decide)
  next hs => exact restReaction_keepsDrives h (by rw [hs]; decide)
  next => exact proofWhileQueued_keepsDrives h
  next => exact feedbackWhileMoving_keepsDrives h
  next hs =>
    split
    · exact .ite h (settleAt_keepsDrives h (by rw [hs]; decide))
    · exact h

theorem feedbackChange_keepsDrives {n r' : Bool} (h : e.DrivesKept v r none) :
    (e.feedbackChange v t n r').DrivesKept v r none := by
  unfold Ev.feedbackChange
  split
  · exact h
  · have hs := setTurnout_keepsDrives (t := t) h (f := fun x => { x with
      normalIn := if x.normalIn.level = n then x.normalIn else ⟨n, none⟩
      reverseIn := if x.reverseIn.level = r' then x.reverseIn else ⟨r', none⟩ }) fun _ => ⟨rfl, rfl, id⟩
    refine .ite ?_ hs
    have hp := setTurnout_keepsDrives (t := t) hs (f := fun x => { x with
      proven := proves ‹TurnoutCfg›.feedback n r' (e.u.turnout t).proven }) fun _ => ⟨rfl, rfl, id⟩
    exact .ite (enterFailed_keepsDrives (hp.but t)) (feedbackReaction_keepsDrives hp)

theorem contactInput_keepsDrives {k : Contact} {l : Bool} (h : e.DrivesKept v r none) :
    (e.contactInput v t k l).DrivesKept v r none :=
  .ite (setTurnout_keepsDrives h fun x => by cases k <;> exact ⟨rfl, rfl, id⟩) h

/-! ## Timers (R41, R43, R44) -/

/-- R41: the pulse of turnout `t` is over: from here on its record alone does not fit. -/
theorem setCdu_keepsDrives {k : Nat} {x : Cdu} (h : e.DrivesKept v r none) (hc : e.u.tdu.cdu = .pulsing t k) :
    (e.setCdu x).DrivesKept v r (some t) := h.of_upholds (setCdu_at (drivesAlone_upholds h) hc) rfl

/-- R43: the proof at the end of turnout `t`'s pulse. -/
theorem judgePulse_keepsDrives {k : Nat} (h : e.DrivesKept v r none) (hc : e.u.tdu.cdu = .pulsing t k) :
    ((e.setCdu (.recharging 0)).judgePulse v t).DrivesKept v r none := by
  have hs := setCdu_keepsDrives (x := .recharging 0) h hc
  have hf : e.u.turnoutFits v r t := h.drives.fits t nofun
  unfold Ev.judgePulse
  split
  next pos hg hd =>
    have hd' : (e.u.turnout t).drive = some ⟨pos, .pulse⟩ := hd
    have hi : (e.u.turnout t).drive.isSome = true := by rw [hd']; rfl
    obtain ⟨ht, hq, rfl⟩ := h.of_driven hf hi
    have window : ((e.setCdu (.recharging 0)).setTurnout t fun x =>
        { x with drive := some ⟨pos, .window 0⟩ }).DrivesKept v true none :=
      (changed_keepsDrives hs id).restore (turnoutFits_window hf hi rfl (setTurnout_turnout_self (hs.lt ht) _))
    split
    · exact driveEnds_keepsDrives (changed_keepsDrives hs id) (setTurnout_driven hi hi) ht hq
    · exact .ite (driveEnds_keepsDrives hs hi ht hq) window
    · exact .ite (driveEnds_keepsDrives hs hi ht hq) window
  next hn =>
    have hp (p : Pos) : (e.u.turnout t).drive ≠ some ⟨p, .pulse⟩ := fun hd => by
      obtain ⟨c, hg⟩ := Option.isSome_iff_exists.1 (hf.known (hf.moving.1 (by rw [hd]; rfl)))
      exact hn c p hg hd
    exact hs.restore ⟨hf.queued, hf.moving, hf.known, fun p hd => absurd hd (hp p), hf.waits, hf.resting⟩

theorem pulseEnd_keepsDrives (h : e.DrivesKept v r none) : (e.pulseEnd v).DrivesKept v r none := by
  unfold Ev.pulseEnd
  split
  next hc => exact judgePulse_keepsDrives h hc
  all_goals exact h

theorem rechargeExpiry_keepsDrives (h : e.DrivesKept v r none) : (e.rechargeExpiry v).DrivesKept v r none := by
  unfold Ev.rechargeExpiry
  split
  next hc =>
    have fits (t : Nat) (ht : none ≠ some t) : (e.setCdu .ready).u.turnoutFits v r t :=
      turnoutFits_of_eq (h.drives.fits t ht) rfl Iff.rfl fun j hj => by rw [hc] at hj; cases hj
    exact arbiter_keepsDrives ⟨h.records, ⟨h.drives.once, fits, h.drives.motors⟩, h.config⟩
  all_goals exact h

theorem windowExpiry_keepsDrives (h : e.DrivesKept v r none) : (e.windowExpiry v t).DrivesKept v r none := by
  unfold Ev.windowExpiry
  split
  · exact driveEnd_keepsDrives h
  · exact h

theorem motorExpiry_keepsDrives (h : e.DrivesKept v r none) : (e.motorExpiry v t).DrivesKept v r none := by
  unfold Ev.motorExpiry
  split
  · split
    · exact driveEnd_keepsDrives (setTurnout_keepsDrives h fun _ => ⟨rfl, rfl, id⟩)
    · exact driveEnd_keepsDrives h
    · exact driveEnd_keepsDrives h
  · exact h

theorem turnoutRequest_keepsDrives {f : Frame} (h : e.DrivesKept v v.running none) :
    (e.turnoutRequest v f).DrivesKept v v.running none := by
  have said (k : Code) := h.frame (answer_goes v f.src .turnoutRequest (payloadAt f.payload 0) k e)
  unfold Ev.turnoutRequest
  dsimp only
  split
  · exact said _
  next hr =>
    split
    · exact said _
    next ht =>
      split
      · refine .ite (said _) (.ite (said _) (.ite (said _) ?_))
        have hr' : v.running = true := by simpa using hr
        rw [hr'] at h ⊢
        exact throw_keepsDrives h (Nat.lt_of_not_le ht)
      · exact said _

end

end Sys2Proof.Machine


/-! Law L10 (O24): the operations on routes, claims and mirrors, the end of an event, and the steps. -/

namespace Sys2Proof.Machine

set_option Elab.async false

section
variable {v : Env} {r : Bool} {ex : Option Nat} {e b : Ev} {t n : Nat} {c : RouteCfg}

/-! ## Acceptance and scan (R59, R76) -/

theorem takeHolds_keepsDrives (h : e.DrivesKept v true none) (hc : ∀ x ∈ c.turnouts ++ c.flank, x.1 < 32) :
    (e.takeHolds v n c).DrivesKept v true none :=
  (((h.frame (setHolders_goes ..)).foldl _ fun _ h _ _ => holdPath_keepsDrives h).foldl _
    fun _ h _ _ => holdFlank_keepsDrives h).foldl _ fun _ h x hx => .ite h (throw_keepsDrives h (hc x hx))

theorem accept_keepsDrives {d : ReportTo} {q : Option Request} (h : e.DrivesKept v true none)
    (hc : ∀ x ∈ c.turnouts ++ c.flank, x.1 < 32) : (e.accept v n c d q).DrivesKept v true none := by
  have hs := ((takeHolds_keepsDrives (n := n) (h.frame (setRoute_goes n (fun x => { x with
    reportTo := some d, attached := q, overlapHeld := c.overlap.isSome
    progress := c.path.map fun _ => .notEntered }) e)) hc).frame (report_goes v d n .accepted _)).frame
      (setEvaluated_goes c.entry (some n) _)
  unfold Ev.accept
  dsimp only
  split
  · exact (hs.frame (setRouteState_goes ..)).frame (openClaim_goes ..)
  · exact hs.frame (routeThrowing_goes ..)

theorem accepted_keepsDrives {b : Ev} {d : ReportTo} {q : Option Request} (h : e.DrivesKept v v.running none)
    (ha : acceptance v b.u n = .ok c) : (e.accept v n c d q).DrivesKept v v.running none := by
  obtain ⟨hr, hc⟩ := acceptance_ok ha
  rw [hr] at h ⊢
  exact accept_keepsDrives h fun x hx => (h.config.turnouts n c hc x hx).1

theorem routeRequest_keepsDrives {f : Frame} (h : e.DrivesKept v v.running none) :
    (e.routeRequest v f).DrivesKept v v.running none := by
  unfold Ev.routeRequest
  dsimp only
  split
  · exact h.frame (reportCode_goes ..)
  · exact accepted_keepsDrives h ‹_›

theorem tryRequest_keepsDrives {q : Request} (h : e.DrivesKept v v.running none) :
    (e.tryRequest v q).DrivesKept v v.running none := by
  unfold Ev.tryRequest
  split
  · split
    · exact h
    · exact accepted_keepsDrives (h.frame (setWaiting_goes ..)) ‹_›
  · exact h

theorem scanList_keepsDrives (h : e.DrivesKept v v.running none) : (e.scanList v).DrivesKept v v.running none :=
  h.foldl _ fun _ h _ _ => tryRequest_keepsDrives h

/-! ## Passage and cancel (R64 to R72) -/

theorem routeEndIfDone_keepsDrives (h : e.DrivesKept v r ex) : (e.routeEndIfDone v n c).DrivesKept v r ex := by
  have hs := ((releaseTurnouts_keepsDrives (n := n) (c := c) h).frame (closeClaim_goes v n c _)).frame (routeIdle_goes n c _)
  unfold Ev.routeEndIfDone
  refine .ite ?_ h
  dsimp only
  split
  · exact hs.frame (report_goes ..)
  · exact hs

theorem routeMeetsClear_keepsDrives {i : Nat} (h : e.DrivesKept v r ex) :
    (e.routeMeetsClear v n c i).DrivesKept v r ex :=
  have hp := releasePathBlock_keepsDrives (n := n) (c := c) (i := i) h
  .ite h (.ite (.ite h (routeEndIfDone_keepsDrives hp)) (.ite (.ite
    (routeEndIfDone_keepsDrives (.ite (releaseOverlap_keepsDrives hp) hp)) (h.frame (setRoute_goes ..))) h))

theorem routeGivenUp_keepsDrives (h : e.DrivesKept v r ex) : (e.routeGivenUp v n c).DrivesKept v r ex :=
  ((releaseHolds_keepsDrives h).frame (closeClaim_goes ..)).frame (routeIdle_goes ..)

theorem approachEnd_keepsDrives (h : e.DrivesKept v r ex) : (e.approachEnd v n c).DrivesKept v r ex := by
  have hs := routeGivenUp_keepsDrives (n := n) (c := c) h
  unfold Ev.approachEnd
  dsimp only
  split
  · exact hs.frame (report_goes ..)
  · exact hs

theorem approachCleared_keepsDrives {b : BlockRef} (h : e.DrivesKept v r ex) :
    (e.approachCleared v b n).DrivesKept v r ex := by
  unfold Ev.approachCleared
  split
  · exact .ite (approachEnd_keepsDrives h) h
  · exact h

theorem overlapCleared_keepsDrives {b : Nat} (h : e.DrivesKept v r ex) : (e.overlapCleared v b n).DrivesKept v r ex := by
  unfold Ev.overlapCleared
  split
  · exact .ite (routeEndIfDone_keepsDrives (releaseOverlap_keepsDrives h)) h
  · exact h

theorem routesClear_keepsDrives {b : Nat} (h : e.DrivesKept v r ex) : (e.routesClear v b).DrivesKept v r ex := by
  refine h.foldl _ fun e h n _ => approachCleared_keepsDrives (overlapCleared_keepsDrives ?_)
  split
  · split
    · exact routeMeetsClear_keepsDrives h
    · exact h
  · exact h

theorem approachExpiry_keepsDrives (h : e.DrivesKept v r ex) : (e.approachExpiry v n).DrivesKept v r ex := by
  unfold Ev.approachExpiry
  split
  · exact .ite (approachEnd_keepsDrives h) h
  · exact h

theorem forceRelease_keepsDrives (h : e.DrivesKept v r ex) : (e.forceRelease v n c).DrivesKept v r ex := by
  unfold Ev.forceRelease
  refine routeEndIfDone_keepsDrives ?_
  have hs := Ev.DrivesKept.foldl (h.frame (setRoute_goes n (fun x => { x with forced := true }) e))
    (List.range c.path.length) (g := fun e i => if (match c.path[i]? with
      | some b => !(e.u.block b).occupied
      | none => false) && (e.u.route n).progress.getD i .released != .released then e.releasePathBlock v n c i else e)
    fun _ h _ _ => .ite (releasePathBlock_keepsDrives h) h
  dsimp only
  split
  · exact .ite hs (releaseOverlap_keepsDrives hs)
  · exact hs

theorem cancelRoute_keepsDrives {s : Nat} (h : e.DrivesKept v r none) : (e.cancelRoute v s n c).DrivesKept v r none := by
  have hw := ((withdrawThrows_keepsDrives (c := c) (releaseHolds_keepsDrives (n := n) (c := c) h)).frame
    (closeClaim_goes v n c _)).frame (routeIdle_goes n c _)
  have withdrawn (q : Option Request) : (match q with
      | some q => Ev.tellLost v q.source.entry ((((e.releaseHolds v n c).withdrawThrows v c).closeClaim v n c).routeIdle n c)
      | none => (((e.releaseHolds v n c).withdrawThrows v c).closeClaim v n c).routeIdle n c).DrivesKept v r none := by
    split
    · exact hw.frame (tellLost_goes ..)
    · exact hw
  unfold Ev.cancelRoute
  dsimp only
  split
  · exact h.frame (report_goes ..)
  · exact h.frame (report_goes ..)
  · exact ((withdrawn _).frame (callScan_goes _)).frame (reportCancelled_goes ..)
  · exact ((withdrawn _).frame (callScan_goes _)).frame (reportCancelled_goes ..)
  · exact .ite (((h.frame (setRoute_goes ..)).frame (setRouteState_goes ..)).frame (report_goes ..))
      ((routeGivenUp_keepsDrives h).frame (reportCancelled_goes ..))
  · have hr := h.frame (report_goes v (.station s) n .cancelled e)
    exact .ite hr (forceRelease_keepsDrives hr)

theorem routeCancel_keepsDrives {f : Frame} (h : e.DrivesKept v r none) : (e.routeCancel v f).DrivesKept v r none := by
  unfold Ev.routeCancel
  refine .ite (h.frame (reportCode_goes ..)) (.ite (h.frame (reportCode_goes ..)) ?_)
  split
  · exact cancelRoute_keepsDrives h
  · exact h.frame (reportCode_goes ..)

/-- R6: what the other units do at a CLEAR event. -/
theorem dropExpiry_keepsDrives (h : e.DrivesKept v r none) : (e.dropExpiry v n).DrivesKept v r none := by
  unfold Ev.dropExpiry
  refine .ite ?_ h
  have hc := (h.frame (setFilter_goes n (fun _ => ⟨.clear, none⟩) e)).frame (clearedTrain_goes v n _)
  have ha := arbiter_keepsDrives (routesClear_keepsDrives (b := n) (hc.frame (claimsClear_goes v n _)))
  have hb := routesClear_keepsDrives (b := n) (hc.frame (claimsClear_goes v n _))
  exact (((Ev.DrivesKept.ite ha hb).frame (departures_goes ..)).frame (occupancyReaches_goes ..)).frame
    (approachChanged_goes ..)

/-! ## Claims (R80 to R87) -/

theorem claimRefuse_keepsDrives {f : Frame} (h : e.DrivesKept v r none) : (e.claimRefuse v f).DrivesKept v r none := by
  unfold Ev.claimRefuse
  split
  · split
    · exact routeFail_keepsDrives (h.frame (setClaimState_goes ..))
    · exact h.frame (claimLost_goes ..)
    all_goals exact h
  · exact h

theorem answerTimeout_keepsDrives (h : e.DrivesKept v r none) : (e.answerTimeout v n).DrivesKept v r none := by
  unfold Ev.answerTimeout
  split
  · exact h
  · split
    next p _ tag _ _ _ =>
      have hr := h.frame (releaseClaim_goes v p.owner tag e)
      dsimp only
      split
      · exact routeFail_keepsDrives (hr.frame (setClaimState_goes ..))
      · exact hr.frame (claimLost_goes ..)
      all_goals exact hr
    · exact h

theorem ownerAnnounced_keepsDrives {p : ForeignPart} (h : e.DrivesKept v r none) :
    (e.ownerAnnounced v n c p).DrivesKept v r none := by
  unfold Ev.ownerAnnounced
  dsimp only
  split
  · exact h
  · refine routeFail_keepsDrives (Ev.DrivesKept.frame ?_ (setClaimState_goes ..))
    split
    · exact h.frame (releaseClaim_goes ..)
    · exact h
  · exact .ite h (h.frame (setClaimState_goes ..))
  all_goals exact h.frame (setClaimState_goes ..)

theorem announcedOwner_keepsDrives {s : Nat} (h : e.DrivesKept v r none) : (e.announcedOwner v s).DrivesKept v r none := by
  refine h.foldl _ fun e h n _ => ?_
  split
  · split
    · exact .ite (ownerAnnounced_keepsDrives h) h
    · exact h
  · exact h

/-! ## Mirrors and reception (R13 to R18, R187) -/

theorem changeBMirror_keepsDrives {i : Nat} {f : BlockMirror → BlockMirror} (h : e.DrivesKept v r ex) :
    (e.changeBMirror v i f).DrivesKept v r ex :=
  have hs := (h.frame (setBMirror_goes i f e)).frame (approachChanged_goes v (.mirror i) _)
  .ite (hs.foldl _ fun _ h _ _ => approachCleared_keepsDrives h) hs

theorem occupancyReport_keepsDrives {x : RxFrame} (h : e.DrivesKept v r ex) :
    (e.occupancyReport v x).DrivesKept v r ex := by
  have hs : ((blockItems x.frame.payload).foldl (fun e y => e.takeBlockItem v x.frame.src x.precedes y) e).DrivesKept v r ex :=
    h.foldl _ fun e h y _ => by
      unfold Ev.takeBlockItem
      split
      · exact changeBMirror_keepsDrives h
      · exact h
  exact .ite (hs.frame (reclaim_goes ..)) hs

theorem mirrorLapse_keepsDrives {m : MirrorId} (h : e.DrivesKept v r ex) : (e.mirrorLapse v m).DrivesKept v r ex := by
  cases m with
  | block i => exact .ite (changeBMirror_keepsDrives h) h
  | signal i => exact .ite (h.frame (changeSMirror_goes ..)) h

theorem staleMirrors_keepsDrives {p : Nat → Bool} (h : e.DrivesKept v r ex) :
    (e.staleMirrors v p).DrivesKept v r ex :=
  (h.foldl _ fun _ h _ _ => .ite (changeBMirror_keepsDrives h) h).foldl _ fun _ h _ _ =>
    .ite (h.frame (changeSMirror_goes ..)) h

theorem announce_keepsDrives {f : Frame} (h : e.DrivesKept v r none) : (e.announce v f).DrivesKept v r none :=
  have hs := staleMirrors_keepsDrives (p := fun s => s == f.src) h
  .ite (((announcedOwner_keepsDrives (hs.frame (publishAll_goes v _))).frame (dropClaims_goes ..)).frame
    (dropWatches_goes ..)) hs

theorem receiveOverflow_keepsDrives (h : e.DrivesKept v r ex) : (e.receiveOverflow v).DrivesKept v r ex :=
  have hm := h.frame (link_raiseMissed_goes e)
  have hk := (staleMirrors_keepsDrives (p := fun _ => true) hm).frame (markLoss_goes _)
  .ite hm ((hk.frame (askRefresh_goes ..)).frame (link_pend_goes ..))

/-- A change of the link alone. -/
theorem link_keepsDrives {f : Link → Link} (h : e.DrivesKept v r ex) : (e.link f).DrivesKept v r ex :=
  ⟨h.records, drivesBut_congr h.drives rfl, h.config⟩

theorem received_keepsDrives {x : Verdict} (h : e.DrivesKept v r ex) : (e.received v x).DrivesKept v r ex := by
  have hl := h.frame (receptionLost_goes v e)
  cases x with
  | badFraming | badCrc => exact link_keepsDrives hl
  | clash => exact h
  | notForUs => exact hl
  | full => exact receiveOverflow_keepsDrives hl
  | placed f => exact ⟨h.records, drivesBut_congr h.drives rfl, h.config⟩

theorem frameSent_keepsDrives (h : e.DrivesKept v r ex) : e.frameSent.DrivesKept v r ex := by
  unfold Ev.frameSent
  split
  · exact .ite (link_keepsDrives h) h
  · exact h

theorem collision_keepsDrives (h : e.DrivesKept v r ex) : e.collision.DrivesKept v r ex := by
  unfold Ev.collision
  split
  · exact h
  · refine .ite h (.ite (link_keepsDrives h) (.ite (link_keepsDrives h) ?_))
    exact (link_keepsDrives h).frame (drawn_goes _)

/-! ## Entry into RUNNING (R199) -/

/-- R37, R46: the contacts are read while every turnout is at rest. -/
theorem readContacts_keepsDrives (h : e.DrivesKept v false none) : (e.readContacts v).DrivesKept v false none := by
  refine h.foldl _ fun e h t _ => ?_
  dsimp only
  split
  · exact h
  next c _ =>
    have hs := resting_keepsDrives (t := t)
      (f := Turnout.start c.feedback (v.pins.normals.getD t false) (v.pins.reverses.getD t false)) h
      ((h.drives.fits t nofun).resting rfl)
      fun x hx => ⟨(restingState_atRest _).1, (restingState_atRest _).2, hx.noDrive, hx.noRequester⟩
    exact .ite (enterFailed_keepsDrives (hs.but t)) hs

/-- What holds while no turnout may be QUEUED or MOVING holds where they may. -/
theorem Ev.DrivesKept.relax (h : e.DrivesKept v false none) : e.DrivesKept v r none :=
  ⟨h.records, ⟨h.drives.once, fun t ht =>
    { h.drives.fits t ht with resting := fun _ => (h.drives.fits t ht).resting rfl }, h.drives.motors⟩, h.config⟩

theorem enterRunning_keepsDrives (h : e.DrivesKept v false none) : (e.enterRunning v).DrivesKept v r none := by
  have hc : ((e.readDetectors v).readContacts v).DrivesKept v r none :=
    (readContacts_keepsDrives (h.frame (readDetectors_goes v e))).relax
  have hb := ((hc.frame (startProving_goes v _)).frame (readLock_goes v _)).frame (readButtons_goes v _)
  exact ((hb.frame (startTimers_goes _)).frame (publishAll_goes v _)).frame (callCompose_goes _)

/-! ## Whole events -/

theorem Ev.DrivesKept.of_u (h : e.DrivesKept v r ex) (hu : b.u = e.u) : b.DrivesKept v r ex :=
  ⟨by rw [hu]; exact h.records, by rw [hu]; exact h.drives, h.config⟩

theorem ended_keepsDrives (h : e.DrivesKept v v.running none) : (e.ended v).DrivesKept v v.running none := by
  have hm := h.frame (settleMoves_goes v e)
  have hs : ((e.settleMoves v).settleScan v).DrivesKept v v.running none := .ite (scanList_keepsDrives hm) hm
  exact ((((hs.frame (testPossessions_goes _)).frame (settleSignals_goes v _)).frame (carryTimer_goes v _)).frame
    (notices_goes v _)).frame (settleBoard_goes v _)

theorem settle_keepsDrives (h : e.DrivesKept v v.running none) : (Ev.start (settle v e)).DrivesKept v v.running none :=
  ((ended_keepsDrives h).frame (offerFrames_goes v _)).of_u (settle_eq v e)

end

section
variable {s : State} {f : Env → Ev → Ev}

/-- What law L10 rests on in a state: 32 turnout records, sound drives, a lawful configuration. -/
def State.drivesKept (s : State) : Prop := (Ev.start s.units).DrivesKept s.env s.env.running none

theorem drivesKept_iff : s.drivesKept ↔
    s.units.tdu.turnouts.length = 32 ∧ s.units.drivesSound s.env ∧ Lawful s.sys.cfg :=
  ⟨fun h => ⟨h.records, drivesBut_none_iff.1 h.drives, h.config⟩,
   fun ⟨hl, hd, hc⟩ => ⟨hl, drivesBut_none_iff.2 hd, hc⟩⟩

/-- Of the environment the drives' soundness reads the configuration and whether the station is RUNNING. -/
theorem drivesSound_env {u : Units} {v w : Env} (h : u.drivesSound v) (hc : w.cfg = v.cfg) (hr : w.running = v.running) :
    u.drivesSound w :=
  { h with
    known := by rw [hc]; exact h.known
    motors := by rw [Units.motorsMoving, hc]; exact h.motors
    resting := by rw [hr]; exact h.resting }

theorem drivesKept_congr {t : State} (h : s.drivesKept) (hu : t.units.tdu = s.units.tdu) (hy : t.sys = s.sys) :
    t.drivesKept := by
  obtain ⟨hl, hd, hx⟩ := drivesKept_iff.1 h
  have hb := drivesBut_congr (u' := t.units) (drivesBut_none_iff.2 hd) hu
  have hc : t.env.cfg = s.env.cfg := congrArg Sys.cfg hy
  have hr : t.env.running = s.env.running := congrArg (fun y : Sys => y.station == .running) hy
  exact drivesKept_iff.2 ⟨by rw [hu]; exact hl, drivesSound_env (drivesBut_none_iff.1 hb) hc hr, by rw [hy]; exact hx⟩

theorem become_drivesKept {y : Sys} {u : Units}
    (h : (f ⟨y, s.pins⟩ (.start u)).DrivesKept ⟨y, s.pins⟩ (Env.running ⟨y, s.pins⟩) none) :
    (s.become y u f).drivesKept := by
  have hs := settle_keepsDrives h
  unfold State.drivesKept
  rw [become_units]
  exact hs

theorem event_drivesKept (h : s.drivesKept)
    (hf : ∀ e, e.DrivesKept s.env s.env.running none → (f s.env e).DrivesKept s.env s.env.running none) :
    (s.event f).drivesKept := become_drivesKept (f := f) (hf _ h)

theorem whenRunning_drivesKept (h : s.drivesKept)
    (hf : ∀ e, e.DrivesKept s.env s.env.running none → (f s.env e).DrivesKept s.env s.env.running none) :
    (s.whenRunning f).drivesKept := by
  unfold State.whenRunning
  split
  · exact event_drivesKept h hf
  · exact h

theorem whenStarted_drivesKept (h : s.drivesKept)
    (hf : ∀ e, e.DrivesKept s.env s.env.running none → (f s.env e).DrivesKept s.env s.env.running none) :
    (s.whenStarted f).drivesKept := by
  unfold State.whenStarted
  split
  · exact event_drivesKept h hf
  · exact h

theorem whenTable_drivesKept {f : Env → TurntableCfg → Ev → Ev} (h : s.drivesKept)
    (hf : ∀ g e, e.DrivesKept s.env s.env.running none → (f s.env g e).DrivesKept s.env s.env.running none) :
    (s.whenTable f).drivesKept := by
  unfold State.whenTable
  split
  · exact whenRunning_drivesKept h (hf _)
  · exact h

theorem takeFrame_drivesKept {takes : Frame → Bool} {act : RxFrame → State → State} (h : s.drivesKept)
    (ha : ∀ x t, t.drivesKept → t.env = s.env → (act x t).drivesKept) : (s.takeFrame takes act).drivesKept := by
  unfold State.takeFrame
  split
  · split
    · exact ha _ _ (drivesKept_congr h rfl rfl) rfl
    · exact h
  · exact h

theorem takeStarted_drivesKept {takes : Frame → Bool} {f : Env → RxFrame → Ev → Ev} (h : s.drivesKept)
    (hf : ∀ x e, e.DrivesKept s.env s.env.running none → (f s.env x e).DrivesKept s.env s.env.running none) :
    (s.takeStarted takes f).drivesKept :=
  takeFrame_drivesKept h fun x t ht hv => whenStarted_drivesKept ht (by rw [hv]; exact hf x)

theorem takeRunning_drivesKept {takes : Frame → Bool} {f : Env → RxFrame → Ev → Ev} (h : s.drivesKept)
    (hf : ∀ x e, e.DrivesKept s.env s.env.running none → (f s.env x e).DrivesKept s.env s.env.running none) :
    (s.takeRunning takes f).drivesKept :=
  takeFrame_drivesKept h fun x t ht hv => whenRunning_drivesKept ht (by rw [hv]; exact hf x)

theorem setPins_drivesKept {g : Pins → Pins} (h : s.drivesKept) : (s.setPins g).drivesKept := drivesKept_congr h rfl rfl

theorem State.drivesKept.ite {p : Prop} [Decidable p] {t : State} (hs : s.drivesKept) (ht : t.drivesKept) :
    (if p then s else t).drivesKept := by
  split
  · exact hs
  · exact ht

/-! ## Start-up and restart (R196 to R200) -/

/-- Units whose turnouts are all at rest keep law L10 in a station that is not RUNNING. -/
theorem start_keepsDrives_of_rests {u : Units} {v : Env} {r : Bool} (hl : u.tdu.turnouts.length = 32) (hq : u.tdu.queue = [])
    (hrest : ∀ t, (u.turnout t).Rests) (hc : Lawful v.cfg) : (Ev.start u).DrivesKept v r none :=
  ⟨hl, ⟨by simp [hq], fun t _ => turnoutFits_of_rests (by simp [hq]) (hrest t), (drivesSound_of_rests hq hrest).motors⟩, hc⟩

theorem initial_keepsDrives {u : Units} {v : Env} {r : Bool} (hu : u.tdu = Units.initial.tdu) (hc : Lawful v.cfg) :
    (Ev.start u).DrivesKept v r none :=
  start_keepsDrives_of_rests (by rw [hu]; rfl) (by rw [hu]; rfl)
    (fun t => by rw [show u.turnout t = .initial by rw [Units.turnout, hu]; exact initial_turnout t]; exact initial_rests) hc

/-- A station that is not RUNNING has every turnout at rest, and keeps it so under any configuration. -/
theorem rests_keepsDrives {u : Units} {w : Env} {r : Bool} (h : s.drivesKept) (hr : s.env.running = false)
    (hu : u.tdu = s.units.tdu) (hc : Lawful w.cfg) : (Ev.start u).DrivesKept w r none := by
  obtain ⟨hl, hd, -⟩ := drivesKept_iff.1 h
  obtain ⟨hq, hrest⟩ := rests_of_not_running hd hr
  exact start_keepsDrives_of_rests (by rw [hu]; exact hl) (by rw [hu]; exact hq)
    (fun t => by rw [Units.turnout, hu]; exact hrest t) hc

theorem supplySettled_drivesKept (h : s.drivesKept) : s.supplySettled.drivesKept := by
  unfold State.supplySettled
  split
  next hp =>
    exact become_drivesKept (f := fun _ e => e) (rests_keepsDrives h (not_running_of_station (by rw [hp]; decide)) rfl h.config)
  · exact h

theorem sendAnnounce_keepsDrives {e : Ev} {v : Env} {r b : Bool} (h : e.DrivesKept v r none) :
    (e.sendAnnounce v b).DrivesKept v r none := h.frame (sendAnnounce_goes v b e)

theorem writeFault_keepsDrives {e : Ev} {v : Env} {r : Bool} {k : FaultKind} {x : Item} (h : e.DrivesKept v r none) :
    (e.writeFault k x).DrivesKept v r none := h.frame (writeFault_goes k x e)

theorem drawn_keepsDrives {e : Ev} {v : Env} {r : Bool} (h : e.DrivesKept v r none) : e.drawn.DrivesKept v r none :=
  h.frame (drawn_goes e)

theorem accepted_drivesKept {i : Image} (h : s.drivesKept) (hv : s.env.running = false) (hi : imageFault i = none) :
    (s.accepted i).drivesKept :=
  become_drivesKept (f := fun v e => e.sendAnnounce v false)
    (sendAnnounce_keepsDrives (rests_keepsDrives h hv rfl (lawful_of_accepted hi)))

theorem refused_drivesKept {i : Image} {k : FaultKind} {x : Item} (h : s.drivesKept) (hv : s.env.running = false) :
    (s.refused i k x).drivesKept :=
  become_drivesKept (f := fun v e => (e.drawn.writeFault k x).sendAnnounce v true)
    (sendAnnounce_keepsDrives (writeFault_keepsDrives
      (drawn_keepsDrives (rests_keepsDrives h hv rfl (lawful_of_empty rfl rfl)))))

theorem imageRead_drivesKept {i : Image} (h : s.drivesKept) : (s.imageRead i).drivesKept := by
  unfold State.imageRead
  split
  next hs =>
    have hv : s.env.running = false := not_running_of_station (by rw [hs]; decide)
    split
    next hi => exact accepted_drivesKept h hv hi
    · exact refused_drivesKept h hv
  · exact h

theorem restart_drivesKept (h : s.drivesKept) : s.restart.drivesKept :=
  become_drivesKept (f := fun _ e => e) (initial_keepsDrives rfl h.config)

theorem addressClash_drivesKept (h : s.drivesKept) : s.addressClash.drivesKept := by
  unfold State.addressClash
  refine become_drivesKept ?_
  dsimp only
  have hs : (Ev.start { s.units.keepMirrors (s.units.restarted s.sys.cfg) with
      lnk := (s.units.keepMirrors (s.units.restarted s.sys.cfg)).lnk.watching }).DrivesKept
      ⟨{ s.sys with station := .configFault, settle := none }, s.pins⟩ false none := initial_keepsDrives rfl h.config
  split
  · exact (hs.frame (writeFault_goes ..)).frame (sendAnnounce_goes ..)
  · exact hs

theorem settled_drivesKept (h : s.drivesKept) : s.settled.drivesKept := by
  unfold State.settled
  split
  next hs =>
    have hv : s.env.running = false := not_running_of_station (by rw [hs.1]; decide)
    exact become_drivesKept (f := Ev.enterRunning) (enterRunning_keepsDrives (rests_keepsDrives h hv rfl h.config))
  · exact h

theorem powerUp_drivesKept (s : State) (k : RestartCause) : (s.powerUp k).drivesKept :=
  initial_keepsDrives rfl (lawful_of_empty rfl rfl)

theorem frameEnd_drivesKept {bytes : List Byte} {broken : Bool} (h : s.drivesKept) :
    (s.frameEnd bytes broken).drivesKept := by
  unfold State.frameEnd
  dsimp only
  refine .ite h ?_
  split
  · exact .ite (event_drivesKept h fun e k => link_keepsDrives k) (addressClash_drivesKept h)
  · exact event_drivesKept h fun e k => link_keepsDrives (received_keepsDrives k)

/-! ## A millisecond, a command, a step -/

theorem tickTimers_drivesKept (h : s.drivesKept) : s.tickTimers.drivesKept := by
  have hu : s.tickTimers.units.tdu = s.units.tick.tdu := by
    unfold State.tickTimers
    dsimp only
    split <;> rfl
  refine drivesKept_iff.2 ⟨?_, ?_, h.config⟩
  · rw [hu]
    exact (List.length_map _).trans h.records
  · exact drivesSound_env (drivesBut_none_iff.1 (drivesBut_congr (tick_drives h.drives) hu)) rfl rfl

theorem exec_drivesKept (c : Instr) (h : s.drivesKept) : ∀ t, exec c s = .next t → t.drivesKept := by
  suffices hx : ∃ t, exec c s = .next t ∧ t.drivesKept by
    obtain ⟨t, ht, hk⟩ := hx
    intro t' ht'
    rw [ht] at ht'
    cases ht'
    exact hk
  cases c with
  | powerOn | resetPin => exact ⟨_, rfl, powerUp_drivesKept s _⟩
  | supplySettled => exact ⟨_, rfl, supplySettled_drivesKept h⟩
  | imageReadComplete i => exact ⟨_, rfl, imageRead_drivesKept h⟩
  | settleTimerExpiry => exact ⟨_, rfl, settled_drivesKept h⟩
  | restart => exact ⟨_, rfl, takeFrame_drivesKept h fun x t ht _ => .ite (restart_drivesKept ht) ht⟩
  | detectorDropExpiry n => exact ⟨_, rfl, whenRunning_drivesKept h fun e k => dropExpiry_keepsDrives k⟩
  | mirrorLapse m => exact ⟨_, rfl, whenStarted_drivesKept h fun e k => mirrorLapse_keepsDrives k⟩
  | turnoutFeedbackChange t n r =>
    exact ⟨_, rfl, .ite (event_drivesKept (setPins_drivesKept h) fun e k => feedbackChange_keepsDrives k) h⟩
  | turnoutRequest => exact ⟨_, rfl, takeStarted_drivesKept h fun x e k => turnoutRequest_keepsDrives k⟩
  | solenoidPulseEnd => exact ⟨_, rfl, whenRunning_drivesKept h fun e k => pulseEnd_keepsDrives k⟩
  | cduRechargeExpiry => exact ⟨_, rfl, whenRunning_drivesKept h fun e k => rechargeExpiry_keepsDrives k⟩
  | confirmWindowExpiry t => exact ⟨_, rfl, whenRunning_drivesKept h fun e k => windowExpiry_keepsDrives k⟩
  | motorTimeoutExpiry t => exact ⟨_, rfl, whenRunning_drivesKept h fun e k => motorExpiry_keepsDrives k⟩
  | turnoutContactInputChange t x level =>
    exact ⟨_, rfl, whenRunning_drivesKept (setPins_drivesKept h) fun e k => contactInput_keepsDrives k⟩
  | routeRequest => exact ⟨_, rfl, takeStarted_drivesKept h fun x e k => routeRequest_keepsDrives k⟩
  | routeCancel => exact ⟨_, rfl, takeStarted_drivesKept h fun x e k => routeCancel_keepsDrives k⟩
  | approachReleaseExpiry n => exact ⟨_, rfl, whenRunning_drivesKept h fun e k => approachExpiry_keepsDrives k⟩
  | claimAnswerRefuse =>
    exact ⟨_, rfl, takeStarted_drivesKept h fun x e k => .ite (claimRefuse_keepsDrives k) k⟩
  | claimAnswerTimeout n => exact ⟨_, rfl, whenRunning_drivesKept h fun e k => answerTimeout_keepsDrives k⟩
  | occupancyReportTaken => exact ⟨_, rfl, takeStarted_drivesKept h fun x e k => occupancyReport_keepsDrives k⟩
  | announceTaken => exact ⟨_, rfl, takeStarted_drivesKept h fun x e k => announce_keepsDrives k⟩
  | frameEnd bytes broken => exact ⟨_, rfl, frameEnd_drivesKept h⟩
  | frameSent => exact ⟨_, rfl, event_drivesKept h fun e k => frameSent_keepsDrives k⟩
  | collision => exact ⟨_, rfl, event_drivesKept h fun e k => collision_keepsDrives k⟩
  | lineStartBit => exact ⟨_, rfl, .ite (event_drivesKept h fun e k => link_keepsDrives k) h⟩
  | detectorRiseExpiry n => exact ⟨_, rfl, whenRunning_drivesKept h fun e k => k.frame (riseExpiry_goes ..)⟩
  | republishTimerExpiry => exact ⟨_, rfl, whenRunning_drivesKept h fun e k => k.frame (republish_goes ..)⟩
  | deckCarryLapse => exact ⟨_, rfl, whenRunning_drivesKept h fun e k => k.frame (carryLapse_goes ..)⟩
  | tagSet => exact ⟨_, rfl, takeStarted_drivesKept h fun x e k => k.frame (tagSet_goes ..)⟩
  | claimAnswerGrant => exact ⟨_, rfl, takeStarted_drivesKept h fun x e k => k.frame (claimGrant_goes ..)⟩
  | ownerWaitExpiry n => exact ⟨_, rfl, whenRunning_drivesKept h fun e k => k.frame (ownerWaitExpiry_goes ..)⟩
  | claimBlockListReceived bytes =>
    exact ⟨_, rfl, whenRunning_drivesKept h fun e k => k.frame (blockListReceived_goes ..)⟩
  | claimRequestTaken => exact ⟨_, rfl, takeStarted_drivesKept h fun x e k => k.frame (claimRequest_goes ..)⟩
  | claimRelease => exact ⟨_, rfl, takeStarted_drivesKept h fun x e k => k.frame (claimRelease_goes ..)⟩
  | claimPurge => exact ⟨_, rfl, takeStarted_drivesKept h fun x e k => k.frame (claimPurge_goes ..)⟩
  | approachControlExpiry n => exact ⟨_, rfl, whenRunning_drivesKept h fun e k => k.frame (releaseControl_goes ..)⟩
  | lampProvingExpiry n => exact ⟨_, rfl, whenRunning_drivesKept h fun e k => k.frame (lampProven_goes ..)⟩
  | zoneStop => exact ⟨_, rfl, takeStarted_drivesKept h fun x e k => k.frame (zoneStop_goes ..)⟩
  | zoneResume => exact ⟨_, rfl, takeStarted_drivesKept h fun x e k => k.frame (zoneResume_goes ..)⟩
  | watchSet => exact ⟨_, rfl, takeStarted_drivesKept h fun x e k => k.frame (watchSet_goes ..)⟩
  | watchClear => exact ⟨_, rfl, takeStarted_drivesKept h fun x e k => k.frame (watchClear_goes ..)⟩
  | turntableMove | turntableSwap => exact ⟨_, rfl, takeStarted_drivesKept h fun x e k => k.frame (moveRequest_goes ..)⟩
  | turntableCancelAll => exact ⟨_, rfl, takeStarted_drivesKept h fun x e k => k.frame (cancelMoves_goes ..)⟩
  | lockConfirmWithdrawn =>
    exact ⟨_, rfl, .ite (whenTable_drivesKept (setPins_drivesKept h) fun g e k => k.frame (confirmWithdrawn_goes ..)) h⟩
  | lockConfirmEngaged =>
    exact ⟨_, rfl, .ite (whenTable_drivesKept (setPins_drivesKept h) fun g e k => k.frame (confirmEngaged_goes ..)) h⟩
  | unlockConfirmExpiry => exact ⟨_, rfl, whenTable_drivesKept h fun g e k => k.frame (unlockExpiry_goes ..)⟩
  | stepIntervalExpiry home =>
    exact ⟨_, rfl, setPins_drivesKept (whenTable_drivesKept h fun g e k => k.frame (stepExpiry_goes ..))⟩
  | lockConfirmExpiry => exact ⟨_, rfl, whenTable_drivesKept h fun g e k => k.frame (lockExpiry_goes ..)⟩
  | lockConfirmInputChange level =>
    exact ⟨_, rfl, whenTable_drivesKept (setPins_drivesKept h) fun g e k => k.frame (ttc_goes ..)⟩
  | scaleRollover => exact ⟨_, rfl, whenRunning_drivesKept h fun e k => k.frame (scaleRollover_goes ..)⟩
  | clockSet => exact ⟨_, rfl, takeRunning_drivesKept h fun x e k => k.frame (clockSet_goes ..)⟩
  | clockControlRun | clockControlStop =>
    exact ⟨_, rfl, takeRunning_drivesKept h fun x e k => k.frame (clockControl_goes ..)⟩
  | clockBeacon => exact ⟨_, rfl, takeRunning_drivesKept h fun x e k => k.frame (clockBeacon_goes ..)⟩
  | timetableLoad => exact ⟨_, rfl, takeStarted_drivesKept h fun x e k => k.frame (timetableLoad_goes ..)⟩
  | timetableCancel => exact ⟨_, rfl, takeStarted_drivesKept h fun x e k => k.frame (timetableCancel_goes ..)⟩
  | buttonPress b => exact ⟨_, rfl, whenRunning_drivesKept h fun e k => k.frame (pressExpiry_goes ..)⟩
  | buttonReleaseFilter b => exact ⟨_, rfl, whenRunning_drivesKept h fun e k => k.frame (releaseExpiry_goes ..)⟩
  | buttonInputChange b level =>
    exact ⟨_, rfl, whenRunning_drivesKept (setPins_drivesKept h) fun e k => k.frame (buttonInput_goes ..)⟩
  | guardExpiry b => exact ⟨_, rfl, whenRunning_drivesKept h fun e k => k.frame (guardExpiry_goes ..)⟩
  | lampFlashExpiry b => exact ⟨_, rfl, whenRunning_drivesKept h fun e k => k.frame (flashExpiry_goes ..)⟩
  | boardRowSent => exact ⟨_, rfl, event_drivesKept h fun e k => k.frame (rowSent_goes ..)⟩
  | boardRefreshExpiry => exact ⟨_, rfl, whenRunning_drivesKept h fun e k => k.frame (refreshRows_goes ..)⟩
  | aspectReportTaken => exact ⟨_, rfl, takeStarted_drivesKept h fun x e k => k.frame (aspectReport_goes ..)⟩
  | refreshQuery => exact ⟨_, rfl, takeRunning_drivesKept h fun x e k => k.frame (refreshQuery_goes ..)⟩
  | statusQuery =>
    exact ⟨_, rfl, takeFrame_drivesKept h fun x t ht _ => .ite (event_drivesKept ht fun e k => k.frame (statusQuery_goes ..)) ht⟩
  | urgentGapReached => exact ⟨_, rfl, .ite (event_drivesKept h fun e k => k.frame (urgentGap_goes ..)) h⟩
  | ordinaryGapReached => exact ⟨_, rfl, .ite (event_drivesKept h fun e k => k.frame (ordinaryGap_goes ..)) h⟩
  | backoffRetry => exact ⟨_, rfl, event_drivesKept h fun e k => k.frame (backoffRetry_goes ..)⟩
  | detectorInputChange n level =>
    exact ⟨_, rfl, whenRunning_drivesKept (setPins_drivesKept h) fun e k => k.frame (detectorInput_goes ..)⟩
  | redLampInputChange n level =>
    exact ⟨_, rfl, whenRunning_drivesKept (setPins_drivesKept h) fun e k => k.frame (lampInput_goes ..)⟩

theorem step_drivesKept (h : s.drivesKept) : ∀ t, step s = .next t → t.drivesKept := by
  intro t ht
  unfold step at ht
  split at ht
  next rest _ => exact exec_drivesKept _ (s := { s with pending := rest }) (drivesKept_congr h rfl rfl) t ht
  · unfold idle at ht
    split at ht
    · exact exec_drivesKept _ h t ht
    · split at ht
      · exact exec_drivesKept _ (tickTimers_drivesKept h) t ht
      · cases ht
        refine drivesKept_congr (tickTimers_drivesKept h) ?_ ?_
        all_goals unfold State.count; split <;> rfl

end

/-! ## Law L10 -/

section
variable {v : Env}

/-- R42: an entry that starts adds a motor only where fewer than four are MOVING. -/
theorem startEntry_motors {e : Ev} {t : Nat} (hm : e.u.motorsMoving v ≤ 4) (he : e.u.eligible v t = true) :
    (e.startEntry v t).u.motorsMoving v ≤ 4 := by
  unfold Units.eligible at he
  cases hc : v.cfg.turnout t with
  | none => simp [hc] at he
  | some c =>
    have hf : e.u.resourceFree v c.drive = true := by simp_all
    cases hd : c.drive with
    | solenoid =>
      rw [startEntry_solenoid hc hd]
      exact (motorsMoving_le_of_not_motor (fun k hk => driven_turnout_ne hk e)
        (by simp [Env.isMotor, hc, hd])).trans hm
    | motor =>
      have hfree : e.u.motorsMoving v < 4 := by simpa [hd, Units.resourceFree] using hf
      rw [startEntry_motor hc hd]
      exact (motorsMoving_le_succ fun k hk => driven_turnout_ne hk e).trans hfree

theorem arbiter_motors {e : Ev} (hm : e.u.motorsMoving v ≤ 4) : (e.arbiter v).u.motorsMoving v ≤ 4 :=
  List.foldlRecOn (motive := fun b : Ev => b.u.motorsMoving v ≤ 4) _ _ hm fun b hb x _ => by
    split
    next he => exact startEntry_motors hb he
    · exact hb

end

/-- Settles O24: law L10 is read off what the drives say of the CDU, which every step keeps. -/
theorem everyStepKeepsLawL10 : Obligations.EveryStepKeepsLawL10 := by
  refine ⟨fun s t hz hc hd ht => ?_, fun v e hm => arbiter_motors hm⟩
  obtain ⟨-, -, -, -, hl, -⟩ := hz
  obtain ⟨-, hk, -⟩ := drivesKept_iff.1 (step_drivesKept (drivesKept_iff.2 ⟨hl, hd, hc⟩) t ht)
  refine ⟨hk, hk.motors, fun a b p q ha hb => ?_⟩
  obtain ⟨i, hi⟩ := hk.pulse a p ha
  obtain ⟨j, hj⟩ := hk.pulse b q hb
  rw [hi] at hj
  cases hj
  exact ⟨rfl, i, hi⟩

end Sys2Proof.Machine


/-! PROOFS. What the operations of the Turnout Drive Unit make of one turnout while no route awaits it and nothing waits that the
event could set going (chapter 3). -/

namespace Sys2Proof.Machine

set_option Elab.async false

section
variable {v : Env} {e b : Ev} {u u' : Units} {s : State} {t n m q : Nat} {c : TurnoutCfg} {x : Turnout}

/-! ## Records and frames -/

theorem turnout_of (h : u.tdu.turnouts[t]? = some x) : u.turnout t = x := by
  simp [Units.turnout, List.getD, h]

theorem lt_of_turnout (h : u.tdu.turnouts[t]? = some x) : t < u.tdu.turnouts.length :=
  (List.getElem?_eq_some_iff.1 h).1

/-- A part that turns out to be as it was may be taken from a frame's list. -/
theorem keepsBut_of_agree {p : Part} {ps : List Part} (h : u.keepsBut (p :: ps) u') (hp : p.agree u u') :
    u.keepsBut ps u' := fun k hk =>
  if hkp : k = p then hkp ▸ hp else h k fun hm => (List.mem_cons.1 hm).elim hkp hk

theorem turnout_of_tdu (h : u'.tdu = u.tdu) (i : Nat) : u'.turnout i = u.turnout i := by rw [Units.turnout, h]; rfl

theorem tdu_of_keepsBut {ps : List Part} (h : u.keepsBut ps u')
    (hp : ∀ p ∈ [Part.turnouts, .throws, .cdu], p ∉ ps := by decide) : u'.tdu = u.tdu := by
  have ht : u'.tdu.turnouts = u.tdu.turnouts := h .turnouts (hp _ (by decide))
  have hq : u'.tdu.queue = u.tdu.queue := h .throws (hp _ (by decide))
  have hc : u'.tdu.cdu = u.tdu.cdu := h .cdu (hp _ (by decide))
  cases hu : u.tdu; cases hu' : u'.tdu
  simp_all

/-- R75, R133: an event of units in which nothing waits starts no route and no move. `e` has the units that its changes make. -/
theorem event_of_nothingWaits {g : Env → Ev → Ev} {ps : List Part} (hw : s.units.nothingWaits)
    (he : (g s.env (.start s.units)).u = e.u) (hg : Ev.Goes ps (.start s.units) e)
    (hp : Part.waiting ∉ ps ∧ Part.table ∉ ps := by decide) (hc : ∀ p ∈ Part.ofCalm, p ∈ ps := by decide) :
    Goes Part.ofCalm e.u (s.event g).units ∧ s.units.keepsBut ps (s.event g).units := by
  have hwait : (g s.env (.start s.units)).u.ilk.waiting = [] := by
    rw [he]
    exact (hg.keeps .waiting hp.1).trans hw.1
  have hmove : (g s.env (.start s.units)).u.ttc.queue = [] := by
    rw [he]
    exact (congrArg Turntable.queue (hg.keeps .table hp.2)).trans hw.2
  have hs : Goes Part.ofCalm e.u (s.event g).units := he ▸ settle_calm (.inr hmove) (.inr hwait)
  exact ⟨hs, (Goes.after hg hs hc).keeps⟩

/-! ## What a change of a turnout reaches (R50, R101) -/

@[simp] theorem turnoutReaches_u (v : Env) (t : Nat) (e : Ev) : (e.turnoutReaches v t).u = e.u :=
  List.foldlRecOn (motive := fun b : Ev => b.u = e.u) _ _ rfl fun b hb n _ => by
    split
    · split
      · exact hb
      · exact hb
    · exact hb

@[simp] theorem raiseTurnout_u (v : Env) (t : Nat) (e : Ev) : (e.raiseTurnout v t).u = e.u := by
  unfold Ev.raiseTurnout
  split <;> rfl

theorem noRouteAwaits_of_routes {k : Config} (h : u.noRouteAwaits k t) (hr : Part.agree u u' .routes) :
    u'.noRouteAwaits k t := by
  have hi : u'.ilk.routes = u.ilk.routes := hr
  intro n r hn ht
  rw [Units.route, hi]
  exact h n r hn ht

/-- R60, R61: a route that does not await the turnout takes no notice of its change. -/
theorem routeMeetsTurnout_of_noRouteAwaits (h : e.u.noRouteAwaits v.cfg t) : e.routeMeetsTurnout v t n = e := by
  unfold Ev.routeMeetsTurnout
  split
  · rfl
  next r hr =>
    split
    next ht =>
      obtain ⟨hc, hs⟩ := h n r hr ht
      split
      next hx => exact absurd hx hc
      next hx => exact absurd hx hs
      all_goals rfl
    · rfl

/-- R50: while no route awaits it, a turnout's change reaches signals alone. -/
theorem turnoutChanged_of_noRouteAwaits (h : e.u.noRouteAwaits v.cfg t) : e.turnoutChanged v t = e.turnoutReaches v t :=
  List.foldlRecOn (motive := fun b : Ev => b = e.turnoutReaches v t) _ _ rfl fun b hb n _ => by
    have hr : b.u.noRouteAwaits v.cfg t := by rw [hb, turnoutReaches_u]; exact h
    rw [routeMeetsTurnout_of_noRouteAwaits hr, hb]

theorem turnoutChanged_u (h : e.u.noRouteAwaits v.cfg t) : (e.turnoutChanged v t).u = e.u := by
  rw [turnoutChanged_of_noRouteAwaits h, turnoutReaches_u]

/-! ## A record that changes, its requester answered (R49) -/

/-- R49: the record of turnout `t` changes, and the requester that waits for it is answered. -/
def Ev.settledBy (v : Env) (t : Nat) (f : Turnout → Turnout) (k : Code) (e : Ev) : Ev :=
  (e.setTurnout t f).settleRequester v t k

variable {f : Turnout → Turnout} {k : Code}

theorem settledBy_goes : Ev.Goes [.turnouts, .counters, .slots, .transmitter] e (e.settledBy v t f k) :=
  ((setTurnout_goes t f e).mono (by decide)).after (settleRequester_goes v t k _) (by decide)

theorem settleRequester_turnout_ne {i : Nat} (hi : i ≠ t) : (e.settleRequester v t k).u.turnout i = e.u.turnout i :=
  (turnout_of_tdu (settleRequester_tdu v k e) i).trans (setTurnout_turnout_ne hi _)

theorem settledBy_turnout (ht : t < e.u.tdu.turnouts.length) :
    (e.settledBy v t f k).u.turnout t = { f (e.u.turnout t) with requester := none } := by
  rw [Ev.settledBy, settleRequester_turnout, setTurnout_turnout_self ht]

theorem settledBy_turnout_ne {i : Nat} (hi : i ≠ t) : (e.settledBy v t f k).u.turnout i = e.u.turnout i := by
  rw [Ev.settledBy, settleRequester_turnout_ne hi, setTurnout_turnout_ne hi]

theorem settledBy_queue : (e.settledBy v t f k).u.tdu.queue = e.u.tdu.queue := settledBy_goes.keeps .throws (by decide)

theorem settledBy_cdu : (e.settledBy v t f k).u.tdu.cdu = e.u.tdu.cdu := settledBy_goes.keeps .cdu (by decide)

/-- R49, R190: with room in the ordinary queue the requester's answer is sent for. -/
theorem settleRequester_carries (hn : v.sys.number = some m) (hq : e.u.lnk.ordinary.length < 16)
    (hr : (e.u.turnout t).requester = some q) :
    (e.settleRequester v t k).u.lnk.carries ⟨q, m, .answer, answerPayload .turnoutRequest t k⟩ := by
  simp only [Ev.settleRequester, hr]
  exact answer_carries hn hq

theorem settledBy_carries (hn : v.sys.number = some m) (hq : e.u.lnk.ordinary.length < 16)
    (ht : t < e.u.tdu.turnouts.length) (hr : (f (e.u.turnout t)).requester = some q) :
    (e.settledBy v t f k).u.lnk.carries ⟨q, m, .answer, answerPayload .turnoutRequest t k⟩ :=
  settleRequester_carries hn hq (by rw [setTurnout_turnout_self ht]; exact hr)

/-! ## FAILED (R46, R50) -/

/-- R46, R50, R201: what the entry of turnout `t` into FAILED makes of the units while no route awaits it and no motor waits
for its place. -/
def Ev.failed (v : Env) (t : Nat) (k : FaultKind) (e : Ev) : Ev :=
  (((e.setThrows fun q => q.filter fun x => x.1 != t).settledBy v t (fun x => { x with state := .failed, drive := none })
    .throwFailed).link (Link.addFailedTurnout t)).writeFault k (.turnout t)

variable {j : FaultKind}

theorem failed_goes :
    Ev.Goes [.turnouts, .throws, .record, .counters, .slots, .transmitter] e (e.failed v t j) :=
  ((((setThrows_goes _ e).mono (by decide)).after settledBy_goes (by decide)).after
    (link_addFailedTurnout_goes t _) (by decide)).after (writeFault_goes j (.turnout t) _) (by decide)

theorem failed_tdu : (e.failed v t j).u.tdu = ((e.setThrows fun q => q.filter fun x => x.1 != t).settledBy v t
    (fun x => { x with state := .failed, drive := none }) .throwFailed).u.tdu := rfl

theorem failed_turnout (ht : t < e.u.tdu.turnouts.length) : (e.failed v t j).u.turnout t
    = { e.u.turnout t with state := .failed, drive := none, requester := none } :=
  (turnout_of_tdu failed_tdu t).trans (settledBy_turnout ht)

theorem failed_turnout_ne {i : Nat} (hi : i ≠ t) : (e.failed v t j).u.turnout i = e.u.turnout i :=
  (turnout_of_tdu failed_tdu i).trans (settledBy_turnout_ne hi)

theorem failed_queue : (e.failed v t j).u.tdu.queue = e.u.tdu.queue.filter fun x => x.1 != t := by
  rw [failed_tdu, settledBy_queue]
  rfl

theorem failed_record : (e.failed v t j).u.record = ⟨j, .turnout t, e.u.scaleMinute, saturate e.u.record.count⟩ := by
  let a := (e.setThrows fun q => q.filter fun x => x.1 != t).settledBy v t (fun x => { x with state := .failed, drive := none })
    .throwFailed
  have hg : Ev.Goes [.turnouts, .throws, .counters, .slots, .transmitter] e a :=
    ((setThrows_goes _ e).mono (by decide)).after settledBy_goes (by decide)
  have hc : a.u.clock = e.u.clock := hg.keeps .clock (by decide)
  have hr : a.u.record = e.u.record := hg.keeps .record (by decide)
  show FaultRecord.mk j (.turnout t) a.u.scaleMinute (saturate a.u.record.count) = _
  rw [Units.scaleMinute, hc, hr]
  rfl

theorem failed_tells : (e.failed v t j).u.lnk.tellsTurnout t := by
  refine .inl ?_
  have h : ∀ l : Link, (l.addFailedTurnout t).faults.turnouts = setInsert t l.faults.turnouts := fun l => by
    unfold Link.addFailedTurnout Link.pend
    split <;> rfl
  show t ∈ (Link.addFailedTurnout t _).faults.turnouts
  rw [h]
  exact mem_setInsert.2 (.inl rfl)

theorem failed_carries (hn : v.sys.number = some m) (hq : e.u.lnk.ordinary.length < 16) (ht : t < e.u.tdu.turnouts.length)
    (hr : (e.u.turnout t).requester = some q) :
    (e.failed v t j).u.lnk.carries ⟨q, m, .answer, answerPayload .turnoutRequest t .throwFailed⟩ :=
  have hs := settledBy_carries (e := e.setThrows fun q => q.filter fun x => x.1 != t) (k := .throwFailed)
    (f := fun x => { x with state := .failed, drive := none }) hn hq ht hr
  (link_addFailedTurnout_goes t _).onward.frames _ hs

theorem arbiter_of_empty (h : e.u.tdu.queue = []) : e.arbiter v = e := by
  simp [Ev.arbiter, h]

/-- R46, R50: while no route awaits it, a turnout that fails changes its own record, and no entry is started if it frees no
motor or none waits. -/
theorem enterFailed_u (hn : e.u.noRouteAwaits v.cfg t)
    (ha : (e.u.turnout t).state = .moving → v.isMotor t = false ∨ e.u.tdu.queue = []) :
    (e.enterFailed v t j).u = (e.failed v t j).u := by
  have hu : ((((e.failed v t j).raiseTurnout v t).turnoutChanged v t)).u = (e.failed v t j).u := by
    rw [turnoutChanged_u, raiseTurnout_u]
    rw [raiseTurnout_u]
    exact noRouteAwaits_of_routes hn (failed_goes.keeps .routes (by decide))
  show (if _ then _ else _ : Ev).u = _
  split
  next hm =>
    refine (congrArg Ev.u (arbiter_of_empty ?_)).trans hu
    have hq : e.u.tdu.queue = [] := (ha hm.1).resolve_left (by simp [hm.2])
    show ((((e.failed v t j).raiseTurnout v t).turnoutChanged v t)).u.tdu.queue = []
    rw [hu, failed_queue, hq]
    rfl
  · exact hu

/-! ## To rest (R40, R46, R47) -/

theorem settleAt_u {p : Pos} (hn : e.u.noRouteAwaits v.cfg t) :
    (e.settleAt v t p).u = (e.setTurnout t fun x => { x with state := .at p, commanded := p }).u := by
  unfold Ev.settleAt
  dsimp only
  split
  · exact turnoutChanged_u (noRouteAwaits_of_routes hn rfl)
  · exact turnoutChanged_u (noRouteAwaits_of_routes hn rfl)

/-- R47: an unheld turnout at rest follows its reading. -/
theorem feedbackReaction_unheld_u {p : Option Pos} (hn : e.u.noRouteAwaits v.cfg t)
    (hs : (e.u.turnout t).state = .normal ∨ (e.u.turnout t).state = .reverse ∨ (e.u.turnout t).state = .unknown)
    (hh : (e.u.turnout t).held = false) : (e.feedbackReaction v t p).u
      = (e.setTurnout t fun x => { x with state := restingState p, commanded := p.getD x.commanded }).u := by
  have follows : (match p with
      | some q => e.settleAt v t q
      | none => (e.setTurnout t fun x => { x with state := .unknown }).turnoutChanged v t).u
      = (e.setTurnout t fun x => { x with state := restingState p, commanded := p.getD x.commanded }).u := by
    cases p with
    | none => exact turnoutChanged_u (noRouteAwaits_of_routes hn rfl)
    | some q => exact settleAt_u hn
  unfold Ev.feedbackReaction
  rcases hs with hs | hs | hs
  all_goals
    simp only [hs, hh]
    exact follows

/-- R46: a held turnout at rest fails at any change. -/
theorem feedbackReaction_held {p : Option Pos}
    (hs : (e.u.turnout t).state = .normal ∨ (e.u.turnout t).state = .reverse ∨ (e.u.turnout t).state = .unknown)
    (hh : (e.u.turnout t).held = true) : e.feedbackReaction v t p = e.enterFailed v t .proofLost := by
  unfold Ev.feedbackReaction
  rcases hs with hs | hs | hs
  all_goals
    simp only [hs, hh]
    rfl

/-- R46: a FAILED turnout rests again in a position proven, if it is unheld or was to be there. -/
theorem feedbackReaction_failed_u {p : Pos} (hn : e.u.noRouteAwaits v.cfg t) (hs : (e.u.turnout t).state = .failed)
    (h : (e.u.turnout t).held = false ∨ p = (e.u.turnout t).commanded) : (e.feedbackReaction v t (some p)).u
      = (e.setTurnout t fun x => { x with state := .at p, commanded := p }).u := by
  unfold Ev.feedbackReaction
  simp only [hs]
  rw [if_neg (by rcases h with h | h <;> simp [h]), settleAt_u hn]

/-- R46: with nothing proven, or held and proven elsewhere, a FAILED turnout stays as it is. -/
theorem feedbackReaction_failed_stays {p : Option Pos} (hs : (e.u.turnout t).state = .failed)
    (h : ∀ q ∈ p, ¬ ((e.u.turnout t).held = false ∨ q = (e.u.turnout t).commanded)) : e.feedbackReaction v t p = e := by
  unfold Ev.feedbackReaction
  simp only [hs]
  cases p with
  | none => rfl
  | some q =>
    dsimp only
    rw [if_pos (by simpa using h q rfl)]

/-! ## A reading (R36, R47) -/

/-- R36: the record once its filtered contacts show (normal, reverse). -/
def Turnout.showing (normal reverse : Bool) (x : Turnout) : Turnout := { x with
  normalIn := if x.normalIn.level = normal then x.normalIn else ⟨normal, none⟩
  reverseIn := if x.reverseIn.level = reverse then x.reverseIn else ⟨reverse, none⟩ }

theorem showing_levels (normal reverse : Bool) (x : Turnout) :
    (x.showing normal reverse).normalIn.level = normal ∧ (x.showing normal reverse).reverseIn.level = reverse := by
  unfold Turnout.showing
  constructor
  · dsimp only
    split
    · assumption
    · rfl
  · dsimp only
    split
    · assumption
    · rfl

/-- R36: the contacts of turnout `t` show (normal, reverse), and its proven position follows. -/
def Ev.reading (k : Feedback) (t : Nat) (normal reverse : Bool) (e : Ev) : Ev :=
  (e.setTurnout t (Turnout.showing normal reverse)).setTurnout t fun x =>
    { x with proven := proves k normal reverse (e.u.turnout t).proven }

variable {normal reverse : Bool} {kind : Feedback}

theorem reading_goes : Ev.Goes [.turnouts] e (e.reading kind t normal reverse) :=
  (setTurnout_goes t _ e).trans (setTurnout_goes t _ _)

theorem reading_records :
    (e.reading kind t normal reverse).u.tdu.turnouts.length = e.u.tdu.turnouts.length := by simp [Ev.reading]

theorem reading_turnout (ht : t < e.u.tdu.turnouts.length) : (e.reading kind t normal reverse).u.turnout t
    = { (e.u.turnout t).showing normal reverse with proven := proves kind normal reverse (e.u.turnout t).proven } := by
  rw [Ev.reading, setTurnout_turnout_self (by simpa using ht), setTurnout_turnout_self ht]

theorem reading_turnout_ne {i : Nat} (hi : i ≠ t) : (e.reading kind t normal reverse).u.turnout i = e.u.turnout i := by
  rw [Ev.reading, setTurnout_turnout_ne hi, setTurnout_turnout_ne hi]

/-- R36: what the feedback proves after a reading is what the reading proves. -/
theorem reading_proven (ht : t < e.u.tdu.turnouts.length) : (e.reading kind t normal reverse).u.proven kind t
    = proves kind normal reverse (e.u.turnout t).proven := by
  obtain ⟨hn, hr⟩ := showing_levels normal reverse (e.u.turnout t)
  rw [Units.proven, reading_turnout ht]
  dsimp only
  rw [hn, hr]
  cases kind <;> rfl

/-- R36: a change of a contact that the feedback kind does not read. -/
theorem feedbackChange_unread (hc : v.cfg.turnout t = some c)
    (h : readingChanges c.feedback ((e.u.turnout t).normalIn.level, (e.u.turnout t).reverseIn.level) (normal, reverse) = false) :
    e.feedbackChange v t normal reverse = e.setTurnout t (Turnout.showing normal reverse) := by
  simp only [Ev.feedbackChange, hc, h]
  rfl

/-- R46, R47: a change of the reading. -/
theorem feedbackChange_read (hc : v.cfg.turnout t = some c)
    (h : readingChanges c.feedback ((e.u.turnout t).normalIn.level, (e.u.turnout t).reverseIn.level) (normal, reverse) = true) :
    e.feedbackChange v t normal reverse = if contradicts c.feedback normal reverse then
      (e.reading c.feedback t normal reverse).enterFailed v t .contactsBoth
    else (e.reading c.feedback t normal reverse).feedbackReaction v t
      (proves c.feedback normal reverse (e.u.turnout t).proven) := by
  simp only [Ev.feedbackChange, hc, h]
  rfl

end

end Sys2Proof.Machine


/-! Feedback changes of turnouts at rest and FAILED (O20). -/

namespace Sys2Proof.Machine

set_option Elab.async false

section
variable {s : State} {n : Nat} {c : TurnoutCfg} {normal reverse : Bool} {x : Turnout} {ps : List Part}

/-! ## The command (R47) -/

/-- The state whose contact lines of turnout `n` show (normal, reverse) (log entry 31). -/
def State.contacts (s : State) (n : Nat) (normal reverse : Bool) : State :=
  s.setPins (Pins.showContacts (s.units.turnout n) n normal reverse)

theorem exec_feedbackChange (hr : s.sys.station = .running) : exec (.turnoutFeedbackChange n normal reverse) s
    = .next ((s.contacts n normal reverse).event fun v e => e.feedbackChange v n normal reverse) := by
  show Host.Outcome.next (if s.env.running then _ else s) = _
  rw [if_pos (running_env hr)]
  rfl

/-- R36: the event once the contacts of turnout `n` show (normal, reverse) and its proven position follows. -/
def State.reading (s : State) (k : Feedback) (n : Nat) (normal reverse : Bool) : Ev :=
  (Ev.start s.units).reading k n normal reverse

theorem noRouteAwaits_reading {k : Feedback} (h : s.units.noRouteAwaits s.sys.cfg n) :
    (s.reading k n normal reverse).u.noRouteAwaits s.sys.cfg n :=
  noRouteAwaits_of_routes h (reading_goes.keeps .routes (by decide))

/-- R36: a change of a contact that the kind does not read changes its filtered level only. -/
theorem unread_contacts (hr : s.sys.station = .running) (hc : s.sys.cfg.turnout n = some c)
    (hx : s.units.tdu.turnouts[n]? = some x)
    (h : readingChanges c.feedback (x.normalIn.level, x.reverseIn.level) (normal, reverse) = false) :
    ∃ t, exec (.turnoutFeedbackChange n normal reverse) s = .next t
      ∧ t.units.turnout n = x.showing normal reverse ∧ (∀ i, i ≠ n → t.units.turnout i = s.units.turnout i)
      ∧ s.units.keepsBut (.turnouts :: Part.ofEnd) t.units := by
  obtain rfl := turnout_of hx
  let g : Env → Ev → Ev := fun v e => e.feedbackChange v n normal reverse
  let s' := s.contacts n normal reverse
  have hg : g s'.env (.start s'.units) = (Ev.start s.units).setTurnout n (Turnout.showing normal reverse) :=
    feedbackChange_unread hc h
  have hs : (g s'.env (.start s'.units)).Silent := by rw [hg]; exact (silent_start s.units).units _
  have hgoes : Ev.Goes [.turnouts] (.start s'.units) (g s'.env (.start s'.units)) := by
    rw [hg]; exact setTurnout_goes ..
  have ht (i : Nat) : (s'.event g).units.turnout i
      = ((Ev.start s.units).setTurnout n (Turnout.showing normal reverse)).u.turnout i := by
    rw [← hg]
    exact turnout_of_tdu (tdu_of_keepsBut (settle_silent hs).keeps) i
  exact ⟨s'.event g, exec_feedbackChange hr, (ht n).trans (setTurnout_turnout_self (lt_of_turnout hx) _),
    fun i hi => (ht i).trans (setTurnout_turnout_ne hi _), event_keepsBut (s := s') g hs hgoes⟩

/-- A reading that changes and to which the turnout does not react. -/
theorem noted_contacts (hr : s.sys.station = .running) (hc : s.sys.cfg.turnout n = some c)
    (hx : s.units.tdu.turnouts[n]? = some x)
    (h : readingChanges c.feedback (x.normalIn.level, x.reverseIn.level) (normal, reverse) = true)
    (hb : contradicts c.feedback normal reverse = false)
    (he : (s.reading c.feedback n normal reverse).feedbackReaction (s.contacts n normal reverse).env n
        (proves c.feedback normal reverse x.proven) = s.reading c.feedback n normal reverse) :
    ∃ t, exec (.turnoutFeedbackChange n normal reverse) s = .next t
      ∧ t.units.turnout n = { x.showing normal reverse with proven := proves c.feedback normal reverse x.proven }
      ∧ (∀ i, i ≠ n → t.units.turnout i = s.units.turnout i) ∧ t.units.tdu.queue = s.units.tdu.queue
      ∧ s.units.keepsBut (.turnouts :: Part.ofEnd) t.units := by
  have hl := lt_of_turnout hx
  obtain rfl := turnout_of hx
  let g : Env → Ev → Ev := fun v e => e.feedbackChange v n normal reverse
  let s' := s.contacts n normal reverse
  have hg : g s'.env (.start s'.units) = s.reading c.feedback n normal reverse :=
    (feedbackChange_read (v := s'.env) hc h).trans ((if_neg (by simp [hb])).trans he)
  have hs : (g s'.env (.start s'.units)).Silent := by rw [hg]; exact (silent_start s.units).units _
  have hgoes : Ev.Goes [.turnouts] (.start s'.units) (g s'.env (.start s'.units)) := by
    rw [hg]; exact reading_goes
  have hkeep := event_keepsBut (s := s') (ps := .turnouts :: Part.ofEnd) g hs hgoes
  have ht (i : Nat) : (s'.event g).units.turnout i = (s.reading c.feedback n normal reverse).u.turnout i := by
    rw [← hg]
    exact turnout_of_tdu (tdu_of_keepsBut (settle_silent hs).keeps) i
  exact ⟨s'.event g, exec_feedbackChange hr, (ht n).trans (reading_turnout hl),
    fun i hi => (ht i).trans (reading_turnout_ne hi), hkeep .throws (by decide), hkeep⟩

/-- A reading that changes, in units in which nothing waits: `e` has the units that its changes make, from those that the
reading makes. -/
theorem feedback_event {e : Ev} (hr : s.sys.station = .running) (hc : s.sys.cfg.turnout n = some c)
    (hx : s.units.tdu.turnouts[n]? = some x) (hw : s.units.nothingWaits)
    (h : readingChanges c.feedback (x.normalIn.level, x.reverseIn.level) (normal, reverse) = true)
    (he : ((if contradicts c.feedback normal reverse then
        (s.reading c.feedback n normal reverse).enterFailed (s.contacts n normal reverse).env n .contactsBoth
      else (s.reading c.feedback n normal reverse).feedbackReaction (s.contacts n normal reverse).env n
        (proves c.feedback normal reverse x.proven) : Ev)).u = e.u)
    (hg : Ev.Goes ps (s.reading c.feedback n normal reverse) e) (ht : Part.turnouts ∈ ps)
    (hp : Part.waiting ∉ ps ∧ Part.table ∉ ps := by decide) (hk : ∀ p ∈ Part.ofCalm, p ∈ ps := by decide) :
    ∃ t, exec (.turnoutFeedbackChange n normal reverse) s = .next t ∧ Goes Part.ofCalm e.u t.units
      ∧ s.units.keepsBut ps t.units := by
  obtain rfl := turnout_of hx
  let g : Env → Ev → Ev := fun v e => e.feedbackChange v n normal reverse
  have hu : (g (s.contacts n normal reverse).env (.start s.units)).u = e.u :=
    (congrArg Ev.u (feedbackChange_read (v := (s.contacts n normal reverse).env) hc h)).trans he
  have hgoes : Ev.Goes ps (.start s.units) e := (reading_goes.mono (by simpa using ht)).trans hg
  obtain ⟨hs, hf⟩ := event_of_nothingWaits (s := s.contacts n normal reverse) (g := g) hw hu hgoes hp hk
  exact ⟨_, exec_feedbackChange hr, hs, hf⟩

theorem calm_tdu {u t : Units} (h : Goes Part.ofCalm u t) : t.tdu = u.tdu := tdu_of_keepsBut h.keeps

/-- The turnout records of an event that changes turnout `n`'s alone, after a reading. -/
theorem reading_changed {k : Feedback} {f : Turnout → Turnout} {t : Units} (hl : n < s.units.tdu.turnouts.length)
    (h : Goes Part.ofCalm ((s.reading k n normal reverse).setTurnout n f).u t) :
    t.turnout n = f { (s.units.turnout n).showing normal reverse with
        proven := proves k normal reverse (s.units.turnout n).proven }
      ∧ ∀ i, i ≠ n → t.turnout i = s.units.turnout i := by
  refine ⟨?_, fun i hi => ?_⟩
  · rw [turnout_of_tdu (calm_tdu h), setTurnout_turnout_self (reading_records.symm ▸ hl)]
    exact congrArg f (reading_turnout hl)
  · rw [turnout_of_tdu (calm_tdu h), setTurnout_turnout_ne hi]
    exact reading_turnout_ne hi

/-! ## At rest (R46, R47) -/

/-- R47: an unheld turnout at rest follows the reading. -/
theorem unheld_follows (hr : s.sys.station = .running) (hc : s.sys.cfg.turnout n = some c)
    (hx : s.units.tdu.turnouts[n]? = some x) (hw : s.units.nothingWaits) (hn : s.units.noRouteAwaits s.sys.cfg n)
    (h : readingChanges c.feedback (x.normalIn.level, x.reverseIn.level) (normal, reverse) = true)
    (hb : contradicts c.feedback normal reverse = false) (hh : x.held = false)
    (hs : x.state = .normal ∨ x.state = .reverse ∨ x.state = .unknown) :
    ∃ t, exec (.turnoutFeedbackChange n normal reverse) s = .next t
      ∧ t.units.turnout n = { x.showing normal reverse with
          proven := proves c.feedback normal reverse x.proven
          commanded := (proves c.feedback normal reverse x.proven).getD x.commanded
          state := restingState (proves c.feedback normal reverse x.proven) }
      ∧ (∀ i, i ≠ n → t.units.turnout i = s.units.turnout i)
      ∧ s.units.keepsBut (.turnouts :: Part.ofCalm) t.units := by
  have hl := lt_of_turnout hx
  obtain rfl := turnout_of hx
  have hread := reading_turnout (e := .start s.units) (kind := c.feedback) (normal := normal) (reverse := reverse) hl
  have hu := feedbackReaction_unheld_u (v := (s.contacts n normal reverse).env)
    (e := s.reading c.feedback n normal reverse) (p := proves c.feedback normal reverse (s.units.turnout n).proven)
    (noRouteAwaits_reading hn) (by rw [State.reading, hread]; exact hs) (by rw [State.reading, hread]; exact hh)
  obtain ⟨t, ht, hg, hk⟩ := feedback_event (ps := .turnouts :: Part.ofCalm) hr hc hx hw h (by rw [hb]; exact hu)
    ((setTurnout_goes ..).mono (by decide)) (by decide)
  obtain ⟨hrec, hne⟩ := reading_changed hl hg
  exact ⟨t, ht, hrec, hne, hk⟩

/-- R46: a FAILED turnout rests in a position proven, if it is unheld or was to be there. -/
theorem failed_accepts {q : Pos} (hr : s.sys.station = .running) (hc : s.sys.cfg.turnout n = some c)
    (hx : s.units.tdu.turnouts[n]? = some x) (hw : s.units.nothingWaits) (hn : s.units.noRouteAwaits s.sys.cfg n)
    (h : readingChanges c.feedback (x.normalIn.level, x.reverseIn.level) (normal, reverse) = true)
    (hb : contradicts c.feedback normal reverse = false) (hs : x.state = .failed)
    (hp : proves c.feedback normal reverse x.proven = some q) (hq : x.held = false ∨ q = x.commanded) :
    ∃ t, exec (.turnoutFeedbackChange n normal reverse) s = .next t
      ∧ t.units.turnout n = { x.showing normal reverse with proven := some q, commanded := q, state := .at q }
      ∧ (∀ i, i ≠ n → t.units.turnout i = s.units.turnout i)
      ∧ s.units.keepsBut (.turnouts :: Part.ofCalm) t.units := by
  have hl := lt_of_turnout hx
  obtain rfl := turnout_of hx
  have hread : (s.reading c.feedback n normal reverse).u.turnout n = _ := reading_turnout hl
  have hu := feedbackReaction_failed_u (v := (s.contacts n normal reverse).env)
    (e := s.reading c.feedback n normal reverse) (p := q) (noRouteAwaits_reading hn) (by rw [hread]; exact hs)
    (by rw [hread]; exact hq)
  obtain ⟨t, ht, hg, hk⟩ := feedback_event (ps := .turnouts :: Part.ofCalm) hr hc hx hw h (by rw [hb, hp]; exact hu)
    ((setTurnout_goes ..).mono (by decide)) (by decide)
  obtain ⟨hrec, hne⟩ := reading_changed hl hg
  rw [hp] at hrec
  exact ⟨t, ht, hrec, hne, hk⟩

/-- R46: with nothing proven, or held and proven elsewhere, a FAILED turnout stays FAILED. -/
theorem failed_stays (hr : s.sys.station = .running) (hc : s.sys.cfg.turnout n = some c)
    (hx : s.units.tdu.turnouts[n]? = some x)
    (h : readingChanges c.feedback (x.normalIn.level, x.reverseIn.level) (normal, reverse) = true)
    (hb : contradicts c.feedback normal reverse = false) (hs : x.state = .failed)
    (hp : ∀ q ∈ proves c.feedback normal reverse x.proven, ¬ (x.held = false ∨ q = x.commanded)) :
    ∃ t, exec (.turnoutFeedbackChange n normal reverse) s = .next t
      ∧ t.units.turnout n = { x.showing normal reverse with proven := proves c.feedback normal reverse x.proven }
      ∧ (∀ i, i ≠ n → t.units.turnout i = s.units.turnout i)
      ∧ s.units.keepsBut (.turnouts :: Part.ofCalm) t.units := by
  have hread : (s.reading c.feedback n normal reverse).u.turnout n = _ := reading_turnout (lt_of_turnout hx)
  rw [show (Ev.start s.units).u.turnout n = x from turnout_of hx] at hread
  obtain ⟨t, ht, hrec, hne, -, hk⟩ := noted_contacts hr hc hx h hb
    (feedbackReaction_failed_stays (by rw [hread]; exact hs) (by rw [hread]; exact hp))
  exact ⟨t, ht, hrec, hne, fun p hp => hk p fun hm => hp ((by decide : ∀ p ∈ Part.turnouts :: Part.ofEnd,
    p ∈ Part.turnouts :: Part.ofCalm) p hm)⟩

/-- R46, R50: both contacts shown, or a change of a held turnout at rest, fail it: `k` says which. -/
theorem contacts_fail {k : FaultKind} (hr : s.sys.station = .running) (hc : s.sys.cfg.turnout n = some c)
    (hx : s.units.tdu.turnouts[n]? = some x) (hw : s.units.nothingWaits) (hn : s.units.noRouteAwaits s.sys.cfg n)
    (h : readingChanges c.feedback (x.normalIn.level, x.reverseIn.level) (normal, reverse) = true)
    (hm : x.state = .moving → c.drive = .solenoid)
    (hf : k = (if contradicts c.feedback normal reverse then .contactsBoth else .proofLost))
    (hs : contradicts c.feedback normal reverse = true
      ∨ x.held = true ∧ (x.state = .normal ∨ x.state = .reverse ∨ x.state = .unknown)) :
    ∃ t, exec (.turnoutFeedbackChange n normal reverse) s = .next t
      ∧ t.units.turnout n = { x.showing normal reverse with
          proven := proves c.feedback normal reverse x.proven, state := .failed, drive := none, requester := none }
      ∧ (∀ i, i ≠ n → t.units.turnout i = s.units.turnout i)
      ∧ t.units.tdu.queue = s.units.tdu.queue.filter (fun z => z.1 != n)
      ∧ (∀ m q, s.canSend m → x.requester = some q →
          t.units.lnk.carries ⟨q, m, .answer, answerPayload .turnoutRequest n .throwFailed⟩)
      ∧ t.units.lnk.tellsTurnout n
      ∧ t.units.record = ⟨k, .turnout n, s.units.scaleMinute, saturate s.units.record.count⟩
      ∧ s.units.keepsBut ([.turnouts, .throws, .record] ++ Part.ofCalm) t.units := by
  have hl := lt_of_turnout hx
  obtain rfl := turnout_of hx
  let v := (s.contacts n normal reverse).env
  let e := s.reading c.feedback n normal reverse
  have hread : e.u.turnout n = _ := reading_turnout hl
  have hl' : n < e.u.tdu.turnouts.length := reading_records.symm ▸ hl
  have hmotor : (e.u.turnout n).state = .moving → v.isMotor n = false ∨ e.u.tdu.queue = [] := fun hx => by
    rw [hread] at hx
    have hv : v.cfg.turnout n = some c := hc
    exact .inl (by simp [Env.isMotor, hv, hm hx])
  have hu : ((if contradicts c.feedback normal reverse then e.enterFailed v n .contactsBoth
      else e.feedbackReaction v n (proves c.feedback normal reverse (s.units.turnout n).proven) : Ev)).u
      = (e.failed v n k).u := by
    rw [hf]
    split
    · exact enterFailed_u (noRouteAwaits_reading hn) hmotor
    next hb =>
      obtain ⟨hh, hs⟩ := hs.resolve_left hb
      rw [feedbackReaction_held (by rw [hread]; exact hs) (by rw [hread]; exact hh)]
      exact enterFailed_u (noRouteAwaits_reading hn) hmotor
  obtain ⟨t, ht, hg, hk⟩ := feedback_event (ps := [.turnouts, .throws, .record] ++ Part.ofCalm) hr hc hx hw h hu
    (failed_goes.mono (by decide)) (by decide)
  refine ⟨t, ht, ?_, fun i hi => ?_, ?_, fun m q hc hq => ?_, hg.onward.turnouts _ failed_tells, ?_, hk⟩
  · rw [turnout_of_tdu (calm_tdu hg), failed_turnout hl', hread]
    rfl
  · rw [turnout_of_tdu (calm_tdu hg), failed_turnout_ne hi]
    exact reading_turnout_ne hi
  · rw [calm_tdu hg, failed_queue]
    rfl
  · exact hg.onward.frames _ (failed_carries hc.1 hc.2 hl' (by rw [hread]; exact hq))
  · exact (hg.keeps .record (by decide)).trans failed_record

/-! ## The statement -/

/-- R36, R46: unless both contacts show, a reading that changes proves what the kind reads of it; both prove nothing. -/
theorem proves_of_reads {k : Feedback} {was : Bool × Bool} {q : Option Pos}
    (h : readingChanges k was (normal, reverse) = true) : proves k normal reverse q
      = if contradicts k normal reverse then none else match k with
        | .twoContact => if normal then some .normal else if reverse then some .reverse else none
        | .reverseContact => some (if reverse then .reverse else .normal)
        | .none => none := by
  cases k with
  | twoContact => cases normal <;> cases reverse <;> rfl
  | reverseContact => rfl
  | none => cases h

theorem readingChanges_eq (k : Feedback) (a b : Bool) : readingChanges k (a, b) (normal, reverse) = match k with
    | .twoContact => a != normal || b != reverse
    | .reverseContact => b != reverse
    | .none => false := by
  cases k with
  | twoContact => revert a b normal reverse; decide
  | reverseContact => rfl
  | none => rfl

end

/-- Settles O20: the reading decides; what it proves moves an unheld or FAILED turnout, and what it contradicts fails it. -/
theorem feedbackMovesOrFailsATurnout : Obligations.FeedbackMovesOrFailsATurnout := by
  intro s n c normal reverse x hr hc hx reads both p y rests
  have hreads : readingChanges c.feedback (x.normalIn.level, x.reverseIn.level) (normal, reverse) = reads :=
    readingChanges_eq ..
  have hproves (h : reads = true) : proves c.feedback normal reverse x.proven = if both then none else p :=
    proves_of_reads (hreads.trans h)
  refine ⟨fun h => unread_contacts hr hc hx (hreads.trans h), fun hw hn h hb hh hs => ?_, fun hw hn h hb hs => ?_,
    fun hw hn h hs hm => ?_⟩
  · have hp : proves c.feedback normal reverse x.proven = p := by rw [hproves h, hb]; rfl
    obtain ⟨t, ht, hrec, hrest⟩ := unheld_follows hr hc hx hw hn (hreads.trans h) hb hh hs
    refine ⟨t, ht, hrec.trans ?_, hrest⟩
    rw [hp]
    rcases p with _ | _ | _ <;> rfl
  · have hp : proves c.feedback normal reverse x.proven = p := by rw [hproves h, hb]; rfl
    have stays (hq : ∀ q ∈ p, ¬ (x.held = false ∨ q = x.commanded)) := failed_stays hr hc hx (hreads.trans h) hb hs (hp ▸ hq)
    cases hpq : p with
    | none =>
      obtain ⟨t, ht, hrec, hrest⟩ := stays (by simp [hpq])
      exact ⟨t, ht, hrec.trans (by rw [hp, hpq]; rfl), hrest⟩
    | some q =>
      by_cases hq : x.held = false ∨ q = x.commanded
      · obtain ⟨t, ht, hrec, hrest⟩ := failed_accepts hr hc hx hw hn (hreads.trans h) hb hs (hp.trans hpq) hq
        refine ⟨t, ht, hrec.trans ?_, hrest⟩
        cases q <;> exact (if_pos hq).symm
      · obtain ⟨t, ht, hrec, hrest⟩ := stays (by simpa [hpq] using hq)
        exact ⟨t, ht, hrec.trans (by rw [hp, hpq]; exact (if_neg hq).symm), hrest⟩
  · obtain ⟨t, ht, hrec, hne, hq, hcar, htell, hrecord, hk⟩ := contacts_fail hr hc hx hw hn (hreads.trans h) hm rfl hs
    refine ⟨t, ht, ?_, hne, hq, hcar, htell, hrecord, hk⟩
    rw [hrec, hproves h]
    rfl

end Sys2Proof.Machine


/-! Drives that end and throws that are queued, with no other throw waiting (R40, R42 to R45). -/

namespace Sys2Proof.Machine

set_option Elab.async false

section
variable {v : Env} {e b : Ev} {u u' : Units} {t : Nat} {c : TurnoutCfg} {f : Turnout → Turnout} {k : Code}

/-! ## A turnout that comes to rest (R40, R43 to R45) -/

/-- From `e` to `b` turnout `t` alone changes: its record becomes `x` and the throw queue `q`, and the requester that waited
for it is answered DONE. -/
structure Ev.ComesToRest (v : Env) (t : Nat) (x : Turnout) (q : List (Nat × Pos)) (e b : Ev) : Prop where
  goes     : Ev.Goes (.throws :: .turnouts :: Part.ofCalm) e b
  record   : b.u.turnout t = x
  others   : ∀ i, i ≠ t → b.u.turnout i = e.u.turnout i
  queue    : b.u.tdu.queue = q
  cdu      : b.u.tdu.cdu = e.u.tdu.cdu
  answered : ∀ m s, v.sys.number = some m → e.u.lnk.ordinary.length < 16 → (e.u.turnout t).requester = some s →
    b.u.lnk.carries ⟨s, m, .answer, answerPayload .turnoutRequest t .done⟩

theorem settledBy_comesToRest (ht : t < e.u.tdu.turnouts.length)
    (hf : (f (e.u.turnout t)).requester = (e.u.turnout t).requester) :
    Ev.ComesToRest v t { f (e.u.turnout t) with requester := none } e.u.tdu.queue e (e.settledBy v t f .done) where
  goes := settledBy_goes.mono (by decide)
  record := settledBy_turnout ht
  others _ hi := settledBy_turnout_ne hi
  queue := settledBy_queue
  cdu := settledBy_cdu
  answered _ _ hn hq hr := settledBy_carries hn hq ht (hf.trans hr)

theorem Ev.ComesToRest.of_u {x : Turnout} {q : List (Nat × Pos)} {b' : Ev} (h : Ev.ComesToRest v t x q e b)
    (hb : b'.u = b.u) : Ev.ComesToRest v t x q e b' where
  goes := by rw [Ev.Goes, hb]; exact h.goes
  record := by rw [hb]; exact h.record
  others := by rw [hb]; exact h.others
  queue := by rw [hb]; exact h.queue
  cdu := by rw [hb]; exact h.cdu
  answered := by rw [hb]; exact h.answered

/-- What turnout `t` alone went through before, its requester waiting on. -/
theorem Ev.ComesToRest.after {x : Turnout} {q : List (Nat × Pos)} {a : Ev} (h : Ev.ComesToRest v t x q e b)
    (hg : Ev.Goes [.turnouts, .throws] a e) (ho : ∀ i, i ≠ t → e.u.turnout i = a.u.turnout i)
    (hr : (e.u.turnout t).requester = (a.u.turnout t).requester) : Ev.ComesToRest v t x q a b where
  goes := (hg.mono (by decide)).trans h.goes
  record := h.record
  others i hi := (h.others i hi).trans (ho i hi)
  queue := h.queue
  cdu := h.cdu.trans (hg.keeps .cdu (by decide))
  answered m s hn hq hs := by
    have hx : Part.agree a.u e.u .transmitter := hg.keeps .transmitter (by decide)
    exact h.answered m s hn (hx.2.1 ▸ hq) (hr.trans hs)

/-! ## A queued throw that is proven (R40) -/

theorem proofWhileQueued_stays (hc : v.cfg.turnout t = some c)
    (h : (e.u.turnout t).state = .queued → e.u.proven c.feedback t ≠ some (e.u.turnout t).commanded) :
    e.proofWhileQueued v t = e := by
  simp only [Ev.proofWhileQueued, hc]
  exact if_neg fun hx => h hx.1 hx.2

/-- R40: a QUEUED turnout that is proven in its commanded position rests there. -/
theorem proofWhileQueued_rests (hc : v.cfg.turnout t = some c) (ht : t < e.u.tdu.turnouts.length)
    (hn : e.u.noRouteAwaits v.cfg t) (hs : (e.u.turnout t).state = .queued)
    (hp : e.u.proven c.feedback t = some (e.u.turnout t).commanded) :
    Ev.ComesToRest v t { e.u.turnout t with state := .at (e.u.turnout t).commanded, requester := none }
      (e.u.tdu.queue.filter fun x => x.1 != t) e (e.proofWhileQueued v t) := by
  let a := e.setThrows fun q => q.filter fun x => x.1 != t
  have hr : (a.settledBy v t (fun x => { x with state := .at x.commanded }) .done).u.noRouteAwaits v.cfg t :=
    noRouteAwaits_of_routes hn
      ((((setThrows_goes _ e).mono (by decide)).after (settledBy_goes (e := a)) (by decide)).keeps
        (ps := [.turnouts, .throws, .counters, .slots, .transmitter]) .routes (by decide))
  have hu : (e.proofWhileQueued v t).u = (a.settledBy v t (fun x => { x with state := .at x.commanded }) .done).u := by
    simp only [Ev.proofWhileQueued, hc]
    rw [if_pos ⟨hs, hp⟩]
    exact turnoutChanged_u hr
  exact ((settledBy_comesToRest (e := a) ht rfl).after ((setThrows_goes _ e).mono (by decide)) (fun _ _ => rfl) rfl).of_u hu

/-! ## A throw that joins an empty queue (R39, R42) -/

/-- R39: turnout `t` has joined the tail of the throw queue for its commanded position. -/
def Ev.joined (v : Env) (t : Nat) (e : Ev) : Ev :=
  ((e.setThrows fun q => q ++ [(t, (e.u.turnout t).commanded)]).setTurnout t fun x =>
    { x with state := .queued, drive := none }).turnoutReaches v t

theorem joinQueue_eq (v : Env) (t : Nat) (e : Ev) : e.joinQueue v t = ((e.joined v t).proofWhileQueued v t).arbiter v := rfl

theorem joined_goes : Ev.Goes [.turnouts, .throws] e (e.joined v t) :=
  ((((setThrows_goes _ e).mono (by decide)).after (setTurnout_goes t _ _) (by decide)).after
    (turnoutReaches_goes v t _) (by decide))

theorem joined_records : (e.joined v t).u.tdu.turnouts.length = e.u.tdu.turnouts.length := by simp [Ev.joined]

theorem joined_turnout (ht : t < e.u.tdu.turnouts.length) :
    (e.joined v t).u.turnout t = { e.u.turnout t with state := .queued, drive := none } := by
  rw [Ev.joined, turnoutReaches_u]
  exact setTurnout_turnout_self ht _

theorem joined_turnout_ne {i : Nat} (hi : i ≠ t) : (e.joined v t).u.turnout i = e.u.turnout i := by
  rw [Ev.joined, turnoutReaches_u, setTurnout_turnout_ne hi]
  rfl

theorem joined_queue : (e.joined v t).u.tdu.queue = e.u.tdu.queue ++ [(t, (e.u.turnout t).commanded)] := by
  rw [Ev.joined, turnoutReaches_u]
  rfl

theorem joined_block (i : Nat) : (e.joined v t).u.block i = e.u.block i := by
  rw [Ev.joined, turnoutReaches_u]
  rfl

theorem joined_cdu : (e.joined v t).u.tdu.cdu = e.u.tdu.cdu := joined_goes.keeps .cdu (by decide)

theorem proven_congr {k : Feedback} (hn : (u'.turnout t).normalIn = (u.turnout t).normalIn)
    (hr : (u'.turnout t).reverseIn = (u.turnout t).reverseIn) (hp : (u'.turnout t).proven = (u.turnout t).proven) :
    u'.proven k t = u.proven k t := by simp only [Units.proven, hn, hr, hp]

theorem joined_proven {k : Feedback} (ht : t < e.u.tdu.turnouts.length) :
    (e.joined v t).u.proven k t = e.u.proven k t :=
  proven_congr (by rw [joined_turnout ht]) (by rw [joined_turnout ht]) (by rw [joined_turnout ht])

/-- R40, log entry 9: with nothing else queued, a turnout proven in the position it joins for rests there at once. -/
theorem joinQueue_rests (hc : v.cfg.turnout t = some c) (ht : t < e.u.tdu.turnouts.length)
    (hn : e.u.noRouteAwaits v.cfg t) (hq : e.u.tdu.queue = [])
    (hp : e.u.proven c.feedback t = some (e.u.turnout t).commanded) :
    Ev.ComesToRest v t { e.u.turnout t with state := .at (e.u.turnout t).commanded, drive := none, requester := none }
      [] e (e.joinQueue v t) := by
  have hx := joined_turnout (v := v) ht
  have hr := proofWhileQueued_rests (e := e.joined v t) hc (joined_records.symm ▸ ht)
    (noRouteAwaits_of_routes hn (joined_goes.keeps .routes (by decide))) (by rw [hx])
    (by rw [joined_proven ht, hx]; exact hp)
  rw [hx, joined_queue, hq] at hr
  simp only [List.nil_append, List.filter_cons, bne_self_eq_false, List.filter_nil] at hr
  rw [joinQueue_eq, arbiter_of_empty hr.queue]
  exact hr.after joined_goes (fun i hi => joined_turnout_ne hi) (by rw [hx])

/-- R43, R44: the stage in which a drive of kind `d` starts. -/
def firstStage (d : DriveKind) : DriveStage := if d = .solenoid then .pulse else .motor 0

/-- R42 to R44: an entry that is started leaves the queue for the first stage of its drive. -/
theorem startEntry_eq (hc : v.cfg.turnout t = some c) (e : Ev) : e.startEntry v t
    = e.driven t (firstStage c.drive) (if c.drive = .solenoid then .pulsing t 0 else e.u.tdu.cdu) := by
  cases hd : c.drive with
  | solenoid => exact startEntry_solenoid hc hd e
  | motor => exact startEntry_motor hc hd e

theorem startEntry_turnout (hc : v.cfg.turnout t = some c) (ht : t < e.u.tdu.turnouts.length) :
    (e.startEntry v t).u.turnout t = (e.u.turnout t).startDrive (firstStage c.drive) := by
  rw [startEntry_eq hc]
  exact setTurnout_turnout_self (e := (e.setThrows _).setCdu _) ht _

theorem startEntry_turnout_ne {i : Nat} (hc : v.cfg.turnout t = some c) (hi : i ≠ t) :
    (e.startEntry v t).u.turnout i = e.u.turnout i := by
  rw [startEntry_eq hc]
  exact driven_turnout_ne hi e

theorem startEntry_queue (hc : v.cfg.turnout t = some c) :
    (e.startEntry v t).u.tdu.queue = e.u.tdu.queue.filter fun x => x.1 != t := by
  rw [startEntry_eq hc]
  rfl

theorem startEntry_cdu (hc : v.cfg.turnout t = some c) :
    (e.startEntry v t).u.tdu.cdu = if c.drive = .solenoid then .pulsing t 0 else e.u.tdu.cdu := by
  rw [startEntry_eq hc]
  rfl

/-- R42: with one entry queued the arbiter starts it if it is eligible. -/
theorem arbiter_of_one {p : Pos} (h : e.u.tdu.queue = [(t, p)]) :
    e.arbiter v = if e.u.eligible v t then e.startEntry v t else e := by
  rw [Ev.arbiter, h]
  rfl

theorem eligible_iff (hc : v.cfg.turnout t = some c) : u.eligible v t = true ↔ (u.block c.owning).occupied = false
    ∧ (c.drive = .solenoid → u.tdu.cdu = .ready) ∧ (c.drive = .motor → u.motorsMoving v < 4) := by
  cases hd : c.drive <;> simp [Units.eligible, hc, hd, Units.resourceFree]

/-- R42: the drive of the turnout that joined an empty queue has started, or waits for its resource or its block. -/
structure Ev.ThrownAnew (v : Env) (t : Nat) (c : TurnoutCfg) (e b : Ev) : Prop where
  goes    : Ev.Goes [.turnouts, .throws, .cdu] e b
  others  : ∀ i, i ≠ t → b.u.turnout i = e.u.turnout i
  started : (c.drive = .motor → (e.joined v t).u.motorsMoving v < 4) →
    (e.u.block c.owning).occupied = false ∧ (c.drive = .solenoid → e.u.tdu.cdu = .ready) →
    b.u.turnout t
      = { e.u.turnout t with state := .moving, drive := some ⟨(e.u.turnout t).commanded, firstStage c.drive⟩ }
    ∧ b.u.tdu.queue = [] ∧ b.u.tdu.cdu = if c.drive = .solenoid then .pulsing t 0 else e.u.tdu.cdu
  waiting : ¬ ((e.u.block c.owning).occupied = false ∧ (c.drive = .solenoid → e.u.tdu.cdu = .ready)) →
    b.u.turnout t = { e.u.turnout t with state := .queued, drive := none }
    ∧ b.u.tdu.queue = [(t, (e.u.turnout t).commanded)] ∧ b.u.tdu.cdu = e.u.tdu.cdu

/-- R39, R42: an unproven turnout that joins an empty queue starts if it is eligible. -/
theorem joinQueue_unproven (hc : v.cfg.turnout t = some c) (ht : t < e.u.tdu.turnouts.length) (hq : e.u.tdu.queue = [])
    (hp : e.u.proven c.feedback t ≠ some (e.u.turnout t).commanded) : e.joinQueue v t
      = if (e.joined v t).u.eligible v t then (e.joined v t).startEntry v t else e.joined v t := by
  have haq : (e.joined v t).u.tdu.queue = [(t, (e.u.turnout t).commanded)] := by rw [joined_queue, hq]; rfl
  rw [joinQueue_eq, proofWhileQueued_stays hc fun _ => by rw [joined_proven ht, joined_turnout ht]; exact hp,
    arbiter_of_one haq]

/-- R42: with nothing else queued, an unproven turnout starts if its block is CLEAR and its resource free. -/
theorem joinQueue_thrown (hc : v.cfg.turnout t = some c) (ht : t < e.u.tdu.turnouts.length) (hq : e.u.tdu.queue = [])
    (hp : e.u.proven c.feedback t ≠ some (e.u.turnout t).commanded) : Ev.ThrownAnew v t c e (e.joinQueue v t) := by
  have hx := joined_turnout (v := v) ht
  have haq : (e.joined v t).u.tdu.queue = [(t, (e.u.turnout t).commanded)] := by rw [joined_queue, hq]; rfl
  have hgoes : Ev.Goes [.turnouts, .throws, .cdu] e (e.joined v t) := joined_goes.mono (by decide)
  have heligible : (e.joined v t).u.eligible v t = true ↔ (e.u.block c.owning).occupied = false
      ∧ (c.drive = .solenoid → e.u.tdu.cdu = .ready) ∧ (c.drive = .motor → (e.joined v t).u.motorsMoving v < 4) := by
    rw [eligible_iff hc, joined_block, joined_cdu]
  rw [joinQueue_unproven hc ht hq hp]
  split
  next hs =>
    obtain ⟨hblock, hcdu, -⟩ := heligible.1 hs
    refine ⟨hgoes.trans (startEntry_goes v t _), fun i hi => ?_, fun _ _ => ⟨?_, ?_, ?_⟩, fun hn => absurd ⟨hblock, hcdu⟩ hn⟩
    · rw [startEntry_turnout_ne hc hi, joined_turnout_ne hi]
    · rw [startEntry_turnout hc (joined_records.symm ▸ ht), hx]
      rfl
    · rw [startEntry_queue hc, haq]
      simp
    · rw [startEntry_cdu hc, joined_cdu]
  next hs =>
    exact ⟨hgoes, fun i hi => joined_turnout_ne hi, fun hm h => absurd (heligible.2 ⟨h.1, h.2, hm⟩) hs,
      fun _ => ⟨hx, haq, joined_cdu⟩⟩

/-! ## The motors (R42) -/

/-- A motor turnout that moves no more makes room for another motor. -/
theorem motorsMoving_lt (hk : ∀ i ≠ t, u'.turnout i = u.turnout i) (ht : t < 32) (hm : v.isMotor t = true)
    (hs : (u.turnout t).state = .moving) (hs' : (u'.turnout t).state ≠ .moving) :
    u'.motorsMoving v < u.motorsMoving v := by
  have hp := List.perm_cons_erase (List.mem_range.2 ht)
  have hm' : (v.cfg.turnout t).any (fun c => c.drive == .motor) = true := hm
  have hle : ((List.range 32).erase t).countP (fun i =>
        (v.cfg.turnout i).any (fun c => c.drive == .motor) && (u'.turnout i).state == .moving)
      ≤ ((List.range 32).erase t).countP (fun i =>
        (v.cfg.turnout i).any (fun c => c.drive == .motor) && (u.turnout i).state == .moving) :=
    List.countP_mono_left fun i hi => by
      rw [hk i ((List.nodup_range.mem_erase_iff).1 hi).1]
      exact id
  rw [Units.motorsMoving, Units.motorsMoving, hp.countP_eq, hp.countP_eq, List.countP_cons, List.countP_cons]
  simp only [hm', hs, Bool.true_and, beq_iff_eq, hs', if_false, beq_self_eq_true, if_true]
  omega

/-- R42: a motor that stops to join the queue leaves room for its own new drive. -/
theorem joined_motors (hc : v.cfg.turnout t = some c) (hl : e.u.tdu.turnouts.length = 32) (ht : t < 32)
    (hs : (e.u.turnout t).state = .moving) (hm : e.u.motorsMoving v ≤ 4) (hd : c.drive = .motor) :
    (e.joined v t).u.motorsMoving v < 4 :=
  (motorsMoving_lt (fun _ hi => joined_turnout_ne hi) ht (by simp [Env.isMotor, hc, hd]) hs
    (by rw [joined_turnout (hl.symm ▸ ht)]; exact nofun)).trans_le hm

/-! ## The end of a drive (R43 to R46) -/

variable {d : Drive}

/-- R43, R44: a drive proven in the position commanded ends at rest there. -/
theorem driveEnd_proven (ht : t < e.u.tdu.turnouts.length) (hn : e.u.noRouteAwaits v.cfg t)
    (hd : (e.u.turnout t).drive = some d) (hp : (e.u.turnout t).commanded = d.pos)
    (hm : v.isMotor t = true → e.u.tdu.queue = []) :
    Ev.ComesToRest v t { e.u.turnout t with state := .at d.pos, drive := none, requester := none } e.u.tdu.queue e
      (e.driveEnd v t true) := by
  let a := e.settledBy v t (fun x => { x with state := .at d.pos, drive := none }) .done
  have hu : (a.turnoutChanged v t).u = a.u :=
    turnoutChanged_u (noRouteAwaits_of_routes hn (settledBy_goes.keeps .routes (by decide)))
  have hend : (e.driveEnd v t true).u = a.u := by
    simp only [Ev.driveEnd, hd, hp, ne_eq, not_true_eq_false, if_false, if_true]
    split
    next hx =>
      refine (congrArg Ev.u (arbiter_of_empty ?_)).trans hu
      show (a.turnoutChanged v t).u.tdu.queue = []
      rw [hu, settledBy_queue]
      exact hm hx
    · exact hu
  exact (settledBy_comesToRest ht rfl).of_u hend

/-- R45: a drive that ends elsewhere than in the position commanded ends in a new throw. -/
theorem driveEnd_redirected {p : Bool} (hd : (e.u.turnout t).drive = some d) (hp : (e.u.turnout t).commanded ≠ d.pos) :
    e.driveEnd v t p = e.joinQueue v t := by
  simp only [Ev.driveEnd, hd]
  rw [if_pos hp]

/-- R46: a drive that ends unproven in the position commanded fails the turnout. -/
theorem driveEnd_unproven (hd : (e.u.turnout t).drive = some d) (hp : (e.u.turnout t).commanded = d.pos) :
    e.driveEnd v t false = e.enterFailed v t .throwTimeout := by
  simp only [Ev.driveEnd, hd, hp, ne_eq, not_true_eq_false, if_false, Bool.false_eq_true]

end

end Sys2Proof.Machine


/-! Feedback changes of QUEUED and MOVING turnouts (O21). -/

namespace Sys2Proof.Machine

set_option Elab.async false

section
variable {v : Env} {e b : Ev} {u t : Units} {n : Nat} {c : TurnoutCfg} {y : Turnout} {q : List (Nat × Pos)}

/-! ## What a calm end leaves of the drives -/

theorem keepsBut_mono {ps qs : List Part} (h : u.keepsBut qs t) (hq : ∀ p ∈ qs, p ∈ ps := by decide) : u.keepsBut ps t :=
  fun p hp => h p fun hm => hp (hq p hm)

/-- What a turnout that came to rest in an event shows at the event's end. -/
theorem Ev.ComesToRest.shown (h : Ev.ComesToRest v n y q e b) (ht : Machine.Goes Part.ofCalm b.u t) :
    t.turnout n = y ∧ (∀ i, i ≠ n → t.turnout i = e.u.turnout i) ∧ t.tdu.queue = q ∧ t.tdu.cdu = e.u.tdu.cdu
      ∧ ∀ m s, v.sys.number = some m → e.u.lnk.ordinary.length < 16 → (e.u.turnout n).requester = some s →
          t.lnk.carries ⟨s, m, .answer, answerPayload .turnoutRequest n .done⟩ := by
  have hx := calm_tdu ht
  exact ⟨(turnout_of_tdu hx n).trans h.record, fun i hi => (turnout_of_tdu hx i).trans (h.others i hi),
    by rw [hx, h.queue], by rw [hx, h.cdu], fun m s hn hq hr => ht.onward.frames _ (h.answered m s hn hq hr)⟩

/-- What a MOVING turnout that was thrown anew in an event shows at the event's end. -/
theorem Ev.ThrownAnew.shown (h : Ev.ThrownAnew v n c e b) (ht : Machine.Goes Part.ofCalm b.u t) (hy : e.u.turnout n = y)
    (hs : y.state = .moving) :
    let starts := (e.u.block c.owning).occupied = false ∧ (c.drive = .solenoid → e.u.tdu.cdu = .ready)
    ((c.drive = .motor → (e.joined v n).u.motorsMoving v < 4) → starts →
      t.turnout n = { y with drive := some ⟨y.commanded, if c.drive = .solenoid then .pulse else .motor 0⟩ }
      ∧ t.tdu.queue = [] ∧ t.tdu.cdu = if c.drive = .solenoid then .pulsing n 0 else e.u.tdu.cdu)
    ∧ (¬ starts → t.turnout n = { y with state := .queued, drive := none }
      ∧ t.tdu.queue = [(n, y.commanded)] ∧ t.tdu.cdu = e.u.tdu.cdu)
    ∧ ∀ i, i ≠ n → t.turnout i = e.u.turnout i := by
  intro starts
  have hx := calm_tdu ht
  have hr := turnout_of_tdu hx
  refine ⟨fun hm hst => ?_, fun hst => ?_, fun i hi => (hr i).trans (h.others i hi)⟩
  · obtain ⟨hrec, hq, hc⟩ := h.started hm hst
    rw [hx]
    refine ⟨(hr n).trans (hrec.trans ?_), hq, hc⟩
    rw [hy, ← hs]
    rfl
  · obtain ⟨hrec, hq, hc⟩ := h.waiting hst
    rw [hx, ← hy]
    exact ⟨(hr n).trans hrec, hq, hc⟩

end

section
variable {s : State} {n : Nat} {c : TurnoutCfg} {normal reverse : Bool} {x : Turnout} {p : Option Pos} {e : Ev} {v : Env}

/-! ## Feedback while QUEUED or MOVING (R40, R43 to R45, R47) -/

theorem feedbackReaction_queued (h : (e.u.turnout n).state = .queued) :
    e.feedbackReaction v n p = e.proofWhileQueued v n := by
  simp only [Ev.feedbackReaction, h]

theorem feedbackReaction_moving (h : (e.u.turnout n).state = .moving) :
    e.feedbackReaction v n p = e.feedbackWhileMoving v n p := by
  simp only [Ev.feedbackReaction, h]

/-- R43, R47: a change in the pulse, or one that does not prove the drive position, is only noted. -/
theorem feedbackWhileMoving_noted
    (h : ∀ d, (e.u.turnout n).drive = some d → d.stage = .pulse ∨ p ≠ some d.pos) : e.feedbackWhileMoving v n p = e := by
  unfold Ev.feedbackWhileMoving
  split
  next pos k hd => exact if_neg ((h _ hd).resolve_left nofun)
  next pos k hd => exact if_neg ((h _ hd).resolve_left nofun)
  all_goals rfl

theorem feedbackWhileMoving_ends {d : Drive} (hd : (e.u.turnout n).drive = some d) (hs : d.stage ≠ .pulse)
    (hp : p = some d.pos) : e.feedbackWhileMoving v n p = e.driveEnd v n true := by
  obtain ⟨pos, stage⟩ := d
  unfold Ev.feedbackWhileMoving
  rw [hd]
  cases stage with
  | pulse => exact absurd rfl hs
  | window k => exact if_pos hp
  | motor k => exact if_pos hp

/-- A reading of turnout `n` that changes and shows no contradiction, and what it proves. -/
structure State.Reads (s : State) (n : Nat) (c : TurnoutCfg) (normal reverse : Bool) (x : Turnout) (p : Option Pos) : Prop where
  running : s.sys.station = .running
  cfg     : s.sys.cfg.turnout n = some c
  record  : s.units.tdu.turnouts[n]? = some x
  changes : readingChanges c.feedback (x.normalIn.level, x.reverseIn.level) (normal, reverse) = true
  single  : contradicts c.feedback normal reverse = false
  proves  : proves c.feedback normal reverse x.proven = p

/-- The record after a reading. -/
def Turnout.afterReading (normal reverse : Bool) (p : Option Pos) (x : Turnout) : Turnout :=
  { x.showing normal reverse with proven := p }

/-- What a kind reads of a change that shows no contradiction. -/
theorem reads_of_kind (hr : s.sys.station = .running) (hc : s.sys.cfg.turnout n = some c)
    (hx : s.units.tdu.turnouts[n]? = some x)
    (h : c.feedback = .twoContact ∧ (x.normalIn.level ≠ normal ∨ x.reverseIn.level ≠ reverse) ∧ (normal && reverse) = false
        ∧ p = (if normal then some .normal else if reverse then some .reverse else none)
      ∨ c.feedback = .reverseContact ∧ x.reverseIn.level ≠ reverse ∧ p = some (if reverse then .reverse else .normal)) :
    s.Reads n c normal reverse x p := by
  have hk : readingChanges c.feedback (x.normalIn.level, x.reverseIn.level) (normal, reverse) = true
      ∧ contradicts c.feedback normal reverse = false := by
    rw [readingChanges_eq]
    rcases h with ⟨hk, hl, hb, -⟩ | ⟨hk, hl, -⟩
    · rw [hk]
      exact ⟨by simpa using hl, hb⟩
    · rw [hk]
      exact ⟨by simpa using hl, rfl⟩
  refine ⟨hr, hc, hx, hk.1, hk.2, (proves_of_reads hk.1).trans ?_⟩
  rw [hk.2]
  rcases h with ⟨hk, -, -, hp⟩ | ⟨hk, -, hp⟩
  all_goals
    rw [hk, hp]
    rfl

theorem turnouts_of_sized {u : Units} (h : u.sized) : u.tdu.turnouts.length = 32 := by
  obtain ⟨-, -, -, -, ht, -⟩ := h
  exact ht

variable (h : s.Reads n c normal reverse x p)
include h

theorem State.Reads.turnout : (s.reading c.feedback n normal reverse).u.turnout n = x.afterReading normal reverse p := by
  have hr := reading_turnout (e := .start s.units) (kind := c.feedback) (normal := normal) (reverse := reverse)
    (lt_of_turnout h.record)
  rw [show (Ev.start s.units).u.turnout n = x from turnout_of h.record, h.proves] at hr
  exact hr

theorem State.Reads.proven : (s.reading c.feedback n normal reverse).u.proven c.feedback n = p := by
  have hr := reading_proven (e := .start s.units) (kind := c.feedback) (normal := normal) (reverse := reverse)
    (lt_of_turnout h.record)
  rw [show (Ev.start s.units).u.turnout n = x from turnout_of h.record, h.proves] at hr
  exact hr

theorem State.Reads.lt : n < (s.reading c.feedback n normal reverse).u.tdu.turnouts.length :=
  reading_records.symm ▸ lt_of_turnout h.record

/-- The turnout does not react: its reading is noted. -/
theorem State.Reads.noted
    (hu : (s.reading c.feedback n normal reverse).feedbackReaction (s.contacts n normal reverse).env n p
      = s.reading c.feedback n normal reverse) :
    ∃ t, exec (.turnoutFeedbackChange n normal reverse) s = .next t ∧ t.units.turnout n = x.afterReading normal reverse p
      ∧ (∀ i, i ≠ n → t.units.turnout i = s.units.turnout i) ∧ s.units.keepsBut (.turnouts :: Part.ofEnd) t.units := by
  obtain ⟨t, ht, hrec, hne, -, hk⟩ := noted_contacts h.running h.cfg h.record h.changes h.single
    (by rw [h.proves]; exact hu)
  exact ⟨t, ht, by rw [hrec, h.proves]; rfl, hne, hk⟩

/-- The turnout reacts: `b` is what its reaction makes of the reading. -/
theorem State.Reads.reacts {b : Ev} {ps : List Part} (hw : s.units.nothingWaits)
    (hb : (s.reading c.feedback n normal reverse).feedbackReaction (s.contacts n normal reverse).env n p = b)
    (hg : Ev.Goes ps (s.reading c.feedback n normal reverse) b) (ht : Part.turnouts ∈ ps)
    (hp : Part.waiting ∉ ps ∧ Part.table ∉ ps := by decide) (hk : ∀ p ∈ Part.ofCalm, p ∈ ps := by decide) :
    ∃ t, exec (.turnoutFeedbackChange n normal reverse) s = .next t ∧ Goes Part.ofCalm b.u t.units
      ∧ s.units.keepsBut ps t.units :=
  feedback_event h.running h.cfg h.record hw h.changes (by rw [h.single, h.proves, ← hb]; rfl) hg ht hp hk

/-- R40: proven in the commanded position, a QUEUED turnout rests there. -/
theorem State.Reads.queued_rests (hw : s.units.nothingWaits) (hn : s.units.noRouteAwaits s.sys.cfg n)
    (hs : x.state = .queued) (hp : p = some x.commanded) :
    ∃ t, exec (.turnoutFeedbackChange n normal reverse) s = .next t
      ∧ t.units.turnout n
        = { x.afterReading normal reverse p with state := .at x.commanded, requester := none }
      ∧ (∀ i, i ≠ n → t.units.turnout i = s.units.turnout i)
      ∧ t.units.tdu.queue = s.units.tdu.queue.filter (fun z => z.1 != n)
      ∧ (∀ m q, s.canSend m → x.requester = some q →
          t.units.lnk.carries ⟨q, m, .answer, answerPayload .turnoutRequest n .done⟩)
      ∧ s.units.keepsBut ([.turnouts, .throws] ++ Part.ofCalm) t.units := by
  have hx := h.turnout
  have hrest := proofWhileQueued_rests (v := (s.contacts n normal reverse).env) h.cfg h.lt (noRouteAwaits_reading hn)
    (by rw [hx]; exact hs) (by rw [h.proven, hx]; exact hp)
  rw [hx] at hrest
  obtain ⟨t, ht, hg, hk⟩ := h.reacts hw (feedbackReaction_queued (by rw [hx]; exact hs)) hrest.goes (by decide)
  obtain ⟨hrec, hne, hq, -, hans⟩ := hrest.shown hg
  exact ⟨t, ht, hrec, fun i hi => (hne i hi).trans (reading_turnout_ne hi), hq,
    fun m q hm hr => hans m q hm.1 hm.2 (by rw [hx]; exact hr), keepsBut_mono hk⟩

/-- R40: proven elsewhere or nowhere, a QUEUED turnout waits on. -/
theorem State.Reads.queued_noted (hs : x.state = .queued) (hp : p ≠ some x.commanded) :
    ∃ t, exec (.turnoutFeedbackChange n normal reverse) s = .next t
      ∧ t.units.turnout n = x.afterReading normal reverse p
      ∧ (∀ i, i ≠ n → t.units.turnout i = s.units.turnout i) ∧ s.units.keepsBut (.turnouts :: Part.ofEnd) t.units := by
  refine h.noted ?_
  rw [feedbackReaction_queued (by rw [h.turnout]; exact hs)]
  exact proofWhileQueued_stays h.cfg fun _ => by rw [h.proven, h.turnout]; exact hp

variable {d : Drive}

/-- R43, R47: a change in the pulse, or one that does not prove the drive position, is only noted. -/
theorem State.Reads.moving_noted (hs : x.state = .moving) (hd : ∀ d, x.drive = some d → d.stage = .pulse ∨ p ≠ some d.pos) :
    ∃ t, exec (.turnoutFeedbackChange n normal reverse) s = .next t
      ∧ t.units.turnout n = x.afterReading normal reverse p
      ∧ (∀ i, i ≠ n → t.units.turnout i = s.units.turnout i) ∧ s.units.keepsBut (.turnouts :: Part.ofEnd) t.units := by
  refine h.noted ?_
  rw [feedbackReaction_moving (by rw [h.turnout]; exact hs)]
  exact feedbackWhileMoving_noted (by rw [h.turnout]; exact hd)

/-- R43, R44: the reading that proves a drive's position ends it. -/
theorem State.Reads.moving_ends (hs : x.state = .moving) (hd : x.drive = some d) (hg : d.stage ≠ .pulse)
    (hp : p = some d.pos) :
    (s.reading c.feedback n normal reverse).feedbackReaction (s.contacts n normal reverse).env n p
      = (s.reading c.feedback n normal reverse).driveEnd (s.contacts n normal reverse).env n true := by
  rw [feedbackReaction_moving (by rw [h.turnout]; exact hs)]
  exact feedbackWhileMoving_ends (by rw [h.turnout]; exact hd) hg hp

/-- R43, R44: proven in the position commanded, the drive ends at rest. -/
theorem State.Reads.moving_rests (hw : s.units.nothingWaits) (hn : s.units.noRouteAwaits s.sys.cfg n)
    (hs : x.state = .moving) (hd : x.drive = some d) (hg : d.stage ≠ .pulse) (hp : p = some d.pos)
    (hc : x.commanded = d.pos) (hq : s.units.tdu.queue = []) :
    ∃ t, exec (.turnoutFeedbackChange n normal reverse) s = .next t
      ∧ t.units.turnout n
        = { x.afterReading normal reverse p with state := .at d.pos, drive := none, requester := none }
      ∧ (∀ i, i ≠ n → t.units.turnout i = s.units.turnout i)
      ∧ (∀ m q, s.canSend m → x.requester = some q →
          t.units.lnk.carries ⟨q, m, .answer, answerPayload .turnoutRequest n .done⟩)
      ∧ s.units.keepsBut (.turnouts :: Part.ofCalm) t.units := by
  have hx := h.turnout
  have hrest := driveEnd_proven (v := (s.contacts n normal reverse).env) (d := d) h.lt (noRouteAwaits_reading hn)
    (by rw [hx]; exact hd) (by rw [hx]; exact hc) fun _ => hq
  rw [hx] at hrest
  obtain ⟨t, ht, hgo, hk⟩ := h.reacts hw (h.moving_ends hs hd hg hp) hrest.goes (by decide)
  obtain ⟨hrec, hne, hqueue, -, hans⟩ := hrest.shown hgo
  exact ⟨t, ht, hrec, fun i hi => (hne i hi).trans (reading_turnout_ne hi),
    fun m q hm hr => hans m q hm.1 hm.2 (by rw [hx]; exact hr), keepsBut_of_agree hk hqueue⟩

/-- R42, R45: proven in another position than the one commanded, the drive ends in a new throw. -/
theorem State.Reads.moving_redirected (hw : s.units.nothingWaits) (hs : x.state = .moving) (hd : x.drive = some d)
    (hg : d.stage ≠ .pulse) (hp : p = some d.pos) (hc : x.commanded ≠ d.pos) (hq : s.units.tdu.queue = []) :
    ∃ t, exec (.turnoutFeedbackChange n normal reverse) s = .next t
      ∧ (∀ i, i ≠ n → t.units.turnout i = s.units.turnout i)
      ∧ (let starts := (s.units.block c.owning).occupied = false ∧ (c.drive = .solenoid → s.units.tdu.cdu = .ready)
        (s.units.sized → s.units.motorsMoving s.env ≤ 4 → starts →
          t.units.turnout n = { x.afterReading normal reverse p with
              drive := some ⟨x.commanded, if c.drive = .solenoid then .pulse else .motor 0⟩ }
            ∧ t.units.tdu.queue = []
            ∧ t.units.tdu.cdu = if c.drive = .solenoid then .pulsing n 0 else s.units.tdu.cdu)
        ∧ (¬ starts → t.units.turnout n = { x.afterReading normal reverse p with state := .queued, drive := none }
            ∧ t.units.tdu.queue = [(n, x.commanded)] ∧ t.units.tdu.cdu = s.units.tdu.cdu))
      ∧ s.units.keepsBut ([.turnouts, .throws, .cdu] ++ Part.ofCalm) t.units := by
  have hx := h.turnout
  let e := s.reading c.feedback n normal reverse
  let v := (s.contacts n normal reverse).env
  have hthrown := joinQueue_thrown (e := e) (v := v) h.cfg h.lt hq
    (by rw [h.proven, hx, hp]; exact fun hpos => hc (Option.some.inj hpos).symm)
  obtain ⟨t, ht, hgo, hk⟩ := h.reacts (ps := [.turnouts, .throws, .cdu] ++ Part.ofCalm) hw
    ((h.moving_ends hs hd hg hp).trans (driveEnd_redirected (by rw [hx]; exact hd) (by rw [hx]; exact hc)))
    (hthrown.goes.mono (by decide)) (by decide)
  obtain ⟨hstart, hwait, hne⟩ := hthrown.shown hgo hx hs
  refine ⟨t, ht, fun i hi => (hne i hi).trans (reading_turnout_ne hi), ⟨fun hz hm => hstart ?_, hwait⟩, hk⟩
  have hlen : e.u.tdu.turnouts.length = 32 := reading_records.trans (turnouts_of_sized hz)
  have hmoving : e.u.motorsMoving v ≤ 4 := (motorsMoving_le (v := v) (fun _ hi => reading_turnout_ne hi)
    fun _ => by rw [show (Ev.start s.units).u.turnout n = x from turnout_of h.record]; exact hs).trans hm
  exact joined_motors h.cfg hlen (hlen ▸ h.lt) (by rw [hx]; exact hs) hmoving

/-- With no throw queued, no other turnout changes. -/
theorem State.Reads.others (hw : s.units.nothingWaits) (hn : s.units.noRouteAwaits s.sys.cfg n)
    (hqueue : s.units.tdu.queue = []) :
    ∃ t, exec (.turnoutFeedbackChange n normal reverse) s = .next t
      ∧ ∀ i, i ≠ n → t.units.turnout i = s.units.turnout i := by
  have rests (hr : x.state = .normal ∨ x.state = .reverse ∨ x.state = .unknown) :
      ∃ t, exec (.turnoutFeedbackChange n normal reverse) s = .next t
        ∧ ∀ i, i ≠ n → t.units.turnout i = s.units.turnout i := by
    cases hh : x.held with
    | false =>
      obtain ⟨t, ht, -, hne, -⟩ := unheld_follows h.running h.cfg h.record hw hn h.changes h.single hh hr
      exact ⟨t, ht, hne⟩
    | true =>
      obtain ⟨t, ht, -, hne, -⟩ := contacts_fail h.running h.cfg h.record hw hn h.changes
        (fun hm => by simp [hm] at hr) rfl (.inr ⟨hh, hr⟩)
      exact ⟨t, ht, hne⟩
  cases hx : x.state with
  | normal => exact rests (.inl hx)
  | reverse => exact rests (.inr (.inl hx))
  | unknown => exact rests (.inr (.inr hx))
  | queued =>
    by_cases hp : p = some x.commanded
    · obtain ⟨t, ht, -, hne, -⟩ := h.queued_rests hw hn hx hp
      exact ⟨t, ht, hne⟩
    · obtain ⟨t, ht, -, hne, -⟩ := h.queued_noted hx hp
      exact ⟨t, ht, hne⟩
  | moving =>
    by_cases hd : ∀ d, x.drive = some d → d.stage = .pulse ∨ p ≠ some d.pos
    · obtain ⟨t, ht, -, hne, -⟩ := h.moving_noted hx hd
      exact ⟨t, ht, hne⟩
    · push Not at hd
      obtain ⟨d, hd, hg, hp⟩ := hd
      by_cases hc : x.commanded = d.pos
      · obtain ⟨t, ht, -, hne, -⟩ := h.moving_rests hw hn hx hd hg hp hc hqueue
        exact ⟨t, ht, hne⟩
      · obtain ⟨t, ht, hne, -⟩ := h.moving_redirected hw hx hd hg hp hc hqueue
        exact ⟨t, ht, hne⟩
  | failed =>
    by_cases hq : ∃ q, p = some q ∧ (x.held = false ∨ q = x.commanded)
    · obtain ⟨q, hp, hq⟩ := hq
      obtain ⟨t, ht, -, hne, -⟩ := failed_accepts h.running h.cfg h.record hw hn h.changes h.single hx (h.proves.trans hp) hq
      exact ⟨t, ht, hne⟩
    · obtain ⟨t, ht, -, hne, -⟩ := failed_stays h.running h.cfg h.record h.changes h.single hx fun q hp hh =>
        hq ⟨q, h.proves.symm.trans hp, hh⟩
      exact ⟨t, ht, hne⟩

omit h

end

/-- What holds of the state a command leaves holds of it however it is named. -/
theorem of_next {s t : State} {i : Instr} {P : State → Prop} (ht : exec i s = .next t)
    (h : ∃ t', exec i s = .next t' ∧ P t') : P t := by
  obtain ⟨t', ht', hP⟩ := h
  obtain rfl : t' = t := Host.Outcome.next.inj (ht'.symm.trans ht)
  exact hP

theorem at_eq (p : Pos) : TurnoutState.at p = if p = .normal then .normal else .reverse := by cases p <;> rfl

/-- Settles O21: by the state and the drive of the turnout, each outcome taken from its own lemma. -/
theorem queuedAndMovingTurnouts : Obligations.QueuedAndMovingTurnouts := by
  intro s n c normal reverse x p hr hz hw hn hc hx hkind y
  have h : s.Reads n c normal reverse x p := reads_of_kind hr hc hx hkind
  have hx' := exec_feedbackChange (n := n) (normal := normal) (reverse := reverse) hr
  refine ⟨_, hx', fun i hi hq => ?_, fun hs hp => ?_, fun hs hp => ?_, fun d hs hd => ⟨fun hst => ?_, fun hst hp hcm hq => ?_,
    fun hst hp hcm hq hm => ?_⟩⟩
  · exact of_next hx' (h.others hw hn hq) i hi
  · obtain ⟨hrec, -, hq, hans, hk⟩ := of_next hx' (h.queued_rests hw hn hs hp)
    exact ⟨by rw [hrec, at_eq]; rfl, hq, hans, hk⟩
  · obtain ⟨hrec, -, hk⟩ := of_next hx' (h.queued_noted hs hp)
    exact ⟨hrec, hk⟩
  · obtain ⟨hrec, -, hk⟩ := of_next hx' (h.moving_noted hs fun d' hd' => by
      obtain rfl : d' = d := Option.some.inj (hd'.symm.trans hd)
      exact hst)
    exact ⟨hrec, hk⟩
  · obtain ⟨hrec, -, hans, hk⟩ := of_next hx' (h.moving_rests hw hn hs hd hst hp hcm hq)
    exact ⟨by rw [hrec, at_eq]; rfl, hans, hk⟩
  · obtain ⟨-, ⟨hstart, hwait⟩, hk⟩ := of_next hx' (h.moving_redirected hw hs hd hst hp hcm hq)
    exact ⟨hstart hz hm, hwait, hk⟩

end Sys2Proof.Machine


/-! The times of the drives and of the CDU that run out (O23, O25). -/

namespace Sys2Proof.Machine

set_option Elab.async false

section
variable {s : State} {i : Instr} {n k : Nat} {c : TurnoutCfg} {y : Turnout} {d : Drive} {pos : Pos} {q : Option Pos}
  {cdu : Cdu} {proven : Bool} {v : Env} {e b : Ev}

/-! ## The event of a time that runs out (R41, R43, R44) -/

/-- The event of a time of turnout `n`'s drive: the CDU is `cdu` and the proven position `q` when the drive is judged. -/
def State.timed (s : State) (n : Nat) (cdu : Cdu) (q : Option Pos) : Ev :=
  ((Ev.start s.units).setCdu cdu).setTurnout n fun x => { x with proven := q }

/-- Command `i` ends the drive of turnout `n`, proven or not. -/
def State.endsDrive (s : State) (i : Instr) (n : Nat) (cdu : Cdu) (q : Option Pos) (proven : Bool) : Prop :=
  ∃ g : Env → Ev → Ev, exec i s = .next (s.event g) ∧ g s.env (.start s.units) = (s.timed n cdu q).driveEnd s.env n proven

theorem setTurnout_of_same {f : Turnout → Turnout} (h : e.u.tdu.turnouts[n]? = some y) (hf : f y = y) :
    e.setTurnout n f = e := by
  have hl : e.u.tdu.turnouts.modify n f = e.u.tdu.turnouts := by
    refine List.ext_getElem? fun j => ?_
    rw [List.getElem?_modify]
    split
    next hj =>
      subst hj
      rw [h]
      exact congrArg some hf
    · exact id_map _
  unfold Ev.setTurnout
  rw [hl]

theorem timed_goes : Ev.Goes [.turnouts, .cdu] (.start s.units) (s.timed n cdu q) :=
  ((setCdu_goes cdu _).mono (by decide)).after (setTurnout_goes n _ _) (by decide)

theorem timed_turnout_ne {j : Nat} (hj : j ≠ n) : (s.timed n cdu q).u.turnout j = s.units.turnout j :=
  setTurnout_turnout_ne hj _

theorem timed_noRouteAwaits (h : s.units.noRouteAwaits s.sys.cfg n) : (s.timed n cdu q).u.noRouteAwaits s.sys.cfg n :=
  noRouteAwaits_of_routes h rfl

section
variable (h : s.units.tdu.turnouts[n]? = some y)
include h

theorem timed_same : s.timed n s.units.tdu.cdu y.proven = .start s.units := setTurnout_of_same (e := .start s.units) h rfl

theorem timed_lt : n < (s.timed n cdu q).u.tdu.turnouts.length := by
  simpa [State.timed, Ev.start] using lt_of_turnout h

theorem timed_turnout : (s.timed n cdu q).u.turnout n = { y with proven := q } := by
  rw [State.timed, setTurnout_turnout_self (lt_of_turnout h), ← turnout_of h]
  rfl

theorem timed_proven {j : Feedback} :
    (s.timed n cdu q).u.proven j n = if j = .none then q else s.units.proven j n := by
  rw [Units.proven, timed_turnout h, Units.proven, turnout_of h]
  cases j <;> rfl

end

/-- The event of a command that ends a drive. -/
theorem State.endsDrive.event {ps : List Part} (h : s.endsDrive i n cdu q proven) (hw : s.units.nothingWaits)
    (hb : ((s.timed n cdu q).driveEnd s.env n proven).u = b.u) (hg : Ev.Goes ps (s.timed n cdu q) b)
    (ht : ∀ p ∈ [Part.turnouts, .cdu], p ∈ ps) (hp : Part.waiting ∉ ps ∧ Part.table ∉ ps := by decide)
    (hk : ∀ p ∈ Part.ofCalm, p ∈ ps := by decide) :
    ∃ t, exec i s = .next t ∧ Goes Part.ofCalm b.u t.units ∧ s.units.keepsBut ps t.units := by
  obtain ⟨g, hi, hg'⟩ := h
  obtain ⟨hs, hf⟩ := event_of_nothingWaits (s := s) (g := g) hw ((congrArg Ev.u hg').trans hb)
    ((timed_goes.mono ht).trans hg) hp hk
  exact ⟨_, hi, hs, hf⟩

/-! ## How the drive ends (R43 to R46) -/

section
variable (hw : s.units.nothingWaits) (hn : s.units.noRouteAwaits s.sys.cfg n) (hy : s.units.tdu.turnouts[n]? = some y)
  (hd : y.drive = some d)
include hw hn hy hd

/-- R43, R44: proven in the position commanded, the turnout rests there. -/
theorem State.endsDrive.rests (h : s.endsDrive i n cdu q true) (hc : y.commanded = d.pos)
    (hm : s.env.isMotor n = true → s.units.tdu.queue = []) :
    ∃ t, exec i s = .next t
      ∧ t.units.turnout n = { y with state := .at d.pos, proven := q, drive := none, requester := none }
      ∧ t.units.tdu.cdu = cdu
      ∧ (∀ m z, s.canSend m → y.requester = some z →
          t.units.lnk.carries ⟨z, m, .answer, answerPayload .turnoutRequest n .done⟩)
      ∧ (∀ j, j ≠ n → t.units.turnout j = s.units.turnout j)
      ∧ s.units.keepsBut ([.turnouts, .cdu] ++ Part.ofCalm) t.units := by
  have hx := timed_turnout (cdu := cdu) (q := q) hy
  have hrest := driveEnd_proven (e := s.timed n cdu q) (v := s.env) (d := d) (timed_lt hy) (timed_noRouteAwaits hn) (by rw [hx]; exact hd)
    (by rw [hx]; exact hc) hm
  rw [hx] at hrest
  obtain ⟨t, ht, hg, hk⟩ := h.event (ps := .throws :: ([.turnouts, .cdu] ++ Part.ofCalm)) hw rfl
    (hrest.goes.mono (by decide)) (by decide)
  obtain ⟨hrec, hne, hqueue, hcdu, hans⟩ := hrest.shown hg
  exact ⟨t, ht, hrec, hcdu, fun m z hm hr => hans m z hm.1 hm.2 (by rw [hx]; exact hr),
    fun j hj => (hne j hj).trans (timed_turnout_ne hj), keepsBut_of_agree hk hqueue⟩

/-- R46: unproven in the position commanded, the turnout fails. -/
theorem State.endsDrive.fails (h : s.endsDrive i n s.units.tdu.cdu y.proven false) (hc : y.commanded = d.pos)
    (hq : s.units.tdu.queue = []) :
    ∃ t, exec i s = .next t ∧ t.units.turnout n = { y with state := .failed, drive := none, requester := none }
      ∧ t.units.record = ⟨.throwTimeout, .turnout n, s.units.scaleMinute, saturate s.units.record.count⟩
      ∧ t.units.lnk.tellsTurnout n
      ∧ (∀ m z, s.canSend m → y.requester = some z →
          t.units.lnk.carries ⟨z, m, .answer, answerPayload .turnoutRequest n .throwFailed⟩)
      ∧ (∀ j, j ≠ n → t.units.turnout j = s.units.turnout j)
      ∧ s.units.keepsBut ([.turnouts, .record] ++ Part.ofCalm) t.units := by
  obtain ⟨g, hi, hg⟩ := h
  rw [timed_same hy] at hg
  have hx : (Ev.start s.units).u.turnout n = y := turnout_of hy
  have hl : n < (Ev.start s.units).u.tdu.turnouts.length := lt_of_turnout hy
  have hu : (g s.env (.start s.units)).u = ((Ev.start s.units).failed s.env n .throwTimeout).u := by
    rw [hg, driveEnd_unproven (by rw [hx]; exact hd) (by rw [hx]; exact hc)]
    exact enterFailed_u hn fun _ => .inr hq
  obtain ⟨hs, hk⟩ := event_of_nothingWaits (s := s) (g := g) (ps := .throws :: ([.turnouts, .record] ++ Part.ofCalm)) hw hu
    (failed_goes.mono (by decide))
  have hqueue : (s.event g).units.tdu.queue = s.units.tdu.queue := by
    rw [calm_tdu hs, failed_queue]
    simp [Ev.start, hq]
  refine ⟨_, hi, ?_, (hs.keeps .record (by decide)).trans failed_record, hs.onward.turnouts _ failed_tells,
    fun m z hm hr => hs.onward.frames _ (failed_carries hm.1 hm.2 hl (by rw [hx]; exact hr)), fun j hj => ?_,
    keepsBut_of_agree hk hqueue⟩
  · rw [turnout_of_tdu (calm_tdu hs), failed_turnout hl, hx]
  · rw [turnout_of_tdu (calm_tdu hs), failed_turnout_ne hj]
    rfl

/-- R45: a drive that was redirected ends in the throw that came meanwhile. -/
theorem State.endsDrive.again (h : s.endsDrive i n cdu q proven) (hz : s.units.sized) (hcfg : s.sys.cfg.turnout n = some c)
    (hs : y.state = .moving) (hc : y.commanded ≠ d.pos) (hq : s.units.tdu.queue = []) (hm : s.units.motorsMoving s.env ≤ 4) :
    ∃ t, exec i s = .next t
      ∧ (let y' : Turnout := { y with proven := q }
        let p := if c.feedback = .none then q else s.units.proven c.feedback n
        let starts := (s.units.block c.owning).occupied = false ∧ (c.drive = .solenoid → cdu = .ready)
        (p = some y.commanded →
          t.units.turnout n = { y' with state := .at y.commanded, drive := none, requester := none }
          ∧ t.units.tdu.queue = [] ∧ t.units.tdu.cdu = cdu
          ∧ ∀ m z, s.canSend m → y.requester = some z →
              t.units.lnk.carries ⟨z, m, .answer, answerPayload .turnoutRequest n .done⟩)
        ∧ (p ≠ some y.commanded →
          (starts → t.units.turnout n = { y' with
              drive := some ⟨y.commanded, if c.drive = .solenoid then .pulse else .motor 0⟩ }
            ∧ t.units.tdu.queue = [] ∧ t.units.tdu.cdu = if c.drive = .solenoid then .pulsing n 0 else cdu)
          ∧ (¬ starts → t.units.turnout n = { y' with state := .queued, drive := none }
            ∧ t.units.tdu.queue = [(n, y.commanded)] ∧ t.units.tdu.cdu = cdu)))
      ∧ (∀ j, j ≠ n → t.units.turnout j = s.units.turnout j)
      ∧ s.units.keepsBut ([.turnouts, .throws, .cdu] ++ Part.ofCalm) t.units := by
  have hx := timed_turnout (cdu := cdu) (q := q) hy
  have hp := timed_proven (cdu := cdu) (q := q) hy (j := c.feedback)
  have hend : (s.timed n cdu q).driveEnd s.env n proven = (s.timed n cdu q).joinQueue s.env n :=
    driveEnd_redirected (by rw [hx]; exact hd) (by rw [hx]; exact hc)
  dsimp only
  rw [← hp]
  by_cases hproves : (s.timed n cdu q).u.proven c.feedback n = some y.commanded
  · have hrest := joinQueue_rests (e := s.timed n cdu q) (v := s.env) hcfg (timed_lt hy) (timed_noRouteAwaits hn) hq
      (by rw [hx]; exact hproves)
    rw [hx] at hrest
    obtain ⟨t, ht, hg, hk⟩ := h.event (ps := [.turnouts, .throws, .cdu] ++ Part.ofCalm) hw (congrArg Ev.u hend)
      (hrest.goes.mono (by decide)) (by decide)
    obtain ⟨hrec, hne, hqueue, hcdu, hans⟩ := hrest.shown hg
    exact ⟨t, ht, ⟨fun _ => ⟨hrec, hqueue, hcdu, fun m z hm hr => hans m z hm.1 hm.2 (by rw [hx]; exact hr)⟩,
      fun hnot => absurd hproves hnot⟩, fun j hj => (hne j hj).trans (timed_turnout_ne hj), hk⟩
  · have hthrown := joinQueue_thrown (e := s.timed n cdu q) (v := s.env) hcfg (timed_lt hy) hq (by rw [hx]; exact hproves)
    have hlen : (s.timed n cdu q).u.tdu.turnouts.length = 32 := by
      rw [State.timed, setTurnout_u_tdu_turnouts, List.length_modify]
      exact turnouts_of_sized hz
    have hmoving : (s.timed n cdu q).u.motorsMoving s.env ≤ 4 :=
      (motorsMoving_le (fun _ hj => timed_turnout_ne hj) fun _ => by rw [turnout_of hy]; exact hs).trans hm
    obtain ⟨t, ht, hg, hk⟩ := h.event (ps := [.turnouts, .throws, .cdu] ++ Part.ofCalm) hw (congrArg Ev.u hend)
      (hthrown.goes.mono (by decide)) (by decide)
    obtain ⟨hstart, hwait, hne⟩ := hthrown.shown hg hx hs
    exact ⟨t, ht, ⟨fun h => absurd h hproves, fun _ => ⟨hstart
      (joined_motors hcfg hlen (hlen ▸ timed_lt hy) (by rw [hx]; exact hs) hmoving), hwait⟩⟩,
      fun j hj => (hne j hj).trans (timed_turnout_ne hj), hk⟩

end

/-! ## The commands (R41, R43, R44) -/

section
variable (hr : s.sys.station = .running) (hy : s.units.tdu.turnouts[n]? = some y)
include hr hy

/-- R43: the confirm window runs out: no proof came. -/
theorem confirmWindowExpiry_endsDrive (hd : y.drive = some ⟨pos, .window k⟩) :
    s.endsDrive (.confirmWindowExpiry n) n s.units.tdu.cdu y.proven false := by
  refine ⟨fun v e => e.windowExpiry v n, congrArg Host.Outcome.next (whenRunning_of_running hr _), ?_⟩
  rw [timed_same hy]
  simp only [Ev.windowExpiry, show (Ev.start s.units).u.turnout n = y from turnout_of hy, hd]

/-- R44: the motor's time is the proof of a turnout without feedback, and no proof of another. -/
theorem motorTimeoutExpiry_endsDrive (hc : s.sys.cfg.turnout n = some c) (hd : y.drive = some ⟨pos, .motor k⟩) :
    s.endsDrive (.motorTimeoutExpiry n) n s.units.tdu.cdu (if c.feedback = .none then some pos else y.proven)
      (decide (c.feedback = .none)) := by
  refine ⟨fun v e => e.motorExpiry v n, congrArg Host.Outcome.next (whenRunning_of_running hr _), ?_⟩
  simp only [Ev.motorExpiry, show s.env.cfg.turnout n = some c from hc,
    show (Ev.start s.units).u.turnout n = y from turnout_of hy, hd]
  cases hf : c.feedback with
  | none => rfl
  | twoContact => exact congrArg (Ev.driveEnd s.env n false) (timed_same hy).symm
  | reverseContact => exact congrArg (Ev.driveEnd s.env n false) (timed_same hy).symm

variable (hcdu : s.units.tdu.cdu = .pulsing n k) (hc : s.sys.cfg.turnout n = some c) (hd : y.drive = some ⟨pos, .pulse⟩)
include hcdu hc hd

/-- R41, R43: the pulse of a turnout without feedback is its proof, and a contact's proof ends the drive with the pulse. -/
theorem solenoidPulseEnd_endsDrive (hp : c.feedback = .none ∨ s.units.proven c.feedback n = some pos) :
    s.endsDrive .solenoidPulseEnd n (.recharging 0) (if c.feedback = .none then some pos else y.proven) true := by
  refine ⟨fun v e => e.pulseEnd v, congrArg Host.Outcome.next (whenRunning_of_running hr _), ?_⟩
  have hx : ((Ev.start s.units).setCdu (.recharging 0)).u.turnout n = y := turnout_of hy
  have hsame : ((Ev.start s.units).setCdu (.recharging 0)).setTurnout n (fun x => { x with proven := y.proven })
      = (Ev.start s.units).setCdu (.recharging 0) := setTurnout_of_same hy rfl
  have hproven (j : Feedback) : ((Ev.start s.units).setCdu (.recharging 0)).u.proven j n = s.units.proven j n := rfl
  simp only [Ev.pulseEnd, show (Ev.start s.units).u.tdu.cdu = .pulsing n k from hcdu, Ev.judgePulse,
    show s.env.cfg.turnout n = some c from hc, hx, hd, State.timed]
  cases hf : c.feedback with
  | none => rfl
  | twoContact =>
    rw [hf] at hp
    simp only [reduceCtorEq, if_false, hsame, hproven]
    exact if_pos (hp.resolve_left nofun)
  | reverseContact =>
    rw [hf] at hp
    simp only [reduceCtorEq, if_false, hsame, hproven]
    exact if_pos (hp.resolve_left nofun)

/-- R43: without a proof at the end of the pulse the confirm window runs. -/
theorem solenoidPulseEnd_window (hw : s.units.nothingWaits) (hf : c.feedback ≠ .none)
    (hp : s.units.proven c.feedback n ≠ some pos) :
    ∃ t, exec .solenoidPulseEnd s = .next t ∧ t.units.tdu.cdu = .recharging 0
      ∧ t.units.turnout n = { y with drive := some ⟨pos, .window 0⟩ }
      ∧ (∀ j, j ≠ n → t.units.turnout j = s.units.turnout j)
      ∧ s.units.keepsBut ([.turnouts, .cdu] ++ Part.ofCalm) t.units := by
  let e := ((Ev.start s.units).setCdu (.recharging 0)).setTurnout n fun x => { x with drive := some ⟨pos, .window 0⟩ }
  have hx : ((Ev.start s.units).setCdu (.recharging 0)).u.turnout n = y := turnout_of hy
  have hproven (j : Feedback) : ((Ev.start s.units).setCdu (.recharging 0)).u.proven j n = s.units.proven j n := rfl
  have hpulse : (Ev.start s.units).pulseEnd s.env = e := by
    simp only [Ev.pulseEnd, show (Ev.start s.units).u.tdu.cdu = .pulsing n k from hcdu, Ev.judgePulse,
      show s.env.cfg.turnout n = some c from hc, hx, hd, hproven]
    cases hk : c.feedback with
    | none => exact absurd hk hf
    | twoContact => exact if_neg (hk ▸ hp)
    | reverseContact => exact if_neg (hk ▸ hp)
  obtain ⟨hs, hk⟩ := event_of_nothingWaits (s := s) (g := fun v e => e.pulseEnd v) (ps := [.turnouts, .cdu] ++ Part.ofCalm)
    hw (congrArg Ev.u hpulse) ((((setCdu_goes _ _).mono (by decide)).after (setTurnout_goes n _ _) (by decide)))
  refine ⟨_, congrArg Host.Outcome.next (whenRunning_of_running hr _), ?_, ?_, fun j hj => ?_, hk⟩
  · rw [calm_tdu hs]
    rfl
  · rw [turnout_of_tdu (calm_tdu hs)]
    exact (setTurnout_turnout_self (e := (Ev.start s.units).setCdu (.recharging 0)) (lt_of_turnout hy) _).trans (by rw [hx])
  · rw [turnout_of_tdu (calm_tdu hs), setTurnout_turnout_ne hj]
    rfl

end

end

section
variable {s : State} {n k : Nat} {p : Pos} {c : TurnoutCfg} {v : Env} {e b : Ev} {q : List (Nat × Pos)}

/-! ## The end of the recharge (R41, R42) -/

/-- An event that calls for nothing leaves the Turnout Drive Unit as its changes left it. -/
theorem event_tdu_of_silent {s : State} {g : Env → Ev → Ev} (h : (g s.env (.start s.units)).Silent) :
    (s.event g).units.tdu = (g s.env (.start s.units)).u.tdu := tdu_of_keepsBut (settle_silent h).keeps

theorem startEntry_silent {t : Nat} (h : e.Silent) : (e.startEntry v t).Silent := by
  unfold Ev.startEntry
  dsimp only
  split <;> exact h.units _

theorem arbiter_silent (h : e.Silent) : (e.arbiter v).Silent :=
  List.foldlRecOn (motive := Ev.Silent) _ _ h fun b hb x _ => by
    split
    · exact startEntry_silent hb
    · exact hb

/-- R41, R42: the pulse of turnout `n` goes on, and what is queued was in `q` and waits for another turnout. -/
structure Ev.Pulses (n : Nat) (y : Turnout) (q : List (Nat × Pos)) (e : Ev) : Prop where
  cdu    : e.u.tdu.cdu = .pulsing n 0
  record : e.u.turnout n = y
  queue  : ∀ x ∈ e.u.tdu.queue, x.1 ≠ n ∧ x ∈ q

/-- R42: while the CDU pulses, a motor's entry alone is eligible. -/
theorem Ev.Pulses.startEntry {t : Nat} {y : Turnout} (h : e.Pulses n y q) (hc : v.cfg.turnout n = some c)
    (hd : c.drive = .solenoid) (ht : e.u.eligible v t = true) : (e.startEntry v t).Pulses n y q := by
  cases hct : v.cfg.turnout t with
  | none => simp [Units.eligible, hct] at ht
  | some g =>
    obtain ⟨-, hcdu, -⟩ := (eligible_iff hct).1 ht
    have hg : g.drive ≠ .solenoid := fun hg => by simpa [h.cdu] using hcdu hg
    have hne : n ≠ t := by
      rintro rfl
      obtain rfl : c = g := Option.some.inj (hc.symm.trans hct)
      exact hg hd
    refine ⟨by rw [startEntry_cdu hct, if_neg hg, h.cdu], by rw [startEntry_turnout_ne hct hne, h.record], fun x hx => ?_⟩
    rw [startEntry_queue hct] at hx
    exact h.queue x (List.mem_of_mem_filter hx)

/-- R42: the arbiter starts the oldest entry if it is a solenoid's, its block CLEAR and the CDU ready. -/
theorem arbiter_pulses {y : Turnout} (hq : e.u.tdu.queue = (n, p) :: q) (hc : v.cfg.turnout n = some c)
    (hd : c.drive = .solenoid) (hb : (e.u.block c.owning).occupied = false) (hcdu : e.u.tdu.cdu = .ready)
    (hy : e.u.tdu.turnouts[n]? = some y) : (e.arbiter v).Pulses n (y.startDrive .pulse) q := by
  have hfirst : (e.startEntry v n).Pulses n (y.startDrive .pulse) q := by
    refine ⟨by rw [startEntry_cdu hc, if_pos hd], ?_, fun x hx => ?_⟩
    · rw [startEntry_turnout hc (lt_of_turnout hy), turnout_of hy, hd]
      rfl
    · rw [startEntry_queue hc, hq] at hx
      obtain ⟨hm, hx⟩ := List.mem_filter.1 hx
      have hne : x.1 ≠ n := by simpa using hx
      exact ⟨hne, (List.mem_cons.1 hm).resolve_left fun h => hne (congrArg Prod.fst h)⟩
  rw [Ev.arbiter, hq, List.foldl_cons, if_pos ((eligible_iff hc).2 ⟨hb, fun _ => hcdu, by simp [hd]⟩)]
  exact List.foldlRecOn (motive := Ev.Pulses n (y.startDrive .pulse) q) _ _ hfirst fun b hb x _ => by
    split
    next hx => exact hb.startEntry hc hd hx
    · exact hb

end

/-- Settles O25: a drive that ends in the position commanded fails or rests there, one that was redirected is thrown anew. -/
theorem driveTimesRunOut : Obligations.DriveTimesRunOut := by
  refine ⟨fun s n k c y pos hr hw hn hc hy hcm hq => ?_, fun s n k c y d hr hz hw hn hc hy hs hd hcm hq hm => ?_⟩
  · refine ⟨fun hd => (confirmWindowExpiry_endsDrive hr hy hd).fails hw hn hy hd hcm hq, fun hd hf => ?_, fun hd hf => ?_⟩
    · have h := motorTimeoutExpiry_endsDrive hr hy hc hd
      rw [if_neg hf, decide_eq_false hf] at h
      exact h.fails hw hn hy hd hcm hq
    · have h := motorTimeoutExpiry_endsDrive hr hy hc hd
      rw [if_pos hf, decide_eq_true hf] at h
      obtain ⟨t, ht, hrec, hcdu, hans, hne, hk⟩ := h.rests hw hn hy hd hcm fun _ => hq
      exact ⟨t, ht, by rw [hrec, at_eq], hans, hne, keepsBut_of_agree (p := .cdu) (keepsBut_mono hk) hcdu⟩
  · obtain ⟨pos, stage⟩ := d
    rw [← at_eq]
    refine ⟨fun hst => ?_, fun hst => ?_, fun j hst hj hp => ?_⟩
    · obtain rfl : stage = .window k := hst
      exact (confirmWindowExpiry_endsDrive hr hy hd).again hw hn hy hd hz hc hs hcm hq hm
    · obtain rfl : stage = .motor k := hst
      exact (motorTimeoutExpiry_endsDrive hr hy hc hd).again hw hn hy hd hz hc hs hcm hq hm
    · obtain rfl : stage = .pulse := hst
      exact (solenoidPulseEnd_endsDrive hr hy hj hc hd hp).again hw hn hy hd hz hc hs hcm hq hm

/-- Settles O23: the pulse ends in a proof or in the confirm window; the recharge ends in a run of the arbiter. -/
theorem cduPulsesAndRecharges : Obligations.CduPulsesAndRecharges := by
  refine ⟨fun s n k c y pos hr hw hn hcdu hc hsol hy hd hcm => ?_, fun s k hr hcdu => ?_⟩
  · by_cases hp : c.feedback = .none ∨ s.units.proven c.feedback n = some pos
    · obtain ⟨t, ht, hrec, hcdu', hans, hne, hk⟩ := (solenoidPulseEnd_endsDrive hr hy hcdu hc hd hp).rests hw hn hy hd hcm
        fun hm => by simp [Env.isMotor, show s.env.cfg.turnout n = some c from hc, hsol] at hm
      exact ⟨t, ht, hcdu', (if_pos hp).symm ▸ ⟨by rw [hrec, at_eq], hans⟩, hne, hk⟩
    · obtain ⟨t, ht, hcdu', hrec, hne, hk⟩ := solenoidPulseEnd_window hr hy hcdu hc hd hw (fun h => hp (.inl h))
        fun h => hp (.inr h)
      exact ⟨t, ht, hcdu', (if_neg hp).symm ▸ hrec, hne, hk⟩
  · let e := (Ev.start s.units).setCdu .ready
    have hg : (Ev.start s.units).rechargeExpiry s.env = e.arbiter s.env := by
      simp only [Ev.rechargeExpiry, show (Ev.start s.units).u.tdu.cdu = .recharging k from hcdu]
      rfl
    have hsilent : (e.arbiter s.env).Silent := arbiter_silent ((silent_start s.units).units _)
    have hend : ((Ev.start s.units).rechargeExpiry s.env).Silent := hg ▸ hsilent
    have htdu : (s.event fun v e => e.rechargeExpiry v).units.tdu = (e.arbiter s.env).u.tdu :=
      (event_tdu_of_silent (g := fun v e => e.rechargeExpiry v) hend).trans (congrArg (·.u.tdu) hg)
    refine ⟨s.event fun v e => e.rechargeExpiry v, congrArg Host.Outcome.next (whenRunning_of_running hr _),
      fun hq => ?_, fun n p q c y hq hc hd hb hy => ?_, ?_⟩
    · rw [htdu, arbiter_of_empty (e := e) hq]
      exact ⟨rfl, rfl⟩
    · have h := arbiter_pulses (e := e) (v := s.env) hq hc hd hb rfl hy
      rw [turnout_of_tdu htdu, htdu]
      exact ⟨h.cdu, h.record, h.queue⟩
    · refine event_keepsBut (qs := [.turnouts, .throws, .cdu]) (fun v e => e.rechargeExpiry v) hend ?_
      rw [hg]
      exact ((setCdu_goes _ _).mono (by decide)).trans (arbiter_goes s.env e)

end Sys2Proof.Machine


/-! Throws of turnouts that are not proven where a route needs them, and what they make of the turnouts that wait (R39, R42,
R49, R59). -/

namespace Sys2Proof.Machine

set_option Elab.async false

section
variable {v : Env} {e b d : Ev} {t k m : Nat} {p : Pos} {c : TurnoutCfg} {r : Bool}

/-! ## What a run of the arbiter leaves of a turnout (R42) -/

/-- From `e` to `b` turnout `k` is as it was and its queued throw waits on, or its throw was queued and has started. -/
def Ev.MayStart (k : Nat) (e b : Ev) : Prop :=
  (b.u.turnout k = e.u.turnout k ∧ ∀ p, (k, p) ∈ e.u.tdu.queue → (k, p) ∈ b.u.tdu.queue)
    ∨ (e.u.turnout k).state = .queued ∧ ∃ st, b.u.turnout k = (e.u.turnout k).startDrive st

theorem Ev.MayStart.refl (k : Nat) (e : Ev) : Ev.MayStart k e e := .inl ⟨rfl, fun _ h => h⟩

theorem Ev.MayStart.trans (h : Ev.MayStart k e b) (g : Ev.MayStart k b d) : Ev.MayStart k e d := by
  obtain ⟨hb, hq⟩ | ⟨hs, st, hb⟩ := h
  · obtain ⟨hd, hq'⟩ | ⟨hs', st, hd⟩ := g
    · exact .inl ⟨hd.trans hb, fun p hp => hq' p (hq p hp)⟩
    · exact .inr ⟨hb ▸ hs', st, by rw [hd, hb]⟩
  · obtain ⟨hd, -⟩ | ⟨hs', -⟩ := g
    · exact .inr ⟨hs, st, hd.trans hb⟩
    · rw [hb] at hs'
      exact nomatch hs'

theorem Ev.MayStart.turnout (h : Ev.MayStart k e b) (hs : (e.u.turnout k).state ≠ .queued) :
    b.u.turnout k = e.u.turnout k :=
  h.elim And.left fun h => absurd h.1 hs

/-- A drive that starts leaves what the contacts say, and the holds. -/
theorem Ev.MayStart.proven {j : Feedback} (h : Ev.MayStart k e b) : b.u.proven j k = e.u.proven j k := by
  obtain ⟨hb, -⟩ | ⟨-, st, hb⟩ := h
  · rw [Units.proven, hb, Units.proven]
  · exact proven_congr (by rw [hb]; rfl) (by rw [hb]; rfl) (by rw [hb]; rfl)

theorem Ev.MayStart.state_at (h : Ev.MayStart k e b) : (b.u.turnout k).state = .at p ↔ (e.u.turnout k).state = .at p := by
  obtain ⟨hb, -⟩ | ⟨hs, st, hb⟩ := h
  · rw [hb]
  · rw [hs, hb]
    cases p <;> exact iff_of_false nofun nofun

theorem Ev.MayStart.failed (h : Ev.MayStart k e b) : (b.u.turnout k).state = .failed ↔ (e.u.turnout k).state = .failed := by
  obtain ⟨hb, -⟩ | ⟨hs, st, hb⟩ := h
  · rw [hb]
  · rw [hs, hb]
    exact iff_of_false nofun nofun

theorem Ev.MayStart.requester (h : Ev.MayStart k e b) : (b.u.turnout k).requester = (e.u.turnout k).requester := by
  obtain ⟨hb, -⟩ | ⟨-, st, hb⟩ := h
  · rw [hb]
  · rw [hb]
    rfl

theorem lt_of_state_queued {u : Units} (h : (u.turnout t).state = .queued) : t < u.tdu.turnouts.length := by
  by_contra hl
  simp [Units.turnout, List.getElem?_eq_none (Nat.le_of_not_lt hl), Turnout.initial] at h

theorem startEntry_mayStart (hc : v.cfg.turnout t = some c) (hs : (e.u.turnout t).state = .queued) :
    Ev.MayStart k e (e.startEntry v t) := by
  by_cases hk : k = t
  · subst hk
    exact .inr ⟨hs, _, startEntry_turnout hc (lt_of_state_queued hs)⟩
  · refine .inl ⟨startEntry_turnout_ne hc hk, fun p hp => ?_⟩
    rw [startEntry_queue hc]
    exact List.mem_filter.2 ⟨hp, by simpa using hk⟩

/-- R42: a run over entries that are all QUEUED starts some of them, each once. -/
theorem starts_mayStart (l : List (Nat × Pos)) (hl : (l.map Prod.fst).Nodup)
    (hq : ∀ x ∈ l, (e.u.turnout x.1).state = .queued) :
    Ev.MayStart k e (l.foldl (fun e x => if e.u.eligible v x.1 then e.startEntry v x.1 else e) e) := by
  induction l generalizing e with
  | nil => exact .refl k e
  | cons x xs ih =>
    rw [List.map_cons, List.nodup_cons] at hl
    have hrest (y) (hy : y ∈ xs) : (e.u.turnout y.1).state = .queued := hq y (List.mem_cons_of_mem _ hy)
    rw [List.foldl_cons]
    split
    next he =>
      cases hc : v.cfg.turnout x.1 with
      | none => simp [Units.eligible, hc] at he
      | some c =>
        refine (startEntry_mayStart hc (hq x List.mem_cons_self)).trans (ih hl.2 fun y hy => ?_)
        have hne : y.1 ≠ x.1 := fun hyx => hl.1 (hyx ▸ List.mem_map_of_mem hy)
        rw [startEntry_turnout_ne hc hne]
        exact hrest y hy
    · exact ih hl.2 hrest

theorem arbiter_mayStart (hn : (e.u.tdu.queue.map Prod.fst).Nodup)
    (hq : ∀ x ∈ e.u.tdu.queue, (e.u.turnout x.1).state = .queued) : Ev.MayStart k e (e.arbiter v) :=
  starts_mayStart _ hn hq

/-! ## One throw (R39, R49) -/

/-- The entry of turnout `t` in the throw queue has the position of the throw. -/
def Ev.redirected (t : Nat) (p : Pos) (e : Ev) : Ev := e.setThrows fun q => q.map fun y => if y.1 = t then (t, p) else y

theorem replaceRequester_told {q : Nat} (hn : v.sys.number = some m) (hl : e.u.lnk.ordinary.length < 16)
    (hq : (e.u.turnout t).requester = some q) :
    (e.replaceRequester v t none).u.lnk.carries ⟨q, m, .answer, answerPayload .turnoutRequest t .conflict⟩ := by
  unfold Ev.replaceRequester
  rw [if_neg (by rw [hq]; exact nofun)]
  exact settleRequester_carries hn hl hq

/-- R49, R190: at most one answer joins the ordinary queue, and the urgent queue is left. -/
theorem asked_queues (hn : v.sys.number = some m) (hl : e.u.lnk.ordinary.length < 16) :
    (e.asked v t p none).u.lnk.ordinary.length ≤ e.u.lnk.ordinary.length + 1
      ∧ (e.asked v t p none).u.lnk.urgent = e.u.lnk.urgent := by
  unfold Ev.asked Ev.replaceRequester
  split
  · exact ⟨Nat.le_succ _, rfl⟩
  · unfold Ev.settleRequester
    dsimp only
    split
    · rw [answer_of_room (e := e.setTurnout t _) hn hl]
      simp [Ev.link]
    · exact ⟨Nat.le_succ _, rfl⟩

theorem asked_turnout_ne (hk : k ≠ t) : (e.asked v t p none).u.turnout k = e.u.turnout k := by
  unfold Ev.asked Ev.replaceRequester
  rw [setTurnout_turnout_ne hk, setTurnout_turnout_ne hk]
  split
  · rfl
  · exact settleRequester_turnout_ne hk

theorem asked_proven {j : Feedback} (ht : t < e.u.tdu.turnouts.length) :
    (e.asked v t p none).u.proven j t = e.u.proven j t :=
  proven_congr (by rw [asked_record ht]) (by rw [asked_record ht]) (by rw [asked_record ht])

theorem throw_moving (hs : (e.u.turnout t).state = .moving) : e.throw v t p none = e.asked v t p none := by
  rw [throw_eq, hs]

theorem throw_queued (hc : v.cfg.turnout t = some c) (hs : (e.u.turnout t).state = .queued)
    (hp : e.u.proven c.feedback t ≠ some p) : e.throw v t p none = (e.asked v t p none).redirected t p := by
  have ht := lt_of_state_queued hs
  have hx : ((e.asked v t p none).redirected t p).u.turnout t = _ := asked_record (v := v) (p := p) (s := none) ht
  have hproven : ((e.asked v t p none).redirected t p).u.proven c.feedback t = e.u.proven c.feedback t := asked_proven ht
  rw [throw_eq, hs]
  exact proofWhileQueued_stays (e := (e.asked v t p none).redirected t p) hc fun _ => by rw [hproven, hx]; exact hp

theorem throw_rest (hc : v.cfg.turnout t = some c) (ht : t < e.u.tdu.turnouts.length)
    (hs : (e.u.turnout t).state = .normal ∨ (e.u.turnout t).state = .reverse ∨ (e.u.turnout t).state = .unknown)
    (hp : e.u.proven c.feedback t ≠ some p) :
    e.throw v t p none = ((e.asked v t p none).joined v t).arbiter v := by
  have hl : t < (e.asked v t p none).u.tdu.turnouts.length := by
    simpa [Ev.asked, Ev.replaceRequester, apply_ite, settleRequester_records] using ht
  have hthrow : e.throw v t p none = (e.asked v t p none).joinQueue v t := by
    rw [throw_eq]
    rcases hs with hs | hs | hs <;> rw [hs]
  rw [hthrow, joinQueue_eq, proofWhileQueued_stays hc fun _ => ?_]
  rw [joined_proven hl, joined_turnout hl, asked_proven ht, asked_record ht]
  exact hp

/-- R39, R49, R59: from `e` to `b` turnout `t` was thrown for a route to `p`, where it was not proven: it is commanded there, no
requester waits for it, its drive goes on, and its throw waits or has started. -/
structure Ev.ThrownTo (m t : Nat) (p : Pos) (e b : Ev) : Prop where
  commanded  : (b.u.turnout t).commanded = p
  requester  : (b.u.turnout t).requester = none
  pathHolder : (b.u.turnout t).pathHolder = (e.u.turnout t).pathHolder
  flankCount : (b.u.turnout t).flankCount = (e.u.turnout t).flankCount
  told       : ∀ q, (e.u.turnout t).requester = some q →
    b.u.lnk.carries ⟨q, m, .answer, answerPayload .turnoutRequest t .conflict⟩
  moves      : (e.u.turnout t).state = .moving →
    (b.u.turnout t).state = .moving ∧ (b.u.turnout t).drive = (e.u.turnout t).drive
  waits      : (b.u.turnout t).state = .queued ∧ (t, p) ∈ b.u.tdu.queue
    ∨ (b.u.turnout t).state = .moving ∧ ∃ d, (b.u.turnout t).drive = some d
      ∧ (d.pos = p ∨ (e.u.turnout t).state = .moving ∨ (e.u.turnout t).state = .queued)

/-- A thrown turnout may start while others are thrown. -/
theorem Ev.ThrownTo.start {ps : List Part} (h : Ev.ThrownTo m t p e b) (g : Ev.MayStart t b d) (hg : Ev.Goes ps b d) :
    Ev.ThrownTo m t p e d := by
  obtain ⟨hd, hq⟩ | ⟨hs, st, hd⟩ := g
  · exact {
      commanded := by rw [hd, h.commanded]
      requester := by rw [hd, h.requester]
      pathHolder := by rw [hd, h.pathHolder]
      flankCount := by rw [hd, h.flankCount]
      told := fun q hr => hg.onward.frames _ (h.told q hr)
      moves := by rw [hd]; exact h.moves
      waits := by rw [hd]; exact h.waits.imp_left fun ⟨hs, hm⟩ => ⟨hs, hq p hm⟩ }
  · exact {
      commanded := by rw [hd]; exact h.commanded
      requester := by rw [hd]; exact h.requester
      pathHolder := by rw [hd]; exact h.pathHolder
      flankCount := by rw [hd]; exact h.flankCount
      told := fun q hr => hg.onward.frames _ (h.told q hr)
      moves := fun hm => by
        obtain ⟨hm', -⟩ := h.moves hm
        exact nomatch hs.symm.trans hm'
      waits := by
        rw [hd]
        exact .inr ⟨rfl, ⟨(b.u.turnout t).commanded, st⟩, rfl, .inl h.commanded⟩ }

/-- A turnout that is thrown may have started before, while others were thrown. -/
theorem Ev.ThrownTo.started (h : Ev.ThrownTo m t p b d) (g : Ev.MayStart t e b) : Ev.ThrownTo m t p e d := by
  obtain ⟨hb, -⟩ | ⟨hs, st, hb⟩ := g
  · exact {
      commanded := h.commanded
      requester := h.requester
      pathHolder := by rw [h.pathHolder, hb]
      flankCount := by rw [h.flankCount, hb]
      told := by rw [← hb]; exact h.told
      moves := by rw [← hb]; exact h.moves
      waits := by rw [← hb]; exact h.waits }
  · exact {
      commanded := h.commanded
      requester := h.requester
      pathHolder := by rw [h.pathHolder, hb]; rfl
      flankCount := by rw [h.flankCount, hb]; rfl
      told := fun q hr => h.told q (by rw [hb]; exact hr)
      moves := fun hm => nomatch hs.symm.trans hm
      waits := h.waits.imp_right fun ⟨hm, d, hd, _⟩ => ⟨hm, d, hd, .inr (.inr hs)⟩ }

section
variable (hk : e.DrivesKept v true none) (hc : v.cfg.turnout t = some c) (ht : t < 32)
  (hf : (e.u.turnout t).state ≠ .failed) (hp : e.u.proven c.feedback t ≠ some p)
include hk hc ht hf hp

/-- R39: beyond the requester an unproven throw changes turnouts, queue and CDU alone. -/
theorem throw_goes_unproven : Ev.Goes [.turnouts, .throws, .cdu] (e.asked v t p none) (e.throw v t p none) := by
  have rests (hs : (e.u.turnout t).state = .normal ∨ (e.u.turnout t).state = .reverse ∨ (e.u.turnout t).state = .unknown) :
      Ev.Goes [.turnouts, .throws, .cdu] (e.asked v t p none) (e.throw v t p none) := by
    rw [throw_rest hc (hk.lt ht) hs hp]
    exact (joined_goes.mono (by decide)).trans (arbiter_goes v _)
  cases hs : (e.u.turnout t).state with
  | normal => exact rests (.inl hs)
  | reverse => exact rests (.inr (.inl hs))
  | unknown => exact rests (.inr (.inr hs))
  | failed => exact absurd hs hf
  | queued =>
    rw [throw_queued hc hs hp]
    exact (setThrows_goes _ _).mono (by decide)
  | moving =>
    rw [throw_moving hs]
    exact .refl _ _

omit hf hp hc in
/-- R39: the throw that joins the queue finds it as it should be. -/
theorem asked_joined_fits (hs : (e.u.turnout t).state ≠ .queued) :
    (((e.asked v t p none).joined v t).u.tdu.queue.map Prod.fst).Nodup
      ∧ ∀ x ∈ ((e.asked v t p none).joined v t).u.tdu.queue, (((e.asked v t p none).joined v t).u.turnout x.1).state = .queued := by
  have hl : t < (e.asked v t p none).u.tdu.turnouts.length := (asked_keepsDrives hk).lt ht
  have hq : (e.asked v t p none).u.tdu.queue = e.u.tdu.queue := (asked_goes p none e).keeps .throws (by decide)
  have hnot : t ∉ e.u.tdu.queue.map Prod.fst := mt (hk.drives.fits t nofun).queued.1 hs
  rw [joined_queue, hq]
  refine ⟨?_, fun x hx => ?_⟩
  · rw [List.map_append]
    exact hk.drives.once.append (List.nodup_singleton _) (List.disjoint_singleton.2 hnot)
  · by_cases hxt : x.1 = t
    · rw [hxt, joined_turnout hl]
    · have hx' : x ∈ e.u.tdu.queue := (List.mem_append.1 hx).resolve_right fun h =>
        hxt (congrArg Prod.fst (List.mem_singleton.1 h))
      rw [joined_turnout_ne hxt, asked_turnout_ne hxt]
      exact (hk.drives.fits x.1 nofun).queued.1 (List.mem_map_of_mem hx')

/-- R42: another turnout is as it was, or starts. -/
theorem throw_mayStart (hkt : k ≠ t) : Ev.MayStart k e (e.throw v t p none) := by
  have hq : (e.asked v t p none).u.tdu.queue = e.u.tdu.queue := (asked_goes p none e).keeps .throws (by decide)
  have rests (hs : (e.u.turnout t).state = .normal ∨ (e.u.turnout t).state = .reverse ∨ (e.u.turnout t).state = .unknown) :
      Ev.MayStart k e (e.throw v t p none) := by
    have hfits := asked_joined_fits (p := p) hk ht fun h => by simp [h] at hs
    have hjoined : Ev.MayStart k e ((e.asked v t p none).joined v t) := by
      refine .inl ⟨by rw [joined_turnout_ne hkt, asked_turnout_ne hkt], fun q hm => ?_⟩
      rw [joined_queue, hq]
      exact List.mem_append_left _ hm
    rw [throw_rest hc (hk.lt ht) hs hp]
    exact hjoined.trans (arbiter_mayStart hfits.1 hfits.2)
  cases hs : (e.u.turnout t).state with
  | normal => exact rests (.inl hs)
  | reverse => exact rests (.inr (.inl hs))
  | unknown => exact rests (.inr (.inr hs))
  | failed => exact absurd hs hf
  | queued =>
    rw [throw_queued hc hs hp]
    refine .inl ⟨asked_turnout_ne hkt, fun q hm => ?_⟩
    show (k, q) ∈ (e.asked v t p none).u.tdu.queue.map _
    rw [hq]
    exact List.mem_map.2 ⟨_, hm, if_neg hkt⟩
  | moving =>
    rw [throw_moving hs]
    exact .inl ⟨asked_turnout_ne hkt, fun q hm => hq ▸ hm⟩

/-- R39, R49: the turnout itself is thrown. -/
theorem throw_thrownTo (hn : v.sys.number = some m) (hl : e.u.lnk.ordinary.length < 16) :
    Ev.ThrownTo m t p e (e.throw v t p none) := by
  have hx := asked_record (v := v) (p := p) (s := none) (hk.lt ht)
  have hlen : t < (e.asked v t p none).u.tdu.turnouts.length := (asked_keepsDrives hk).lt ht
  have hq : (e.asked v t p none).u.tdu.queue = e.u.tdu.queue := (asked_goes p none e).keeps .throws (by decide)
  have told (q : Nat) (hr : (e.u.turnout t).requester = some q) :
      (e.throw v t p none).u.lnk.carries ⟨q, m, .answer, answerPayload .turnoutRequest t .conflict⟩ :=
    (throw_goes_unproven hk hc ht hf hp).onward.frames _
      ((setTurnout_goes t _ _).onward.frames _ (replaceRequester_told hn hl hr))
  have rests (hs : (e.u.turnout t).state = .normal ∨ (e.u.turnout t).state = .reverse ∨ (e.u.turnout t).state = .unknown) :
      Ev.ThrownTo m t p e (e.throw v t p none) := by
    have hnot : (e.u.turnout t).state ≠ .queued ∧ (e.u.turnout t).state ≠ .moving := by
      rcases hs with hs | hs | hs <;> simp [hs]
    have hfits := asked_joined_fits (p := p) hk ht hnot.1
    have hj := joined_turnout (v := v) hlen
    rw [hx] at hj
    have hthrow := throw_rest hc (hk.lt ht) hs hp
    have hjoined : Ev.ThrownTo m t p e ((e.asked v t p none).joined v t) := {
      commanded := by rw [hj]
      requester := by rw [hj]
      pathHolder := by rw [hj]
      flankCount := by rw [hj]
      told := fun q hr => joined_goes.onward.frames _
        ((setTurnout_goes t _ _).onward.frames _ (replaceRequester_told hn hl hr))
      moves := fun hm => absurd hm hnot.2
      waits := .inl ⟨by rw [hj], by rw [joined_queue, hx]; exact List.mem_append_right _ (List.mem_singleton_self _)⟩ }
    rw [hthrow]
    exact hjoined.start (arbiter_mayStart hfits.1 hfits.2) (arbiter_goes v _)
  cases hs : (e.u.turnout t).state with
  | normal => exact rests (.inl hs)
  | reverse => exact rests (.inr (.inl hs))
  | unknown => exact rests (.inr (.inr hs))
  | failed => exact absurd hs hf
  | queued =>
    have hm : t ∈ e.u.tdu.queue.map Prod.fst := (hk.drives.fits t nofun).queued.2 hs
    obtain ⟨y, hy, hyt⟩ := List.mem_map.1 hm
    have hthrow := throw_queued hc hs hp
    have hxr : (e.throw v t p none).u.turnout t = _ := (congrArg (fun b : Ev => b.u.turnout t) hthrow).trans hx
    exact {
      commanded := by rw [hxr]
      requester := by rw [hxr]
      pathHolder := by rw [hxr]
      flankCount := by rw [hxr]
      told := told
      moves := fun hm => nomatch hs.symm.trans hm
      waits := .inl ⟨by rw [hxr]; exact hs, by
        rw [hthrow]
        show (t, p) ∈ (e.asked v t p none).u.tdu.queue.map _
        rw [hq]
        exact List.mem_map.2 ⟨y, hy, if_pos hyt⟩⟩ }
  | moving =>
    have hd : (e.u.turnout t).drive.isSome = true := (hk.drives.fits t nofun).moving.2 hs
    obtain ⟨d, hd⟩ := Option.isSome_iff_exists.1 hd
    have hxr : (e.throw v t p none).u.turnout t = _ :=
      (congrArg (fun b : Ev => b.u.turnout t) (throw_moving hs)).trans hx
    exact {
      commanded := by rw [hxr]
      requester := by rw [hxr]
      pathHolder := by rw [hxr]
      flankCount := by rw [hxr]
      told := told
      moves := fun _ => by rw [hxr]; exact ⟨hs, rfl⟩
      waits := by rw [hxr]; exact .inr ⟨hs, d, hd, .inr (.inl hs)⟩ }

/-- R190: a throw sends at most one answer. -/
theorem throw_queues (hn : v.sys.number = some m) (hl : e.u.lnk.ordinary.length < 16) :
    (e.throw v t p none).u.lnk.ordinary.length ≤ e.u.lnk.ordinary.length + 1
      ∧ (e.throw v t p none).u.lnk.urgent = e.u.lnk.urgent := by
  obtain ⟨hu, ho, -⟩ : Part.agree (e.asked v t p none).u (e.throw v t p none).u .transmitter :=
    (throw_goes_unproven hk hc ht hf hp).keeps .transmitter (by decide)
  rw [hu, ho]
  exact asked_queues hn hl

end

/-! ## The throws of a route (R59) -/

variable {x : Nat × Pos} {xs : List (Nat × Pos)}

/-- R59: turnout and position of a route that may be accepted: the turnout has not failed, and is not proven there unless it rests
there. -/
structure Ev.Throwable (v : Env) (x : Nat × Pos) (e : Ev) : Prop where
  lt       : x.1 < 32
  sound    : (e.u.turnout x.1).state ≠ .failed
  unproven : (e.u.turnout x.1).state ≠ .at x.2 →
    ∃ c, v.cfg.turnout x.1 = some c ∧ e.u.proven c.feedback x.1 ≠ some x.2

theorem Ev.Throwable.start (h : e.Throwable v x) (g : Ev.MayStart x.1 e b) : b.Throwable v x where
  lt := h.lt
  sound := mt g.failed.1 h.sound
  unproven hs := by
    obtain ⟨c, hc, hp⟩ := h.unproven (mt g.state_at.2 hs)
    exact ⟨c, hc, by rw [g.proven]; exact hp⟩

theorem provenIn_iff {u : Units} : u.provenIn t p = true ↔ (u.turnout t).state = .at p := by
  unfold Units.provenIn
  cases (u.turnout t).state <;> cases p <;> decide

theorem throwForRoute_proven (hs : (e.u.turnout x.1).state = .at x.2) : e.throwForRoute v x = e :=
  if_pos (provenIn_iff.2 hs)

theorem throwForRoute_unproven (hs : (e.u.turnout x.1).state ≠ .at x.2) :
    e.throwForRoute v x = e.throw v x.1 x.2 none := if_neg (mt provenIn_iff.1 hs)

/-- R59: from `e` to `b` every turnout of `xs` that did not rest in its position was thrown for a route; the others may have
started. -/
structure Ev.ThrownAll (m : Nat) (xs : List (Nat × Pos)) (e b : Ev) : Prop where
  goes     : Ev.Goes [.turnouts, .throws, .cdu, .counters, .slots, .transmitter] e b
  others   : ∀ k, (∀ y ∈ xs, y.1 = k → (e.u.turnout k).state = .at y.2) → Ev.MayStart k e b
  each     : ∀ y ∈ xs, (e.u.turnout y.1).state ≠ .at y.2 → Ev.ThrownTo m y.1 y.2 e b
  ordinary : b.u.lnk.ordinary.length ≤ e.u.lnk.ordinary.length + xs.length
  urgent   : b.u.lnk.urgent = e.u.lnk.urgent

theorem throws_proven (h : ∀ x ∈ xs, (e.u.turnout x.1).state = .at x.2) :
    xs.foldl (fun e x => e.throwForRoute v x) e = e :=
  List.foldlRecOn (motive := fun b => b = e) _ _ rfl fun b hb x hx => by
    rw [hb]
    exact throwForRoute_proven (h x hx)

theorem throws_thrownAll (hk : e.DrivesKept v true none) (hn : v.sys.number = some m) (hd : (xs.map Prod.fst).Nodup)
    (hx : ∀ x ∈ xs, e.Throwable v x) (hl : e.u.lnk.ordinary.length + xs.length ≤ 16) :
    Ev.ThrownAll m xs e (xs.foldl (fun e x => e.throwForRoute v x) e) := by
  induction xs generalizing e with
  | nil => exact ⟨.refl _ _, fun k _ => .refl k e, by simp, by simp, rfl⟩
  | cons x xs ih =>
    rw [List.map_cons, List.nodup_cons] at hd
    rw [List.length_cons] at hl
    have hne (y) (hy : y ∈ xs) : y.1 ≠ x.1 := fun hyx => hd.1 (hyx ▸ List.mem_map_of_mem hy)
    have hrest (y) (hy : y ∈ xs) : e.Throwable v y := hx y (List.mem_cons_of_mem _ hy)
    rw [List.foldl_cons]
    by_cases hs : (e.u.turnout x.1).state = .at x.2
    · rw [throwForRoute_proven hs]
      have h := ih hk hd.2 hrest (by omega)
      refine ⟨h.goes, fun k hy => h.others k fun y hm => hy y (List.mem_cons_of_mem _ hm), fun y hy hat => ?_,
        h.ordinary.trans (by simp), h.urgent⟩
      obtain rfl | hy := List.mem_cons.1 hy
      · exact absurd hs hat
      · exact h.each y hy hat
    · rw [throwForRoute_unproven hs]
      have hthrow := hx x List.mem_cons_self
      obtain ⟨c, hc, hp⟩ := hthrow.unproven hs
      have hmay (k) (hkx : k ≠ x.1) := throw_mayStart hk hc hthrow.lt hthrow.sound hp hkx
      obtain ⟨hord, hurg⟩ := throw_queues hk hc hthrow.lt hthrow.sound hp hn (by omega)
      have h := ih (throw_keepsDrives (s := none) (p := x.2) hk hthrow.lt) hd.2
        (fun y hy => (hrest y hy).start (hmay y.1 (hne y hy))) (by omega)
      refine ⟨?_, fun k hy => ?_, fun y hy hat => ?_, ?_, h.urgent.trans hurg⟩
      · exact (((asked_goes x.2 none e).mono (by decide)).after
          (throw_goes_unproven hk hc hthrow.lt hthrow.sound hp) (by decide)).trans h.goes
      · have hkx : k ≠ x.1 := fun hkx => hs (hkx ▸ hy x List.mem_cons_self hkx.symm)
        exact (hmay k hkx).trans (h.others k fun y hm hyk =>
          (hmay k hkx).state_at.2 (hy y (List.mem_cons_of_mem _ hm) hyk))
      · obtain rfl | hy := List.mem_cons.1 hy
        · exact (throw_thrownTo hk hc hthrow.lt hthrow.sound hp hn (by omega)).start
            (h.others _ fun z hz hzx => absurd hzx (hne z hz)) h.goes
        · exact (h.each y hy (mt (hmay y.1 (hne y hy)).state_at.1 hat)).started (hmay y.1 (hne y hy))
      · have := h.ordinary
        rw [List.length_cons]
        omega

end

end Sys2Proof.Machine


/-! What a route that is accepted takes: its blocks, its holds, its throws (R59). -/

namespace Sys2Proof.Machine

set_option Elab.async false

section
variable {v : Env} {e b : Ev} {u u' : Units} {n m t : Nat} {r : RouteCfg}

/-! ## Blocks (R9, R59) -/

theorem holder_of_agree (h : Part.agree u u' .holders) (i : Nat) : (u'.block i).holder = (u.block i).holder := by
  have hmap (w : Units) : (w.block i).holder = (w.bkt.blocks.map Block.holder).getD i Block.initial.holder :=
    (List.getD_map ..).symm
  rw [hmap, hmap, h]

/-- R9: a block that goes to a route fills and empties no carry. -/
theorem carryAtHolder_route (x : Block) (n : Nat) (e : Ev) : e.carryAtHolder x (.route n) = e := by
  simp [Ev.carryAtHolder]

theorem setHolder_route_u (v : Env) (i n : Nat) (e : Ev) : (e.setHolder v i (.route n)).u
    = if (e.u.block i).holder = .route n then e.u else (e.setBlock i fun x => { x with holder := .route n }).u := by
  unfold Ev.setHolder
  simp only [carryAtHolder_route, reduceCtorEq, if_false]
  split
  · rfl
  · split <;> split <;> rfl

theorem setHolder_route_goes (v : Env) (i n : Nat) (e : Ev) : Ev.Goes [.holders] e (e.setHolder v i (.route n)) := by
  unfold Ev.Goes
  rw [setHolder_route_u]
  split
  · exact .refl _ _
  · exact setBlock_goes e fun _ _ => rfl

theorem setHolder_route_holder (hi : t < e.u.bkt.blocks.length) (i : Nat) :
    ((e.setHolder v t (.route n)).u.block i).holder = if i = t then .route n else (e.u.block i).holder := by
  rw [setHolder_route_u]
  split
  next h =>
    split
    next hit => rw [hit, h]
    · rfl
  · rw [setBlock_block]
    simp only [hi, and_true]
    split <;> rfl

theorem setHolders_route_goes (v : Env) (bs : List Nat) (n : Nat) (e : Ev) :
    Ev.Goes [.holders] e (e.setHolders v bs (.route n)) :=
  List.foldlRecOn (motive := Ev.Goes [.holders] e) _ _ (.refl _ _) fun b hb i _ =>
    hb.trans (setHolder_route_goes v i n b)

theorem setHolders_route_holder {bs : List Nat} (hs : e.u.sound) (hb : ∀ i ∈ bs, i < 48) (i : Nat) :
    ((e.setHolders v bs (.route n)).u.block i).holder = if i ∈ bs then .route n else (e.u.block i).holder := by
  induction bs generalizing e with
  | nil => rfl
  | cons x xs ih =>
    have hx : x < e.u.bkt.blocks.length := by
      obtain ⟨-, hl, -⟩ := hs.1
      exact hl ▸ hb x List.mem_cons_self
    rw [Ev.setHolders, List.foldl_cons, ← Ev.setHolders,
      ih ((setHolder_route_goes v x n e).sound hs) fun i hi => hb i (List.mem_cons_of_mem _ hi), setHolder_route_holder hx]
    by_cases hix : i = x <;> simp [hix]

/-! ## Holds (R38, R59) -/

variable {f : Turnout → Turnout} {xs : List (Nat × Pos)}

theorem setHolds_u (t : Nat) (f : Turnout → Turnout) (e : Ev) : (e.setHolds t f).u = (e.setTurnout t f).u := by
  unfold Ev.setHolds
  dsimp only
  split <;> rfl

/-- Holds change in one record after the other, each once. -/
theorem holds_turnout (hd : (xs.map Prod.fst).Nodup) (hx : ∀ x ∈ xs, x.1 < e.u.tdu.turnouts.length) (k : Nat) :
    (xs.foldl (fun e x => e.setHolds x.1 f) e).u.turnout k
      = if k ∈ xs.map Prod.fst then f (e.u.turnout k) else e.u.turnout k := by
  induction xs generalizing e with
  | nil => rfl
  | cons x xs ih =>
    rw [List.map_cons, List.nodup_cons] at hd
    have hl : (e.setHolds x.1 f).u.tdu.turnouts.length = e.u.tdu.turnouts.length := by
      rw [setHolds_u, setTurnout_u_tdu_turnouts, List.length_modify]
    have ht (k : Nat) : (e.setHolds x.1 f).u.turnout k = (e.setTurnout x.1 f).u.turnout k :=
      turnout_of_tdu (congrArg Units.tdu (setHolds_u x.1 f e)) k
    rw [List.foldl_cons, ih hd.2 fun y hy => hl ▸ hx y (List.mem_cons_of_mem _ hy), ht, List.map_cons]
    by_cases hk : k = x.1
    · rw [hk, if_neg hd.1, if_pos List.mem_cons_self, setTurnout_turnout_self (hx x List.mem_cons_self)]
    · simp only [setTurnout_turnout_ne hk, List.mem_cons, hk, false_or]

theorem holds_goes : Ev.Goes [.turnouts] e (xs.foldl (fun e x => e.setHolds x.1 f) e) :=
  List.foldlRecOn (motive := Ev.Goes [.turnouts] e) _ _ (.refl _ _) fun b hb x _ => hb.trans (setHolds_goes x.1 f b)

theorem holds_length :
    (xs.foldl (fun e x => e.setHolds x.1 f) e).u.tdu.turnouts.length = e.u.tdu.turnouts.length :=
  List.foldlRecOn (motive := fun b : Ev => b.u.tdu.turnouts.length = e.u.tdu.turnouts.length) _ _ rfl fun b hb x _ => by
    rw [setHolds_u, setTurnout_u_tdu_turnouts, List.length_modify, hb]

/-- R59: the record of turnout `k` once route `n` has its path and flank holds. -/
def Turnout.heldFor (n k : Nat) (r : RouteCfg) (x : Turnout) : Turnout := { x with
  pathHolder := if k ∈ r.turnouts.map Prod.fst then some n else x.pathHolder
  flankCount := if k ∈ r.flank.map Prod.fst then x.flankCount + 1 else x.flankCount }

/-- R59 steps 1 and 2: blocks and turnouts are held for route `n`. -/
def Ev.heldFor (v : Env) (n : Nat) (r : RouteCfg) (e : Ev) : Ev :=
  r.flank.foldl (fun e x => e.holdFlank x.1)
    (r.turnouts.foldl (fun e x => e.holdPath n x.1) (e.setHolders v (r.path ++ r.overlap.toList) (.route n)))

theorem takeHolds_eq (v : Env) (n : Nat) (r : RouteCfg) (e : Ev) : e.takeHolds v n r
    = (r.turnouts ++ r.flank).foldl (fun e x => e.throwForRoute v x) (e.heldFor v n r) := rfl

theorem heldFor_goes : Ev.Goes [.holders, .turnouts] e (e.heldFor v n r) :=
  (((setHolders_route_goes v _ n e).mono (by decide)).after holds_goes (by decide)).after holds_goes (by decide)

theorem heldFor_turnout (hd : ((r.turnouts ++ r.flank).map Prod.fst).Nodup)
    (hx : ∀ x ∈ r.turnouts ++ r.flank, x.1 < e.u.tdu.turnouts.length) (k : Nat) :
    (e.heldFor v n r).u.turnout k = (e.u.turnout k).heldFor n k r := by
  let a := e.setHolders v (r.path ++ r.overlap.toList) (.route n)
  have ha : a.u.tdu = e.u.tdu := tdu_of_keepsBut (setHolders_route_goes v _ n e).keeps
  have hlen : a.u.tdu.turnouts.length = e.u.tdu.turnouts.length := by rw [ha]
  rw [List.map_append, List.nodup_append] at hd
  obtain ⟨hpath, hflank, -⟩ := hd
  refine (holds_turnout hflank (fun x hm => ?_) k).trans ?_
  · exact lt_of_lt_of_eq (hx x (List.mem_append_right _ hm)) (holds_length.trans hlen).symm
  · rw [show (r.turnouts.foldl (fun e x => e.holdPath n x.1) a).u.turnout k = _ from
      holds_turnout hpath (fun x hm => hlen.symm ▸ hx x (List.mem_append_left _ hm)) k, turnout_of_tdu ha k]
    unfold Turnout.heldFor
    by_cases hp : k ∈ r.turnouts.map Prod.fst <;> by_cases hf : k ∈ r.flank.map Prod.fst <;> simp [hp, hf]

theorem heldFor_holder (hs : e.u.sound) (hb : ∀ i ∈ r.path ++ r.overlap.toList, i < 48) (i : Nat) :
    ((e.heldFor v n r).u.block i).holder
      = if i ∈ r.path ++ r.overlap.toList then .route n else (e.u.block i).holder := by
  rw [← setHolders_route_holder (v := v) (n := n) hs hb]
  have hg : Ev.Goes [.turnouts] (e.setHolders v (r.path ++ r.overlap.toList) (.route n)) (e.heldFor v n r) :=
    holds_goes.trans holds_goes
  exact holder_of_agree (hg.keeps .holders (by decide)) i

theorem heldFor_keepsDrives (h : e.DrivesKept v true none) : (e.heldFor v n r).DrivesKept v true none :=
  ((h.frame (setHolders_goes ..)).foldl _ fun _ h _ _ => holdPath_keepsDrives h).foldl _ fun _ h _ _ => holdFlank_keepsDrives h

/-! ## Holds and throws of a route (R59) -/

theorem allProven_iff : u.allProven r = true ↔ ∀ x ∈ r.turnouts ++ r.flank, (u.turnout x.1).state = .at x.2 := by
  rw [Units.allProven, List.all_eq_true]
  exact forall₂_congr fun x _ => provenIn_iff

theorem Ev.ThrownTo.not_at {p : Pos} (h : Ev.ThrownTo m t p e b) : (b.u.turnout t).state ≠ .at p := by
  obtain ⟨hs, -⟩ | ⟨hs, -⟩ := h.waits
  all_goals
    rw [hs]
    cases p <;> exact nofun

/-- R59 steps 1 to 3: from `e` to `b` route `n` took its blocks and its holds, and threw what was not proven. -/
structure Ev.TakenFor (v : Env) (m n : Nat) (r : RouteCfg) (e b : Ev) : Prop where
  goes     : Ev.Goes [.holders, .turnouts, .throws, .cdu, .counters, .slots, .transmitter] e b
  holder   : ∀ i, (b.u.block i).holder = if i ∈ r.path ++ r.overlap.toList then .route n else (e.u.block i).holder
  rests    : ∀ y ∈ r.turnouts ++ r.flank, (e.u.turnout y.1).state = .at y.2 →
    b.u.turnout y.1 = (e.u.turnout y.1).heldFor n y.1 r
  thrown   : ∀ y ∈ r.turnouts ++ r.flank, (e.u.turnout y.1).state ≠ .at y.2 →
    Ev.ThrownTo m y.1 y.2 (e.heldFor v n r) b
  others   : ∀ k, k ∉ (r.turnouts ++ r.flank).map Prod.fst → (e.u.turnout k).state ≠ .queued →
    b.u.turnout k = e.u.turnout k
  ordinary : b.u.lnk.ordinary.length ≤ e.u.lnk.ordinary.length + (r.turnouts ++ r.flank).length
  urgent   : b.u.lnk.urgent = e.u.lnk.urgent
  still    : e.u.allProven r = true → b = e.heldFor v n r

theorem Ev.TakenFor.allProven (h : Ev.TakenFor v m n r e b) : b.u.allProven r = e.u.allProven r := by
  rw [Bool.eq_iff_iff, allProven_iff, allProven_iff]
  refine forall₂_congr fun y hy => ⟨fun hb => ?_, fun he => ?_⟩
  · by_contra he
    exact (h.thrown y hy he).not_at hb
  · rw [h.rests y hy he]
    exact he

theorem takeHolds_takenFor (hk : e.DrivesKept v true none) (hs : e.u.sound) (hn : v.sys.number = some m)
    (hd : ((r.turnouts ++ r.flank).map Prod.fst).Nodup) (hb : ∀ i ∈ r.path ++ r.overlap.toList, i < 48)
    (hx : ∀ x ∈ r.turnouts ++ r.flank, e.Throwable v x)
    (hl : e.u.lnk.ordinary.length + (r.turnouts ++ r.flank).length ≤ 16) :
    Ev.TakenFor v m n r e (e.takeHolds v n r) := by
  have hheld := heldFor_turnout (v := v) (n := n) hd fun x hm => hk.lt (hx x hm).lt
  have hlink : Part.agree e.u (e.heldFor v n r).u .transmitter := heldFor_goes.keeps .transmitter (by decide)
  obtain ⟨hurgent, hordinary, -⟩ := hlink
  have hthrow (x) (hm : x ∈ r.turnouts ++ r.flank) : (e.heldFor v n r).Throwable v x := by
    refine ⟨(hx x hm).lt, by rw [hheld]; exact (hx x hm).sound, fun hat => ?_⟩
    rw [hheld] at hat
    obtain ⟨c, hc, hp⟩ := (hx x hm).unproven hat
    exact ⟨c, hc, by rw [proven_congr (u := e.u) (by rw [hheld]; rfl) (by rw [hheld]; rfl) (by rw [hheld]; rfl)]; exact hp⟩
  have h := throws_thrownAll (heldFor_keepsDrives (r := r) (n := n) hk) hn hd hthrow (by rw [hordinary]; exact hl)
  rw [takeHolds_eq]
  have hstate (k : Nat) : ((e.heldFor v n r).u.turnout k).state = (e.u.turnout k).state := by rw [hheld]; rfl
  refine ⟨(heldFor_goes.mono (by decide)).trans (h.goes.mono (by decide)), fun i => ?_, fun y hy hat => ?_, fun y hy hat =>
    h.each y hy (by rw [hstate]; exact hat), fun k hm hq => ?_, ?_, h.urgent.trans hurgent, fun hall => ?_⟩
  · rw [holder_of_agree (h.goes.keeps .holders (by decide)), heldFor_holder hs hb]
  · have hmay := h.others y.1 fun z hz hzy => by
      rw [List.inj_on_of_nodup_map hd hz hy hzy, hstate]
      exact hat
    rw [hmay.turnout (by rw [hstate, hat]; cases y.2 <;> exact nofun), hheld]
  · have hmay := h.others k fun z hz hzk => absurd (hzk ▸ List.mem_map_of_mem hz) hm
    rw [List.map_append, List.mem_append, not_or] at hm
    rw [hmay.turnout (by rw [hstate]; exact hq), hheld, Turnout.heldFor, if_neg hm.1, if_neg hm.2]
  · rw [← hordinary]
    exact h.ordinary
  · exact throws_proven fun x hm => by
      rw [hstate]
      exact allProven_iff.1 hall x hm

end

end Sys2Proof.Machine


/-! What follows when a route has taken its blocks and turnouts: its reports, its signal, its state, its claim (R59, R61, R73, R80,
R97). -/

namespace Sys2Proof.Machine

set_option Elab.async false

section
variable {v : Env} {e b : Ev} {u u' : Units} {n m i : Nat} {r : RouteCfg} {d : ReportTo} {o : RouteOutcome} {st : RouteState}

/-! ## Records of routes, claims and signals -/

theorem getD_modify {α : Type} (l : List α) (n k : Nat) (f : α → α) (x : α) :
    (l.modify n f).getD k x = if k = n ∧ n < l.length then f (l.getD n x) else l.getD k x := by
  simp only [List.getD_eq_getElem?_getD, List.getElem?_modify]
  by_cases hk : n = k
  · subst hk
    by_cases hl : n < l.length <;> simp [hl]
  · simp [hk, Ne.symm hk]

theorem setRoute_route (f : Route → Route) (k : Nat) (e : Ev) : (e.setRoute n f).u.route k
    = if k = n ∧ n < e.u.ilk.routes.length then f (e.u.route n) else e.u.route k := getD_modify ..

theorem setClaim_claim (f : Claim → Claim) (k : Nat) (e : Ev) : (e.setClaim n f).u.claim k
    = if k = n ∧ n < e.u.clu.claims.length then f (e.u.claim n) else e.u.claim k := getD_modify ..

theorem setSignal_signal (f : Signal → Signal) (k : Nat) (e : Ev) : (e.setSignal n f).u.signal k
    = if k = n ∧ n < e.u.ase.signals.length then f (e.u.signal n) else e.u.signal k := getD_modify ..

theorem route_of_agree (h : Part.agree u u' .routes) (k : Nat) : u'.route k = u.route k := by
  have hi : u'.ilk.routes = u.ilk.routes := h
  rw [Units.route, hi, Units.route]

theorem claim_of_agree (h : Part.agree u u' .claims) (k : Nat) : u'.claim k = u.claim k := by
  have hi : u'.clu.claims = u.clu.claims := h
  rw [Units.claim, hi, Units.claim]

theorem kept_of_agree (h : Part.agree u u' .control) (k : Nat) : (u'.signal k).kept = (u.signal k).kept := by
  have hmap (w : Units) : (w.signal k).kept = (w.ase.signals.map Signal.kept).getD k Signal.initial.kept :=
    (List.getD_map ..).symm
  rw [hmap, hmap, h]

theorem evaluated_of_agree (h : Part.agree u u' .control) (k : Nat) : (u'.signal k).route = (u.signal k).route :=
  congrArg Prod.fst (kept_of_agree h k)

/-! ## Frames sent (R190) -/

theorem send_ordinary {k : FrameKind} {x : Nat} {l : List Byte} (hn : v.sys.number = some m) (hk : k.urgent = false)
    (hq : e.u.lnk.ordinary.length < 16) :
    e.send v x k l = e.link fun q => { q with ordinary := q.ordinary ++ [⟨x, m, k, l⟩] } := by
  simp [Ev.send, hn, Ev.link, Link.add, hk, Link.addOrdinary, hq]

theorem send_urgent_carries {k : FrameKind} {x : Nat} {l : List Byte} (hn : v.sys.number = some m) (hk : k.urgent = true)
    (hq : e.u.lnk.urgent.length < 4) : (e.send v x k l).u.lnk.carries ⟨x, m, k, l⟩ := by
  simp [Ev.send, hn, Ev.link, Link.add, hk, Link.addUrgent, hq, Link.carries]

theorem report_carries (hn : v.sys.number = some m) (hq : e.u.lnk.ordinary.length < 16) :
    (e.report v d n o).u.lnk.carries ⟨d.dest v, m, .routeReport, routeReportPayload n o 0 .none 0⟩ := by
  rw [Ev.report, send_ordinary hn rfl hq]
  exact .inl (by simp [Ev.link])

theorem report_queues (hn : v.sys.number = some m) (hq : e.u.lnk.ordinary.length < 16) :
    (e.report v d n o).u.lnk.ordinary.length = e.u.lnk.ordinary.length + 1
      ∧ (e.report v d n o).u.lnk.urgent = e.u.lnk.urgent := by
  rw [Ev.report, send_ordinary hn rfl hq]
  simp [Ev.link]

/-! ## The evaluated route of a signal (R97, R103) -/

theorem approachControl_evaluated (k : Nat) : ((e.approachControl v i).u.signal k).route = (e.u.signal k).route := by
  have hset (x : Control) : ((e.setSignal i fun g => { g with control := x }).u.signal k).route = (e.u.signal k).route := by
    rw [setSignal_signal]
    split
    next h => rw [h.1]
    · rfl
  have hstep (x : Control) : ((if x = (e.u.signal i).control then e else
      if (e.u.signal i).control = .released then (e.setSignal i fun g => { g with control := x }).reevaluate i
      else e.setSignal i fun g => { g with control := x } : Ev).u.signal k).route = (e.u.signal k).route := by
    split
    · rfl
    · split <;> exact hset x
  exact hstep _

theorem setRouteState_evaluated (k : Nat) : ((e.setRouteState v n r st).u.signal k).route = (e.u.signal k).route :=
  (evaluated_of_agree ((routeReachesTable_goes r _).keeps .control (by decide)) k).trans
    ((evaluated_of_agree (u := ((e.setRoute n fun x => { x with state := st }).approachControl v r.entry).u)
      ((reevaluate_goes r.entry _).keeps .control (by decide)) k).trans (approachControl_evaluated k))

theorem setEvaluated_evaluated {x : Option Nat} (hi : i < e.u.ase.signals.length) :
    ((e.setEvaluated i x).u.signal i).route = x := by
  have h : ((e.setEvaluated i x).u.signal i) = _ := setSignal_signal (fun g => { g with route := x, control := .stopped }) i e
  rw [h, if_pos ⟨rfl, hi⟩]

/-! ## The state of a route (R54, R61) -/

theorem setRouteState_route (hn : n < e.u.ilk.routes.length) (k : Nat) : (e.setRouteState v n r st).u.route k
    = if k = n then { e.u.route n with state := st } else e.u.route k := by
  have hr : Ev.Goes [.control] (e.setRoute n fun x => { x with state := st }) (e.setRouteState v n r st) :=
    (routeStateChanged_goes v r.entry _).after (routeReachesTable_goes r _) (by decide)
  rw [route_of_agree (hr.keeps .routes (by decide)), setRoute_route]
  simp [hn]

/-- R61, R73: a route that no request of the list waits for goes to SET and tells its report destination. -/
theorem routeSet_of_detached (ha : (e.u.route n).attached = none) (hd : (e.u.route n).reportTo = some d) :
    e.routeSet v n r = (e.setRouteState v n r .set).report v d n .set := by
  unfold Ev.routeSet
  simp only [ha, hd]

/-- R59: what an accepted route does when it has its blocks and turnouts. -/
def Ev.proceed (v : Env) (n : Nat) (r : RouteCfg) (e : Ev) : Ev := match r.foreign with
  | some p => (e.setRouteState v n r .claiming).openClaim v n r p .awaiting
  | none => e.routeThrowing v n r

/-- R61, R80: from `e` to `b` route `n` went on: CLAIMING, its claim opened, or THROWING, or SET and told so. -/
structure Ev.Proceeds (v : Env) (m n : Nat) (r : RouteCfg) (d : ReportTo) (e b : Ev) : Prop where
  goes      : Ev.Goes [.routes, .claims, .control, .counters, .slots, .transmitter] e b
  route     : ∀ k, b.u.route k = if k = n then { e.u.route n with
    state := if r.foreign.isSome then .claiming else if e.u.allProven r then .set else .throwing } else e.u.route k
  evaluated : ∀ k, (b.u.signal k).route = (e.u.signal k).route
  unclaimed : r.foreign = none → b.u.clu.claims = e.u.clu.claims
  told      : r.foreign = none → e.u.allProven r = true → e.u.lnk.ordinary.length < 16 →
    b.u.lnk.carries ⟨d.dest v, m, .routeReport, routeReportPayload n .set 0 .none 0⟩
  claimed   : ∀ p, r.foreign = some p → b.u.claim n = { e.u.claim n with
      status := .awaiting, awaited := some (claimTag n (e.u.claim n).counter), counter := ((e.u.claim n).counter + 1) % 4
      answer := some 0, wait := none }
    ∧ (e.u.lnk.urgent.length < 4 → b.u.lnk.carries
        ⟨p.owner, m, .claimRequest, claimRequestPayload (claimTag n (e.u.claim n).counter) r.dir p.blocks⟩)

theorem routes_of_sound (h : u.sound) : u.ilk.routes.length = 64 := by
  obtain ⟨-, -, -, -, -, hl, -⟩ := h.1
  exact hl

theorem claims_of_sound (h : u.sound) : u.clu.claims.length = 64 := by
  obtain ⟨-, -, -, -, -, -, hl, -⟩ := h.1
  exact hl

/-- R60, R61: a route without a foreign part goes to THROWING, and on to SET if all its turnouts are proven. -/
theorem routeThrowing_proceeds (hs : e.u.sound) (hnum : v.sys.number = some m) (hn : n < 64)
    (ha : (e.u.route n).attached = none) (hd : (e.u.route n).reportTo = some d) (hf : r.foreign = none) :
    Ev.Proceeds v m n r d e (e.routeThrowing v n r) := by
  let a := e.setRouteState v n r .throwing
  have hga : Ev.Goes [.routes, .control] e a := setRouteState_goes v n r .throwing e
  have hra (k : Nat) : a.u.route k = if k = n then { e.u.route n with state := .throwing } else e.u.route k :=
    setRouteState_route ((routes_of_sound hs).symm ▸ hn) k
  have hproven : a.u.allProven r = e.u.allProven r := by
    simp only [Units.allProven, Units.provenIn, turnout_of_tdu (tdu_of_keepsBut hga.keeps)]
  have hthrowing : e.routeThrowing v n r = if e.u.allProven r then a.routeSet v n r else a := by
    rw [← hproven]
    rfl
  rw [hthrowing]
  by_cases hp : e.u.allProven r = true
  · rw [if_pos hp, routeSet_of_detached (d := d) (by rw [hra, if_pos rfl]; exact ha) (by rw [hra, if_pos rfl]; exact hd)]
    let z := a.setRouteState v n r .set
    have hgz : Ev.Goes [.routes, .control] e z := hga.trans (setRouteState_goes v n r .set a)
    have hreport : Ev.Goes [.counters, .slots, .transmitter] z (z.report v d n .set) := report_goes v d n .set z
    have hgoes := (hgz.mono (ps := [.routes, .claims, .control, .counters, .slots, .transmitter])
      (by decide)).after hreport (by decide)
    refine ⟨hgoes, fun k => ?_, fun k => ?_, fun _ => ?_, fun _ _ hq => ?_, fun p hp => nomatch hf.symm.trans hp⟩
    · rw [route_of_agree (hreport.keeps .routes (by decide)),
        setRouteState_route ((routes_of_sound (hga.sound hs)).symm ▸ hn), hra, hra, if_pos rfl]
      simp only [hf, hp, Option.isSome_none, Bool.false_eq_true, if_false, if_true]
      split <;> rfl
    · rw [evaluated_of_agree (hreport.keeps .control (by decide)), setRouteState_evaluated, setRouteState_evaluated]
    · exact (hreport.keeps .claims (by decide)).trans (hgz.keeps .claims (by decide))
    · obtain ⟨-, ho, -⟩ : Part.agree e.u z.u .transmitter := hgz.keeps .transmitter (by decide)
      exact report_carries hnum (ho.symm ▸ hq)
  · rw [if_neg hp]
    refine ⟨hga.mono (by decide), fun k => ?_, fun k => setRouteState_evaluated k, fun _ => hga.keeps .claims (by decide),
      fun _ h => absurd h hp, fun p hp => nomatch hf.symm.trans hp⟩
    rw [hra, if_neg hp, hf]
    rfl

/-- R79, R80: a route with a foreign part goes to CLAIMING, and asks the owner. -/
theorem claiming_proceeds {p : ForeignPart} (hs : e.u.sound) (hnum : v.sys.number = some m) (hn : n < 64)
    (hf : r.foreign = some p) :
    Ev.Proceeds v m n r d e ((e.setRouteState v n r .claiming).openClaim v n r p .awaiting) := by
  let a := e.setRouteState v n r .claiming
  have hga : Ev.Goes [.routes, .control] e a := setRouteState_goes v n r .claiming e
  have hopen : Ev.Goes [.claims, .counters, .slots, .transmitter] a (a.openClaim v n r p .awaiting) :=
    openClaim_goes v n r p .awaiting a
  have hclaim : a.u.claim n = e.u.claim n := claim_of_agree (hga.keeps .claims (by decide)) n
  refine ⟨(hga.mono (by decide)).after hopen (by decide), fun k => ?_, fun k => ?_, fun h => (nomatch hf.symm.trans h),
    fun h => (nomatch hf.symm.trans h), fun p' hp' => ?_⟩
  · rw [route_of_agree (hopen.keeps .routes (by decide)), setRouteState_route ((routes_of_sound hs).symm ▸ hn), hf]
    rfl
  · rw [evaluated_of_agree (hopen.keeps .control (by decide)), setRouteState_evaluated]
  · obtain rfl : p = p' := Option.some.inj (hf.symm.trans hp')
    let z := a.setClaim n fun c => { c with
      status := .awaiting, awaited := some (claimTag n (a.u.claim n).counter), counter := (c.counter + 1) % 4
      answer := some 0, wait := none }
    have hz : a.openClaim v n r p .awaiting
        = z.send v p.owner .claimRequest (claimRequestPayload (claimTag n (a.u.claim n).counter) r.dir p.blocks) := rfl
    rw [hz, ← hclaim]
    refine ⟨?_, fun hq => ?_⟩
    · rw [claim_of_agree ((send_goes v _ _ _ z).keeps .claims (by decide)), setClaim_claim,
        if_pos ⟨rfl, (claims_of_sound (hga.sound hs)).symm ▸ hn⟩]
    · obtain ⟨hu, -⟩ : Part.agree e.u a.u .transmitter := hga.keeps .transmitter (by decide)
      exact send_urgent_carries hnum rfl (by show a.u.lnk.urgent.length < 4; rw [hu]; exact hq)

theorem proceed_proceeds (hs : e.u.sound) (hnum : v.sys.number = some m) (hn : n < 64)
    (ha : (e.u.route n).attached = none) (hd : (e.u.route n).reportTo = some d) :
    Ev.Proceeds v m n r d e (e.proceed v n r) := by
  unfold Ev.proceed
  split
  next p hf => exact claiming_proceeds hs hnum hn hf
  next hf => exact routeThrowing_proceeds hs hnum hn ha hd hf

end

end Sys2Proof.Machine


/-! ROUTE REQUEST accepted (O27). -/

namespace Sys2Proof.Machine

set_option Elab.async false

section
variable {v : Env} {e a b : Ev} {u : Units} {n m : Nat} {r : RouteCfg} {d : ReportTo}

/-! ## The checks that pass (R56 to R58) -/

/-- R56 to R58: blocks, turnouts and turntable are as the acceptance of route record `r` needs them. -/
structure Units.Admits (c : Config) (r : RouteCfg) (u : Units) : Prop where
  blocks   : ∀ b ∈ r.path ++ r.overlap.toList, b < 48 ∧ (u.block b).holder = .free
    ∧ (u.block b).occupied = false ∧ u.inPossession b = false
  turnouts : ∀ y ∈ r.turnouts ++ r.flank, (u.turnout y.1).state ≠ .failed ∧ (u.turnout y.1).pathHolder = none
    ∧ ((u.turnout y.1).flankCount = 0 ∨ (u.turnout y.1).commanded = y.2)
    ∧ ((u.turnout y.1).state ≠ .at y.2 → ∀ g, c.turnout y.1 = some g → u.proven g.feedback y.1 ≠ some y.2)
  flank    : ∀ y ∈ r.flank, (u.turnout y.1).flankCount < 4 ∧ ((u.turnout y.1).state ≠ .at y.2 →
    ∀ g, c.turnout y.1 = some g → (u.block g.owning).occupied = false)
  table    : ∀ c, r.turntable = some c → u.ttc.phase = .aligned ∧ u.ttc.alignedAt = some c

theorem Units.Admits.blockTest (h : u.Admits v.cfg r) {i : Nat} (hi : i ∈ r.path ++ r.overlap.toList) :
    Machine.blockTest u i = none := by
  obtain ⟨-, hh, ho, hp⟩ := h.blocks i hi
  simp [Machine.blockTest, hh, ho, hp]

theorem Units.Admits.pathTurnoutTest (h : u.Admits v.cfg r) {y : Nat × Pos} (hy : y ∈ r.turnouts) :
    Machine.pathTurnoutTest u y.1 y.2 = none := by
  obtain ⟨hs, hp, hc, -⟩ := h.turnouts y (List.mem_append_left _ hy)
  have hnot : ¬ (0 < (u.turnout y.1).flankCount ∧ (u.turnout y.1).commanded ≠ y.2) := fun ⟨h0, hne⟩ =>
    hc.elim (fun h => absurd h0 (by omega)) hne
  simp only [Machine.pathTurnoutTest, hs, hp, Option.isSome_none, Bool.false_eq_true, false_or, hnot, if_false]

theorem Units.Admits.flankTurnoutTest (h : u.Admits v.cfg r) {y : Nat × Pos} (hy : y ∈ r.flank) :
    Machine.flankTurnoutTest v u y.1 y.2 = none := by
  obtain ⟨hs, hp, hc, -⟩ := h.turnouts y (List.mem_append_right _ hy)
  obtain ⟨h4, ho⟩ := h.flank y hy
  have hnot : ¬ ((0 < (u.turnout y.1).flankCount ∧ (u.turnout y.1).commanded ≠ y.2) ∨ 4 ≤ (u.turnout y.1).flankCount) := by
    rintro (⟨h0, hne⟩ | h)
    · exact hc.elim (fun h => absurd h0 (by omega)) hne
    · omega
  have hclear : ¬ (u.provenIn y.1 y.2 = false
      ∧ (v.cfg.turnout y.1).any (fun c => (u.block c.owning).occupied) = true) := by
    rintro ⟨hunproven, hocc⟩
    obtain ⟨g, hg, hocc⟩ := (Option.any_eq_true ..).1 hocc
    have hat : (u.turnout y.1).state ≠ .at y.2 := fun hat => by simp [provenIn_iff.2 hat] at hunproven
    exact absurd hocc (by simp [ho hat g hg])
  simp only [Machine.flankTurnoutTest, hs, hp, Option.isSome_none, Bool.false_eq_true, hnot, hclear, if_false]

theorem Units.Admits.trackChecks (h : u.Admits v.cfg r) : Machine.trackChecks v u r = none := by
  have hb : ((r.path ++ r.overlap.toList).findSome? fun b => (Machine.blockTest u b).map fun c => (c, Item.block b)) = none :=
    List.findSome?_eq_none_iff.2 fun i hi => by rw [h.blockTest hi]; rfl
  have hp : (r.turnouts.findSome? fun x => (Machine.pathTurnoutTest u x.1 x.2).map fun c => (c, Item.turnout x.1)) = none :=
    List.findSome?_eq_none_iff.2 fun y hy => by rw [h.pathTurnoutTest hy]; rfl
  have hf : (r.flank.findSome? fun x => (Machine.flankTurnoutTest v u x.1 x.2).map fun c => (c, Item.turnout x.1)) = none :=
    List.findSome?_eq_none_iff.2 fun y hy => by rw [h.flankTurnoutTest hy]; rfl
  have ht : tableTest u r.turntable = none := by
    unfold tableTest
    split
    next c hc =>
      obtain ⟨hphase, hat⟩ := h.table c hc
      exact if_pos (by simp [tableReady, hphase, hat])
    · rfl
  rw [Machine.trackChecks, hb, hp, hf, ht]
  rfl

theorem acceptance_of_admits (h : u.Admits v.cfg r) (hr : v.running = true) (hn : n < 64) (hc : v.cfg.route n = some r)
    (hi : (u.route n).state = .idle) : acceptance v u n = .ok r := by
  simp [acceptance, hr, Nat.not_le.2 hn, hc, hi, h.trackChecks]

theorem Units.Admits.throwable (h : e.u.Admits v.cfg r) (hl : Lawful v.cfg) (hc : v.cfg.route n = some r) {y : Nat × Pos}
    (hy : y ∈ r.turnouts ++ r.flank) : e.Throwable v y := by
  obtain ⟨hs, -, -, hp⟩ := h.turnouts y hy
  obtain ⟨hlt, hcfg⟩ := hl.turnouts n r hc y hy
  obtain ⟨g, hg⟩ := Option.isSome_iff_exists.1 hcfg
  exact ⟨hlt, hs, fun hat => ⟨g, hg, hp hat g hg⟩⟩

/-! ## What is done in turn (R59) -/

/-- R59: the record of route `n` has its report destination; no request of the list waits for it. -/
def Ev.entered (n : Nat) (r : RouteCfg) (d : ReportTo) (e : Ev) : Ev := e.setRoute n fun x => { x with
  reportTo := some d, attached := none, overlapHeld := r.overlap.isSome
  progress := r.path.map fun _ => .notEntered }

/-- R59, R73, R97: the acceptance is reported, and the signal has the route, which goes on. -/
def Ev.concluded (v : Env) (n : Nat) (r : RouteCfg) (d : ReportTo) (e : Ev) : Ev :=
  ((e.report v d n .accepted).setEvaluated r.entry (some n)).proceed v n r

theorem accept_eq (v : Env) (n : Nat) (r : RouteCfg) (d : ReportTo) (e : Ev) :
    e.accept v n r d none = ((e.entered n r d).takeHolds v n r).concluded v n r d := rfl

/-- R59, R61, R73, R80, R97: from `e` to `b` route `n`, which has its blocks and turnouts, was reported accepted, given to its
signal, and went on. -/
structure Ev.Concludes (v : Env) (m n : Nat) (r : RouteCfg) (d : ReportTo) (e b : Ev) : Prop where
  goes      : Ev.Goes [.routes, .claims, .control, .counters, .slots, .transmitter] e b
  route     : ∀ k, b.u.route k = if k = n then { e.u.route n with
    state := if r.foreign.isSome then .claiming else if e.u.allProven r then .set else .throwing } else e.u.route k
  evaluated : r.entry < 24 → (b.u.signal r.entry).route = some n
  accepted  : b.u.lnk.carries ⟨d.dest v, m, .routeReport, routeReportPayload n .accepted 0 .none 0⟩
  unclaimed : r.foreign = none → b.u.clu.claims = e.u.clu.claims
  told      : r.foreign = none → e.u.allProven r = true → e.u.lnk.ordinary.length < 15 →
    b.u.lnk.carries ⟨d.dest v, m, .routeReport, routeReportPayload n .set 0 .none 0⟩
  claimed   : ∀ p, r.foreign = some p → b.u.claim n = { e.u.claim n with
      status := .awaiting, awaited := some (claimTag n (e.u.claim n).counter), counter := ((e.u.claim n).counter + 1) % 4
      answer := some 0, wait := none }
    ∧ (e.u.lnk.urgent.length < 4 → b.u.lnk.carries
        ⟨p.owner, m, .claimRequest, claimRequestPayload (claimTag n (e.u.claim n).counter) r.dir p.blocks⟩)

theorem signals_of_sound (h : u.sound) : u.ase.signals.length = 24 := by
  obtain ⟨-, -, -, -, -, -, -, hl, -⟩ := h.1
  exact hl

theorem concluded_concludes (hs : e.u.sound) (hnum : v.sys.number = some m) (hn : n < 64)
    (ha : (e.u.route n).attached = none) (hd : (e.u.route n).reportTo = some d) (hq : e.u.lnk.ordinary.length < 16) :
    Ev.Concludes v m n r d e (e.concluded v n r d) := by
  let x := e.report v d n .accepted
  let y := x.setEvaluated r.entry (some n)
  have hx : Ev.Goes [.counters, .slots, .transmitter] e x := report_goes v d n .accepted e
  have hy : Ev.Goes [.control] x y := setEvaluated_goes r.entry (some n) x
  have hxy : Ev.Goes [.control, .counters, .slots, .transmitter] e y := (hx.mono (by decide)).after hy (by decide)
  have hroute := route_of_agree (hxy.keeps .routes (by decide))
  obtain ⟨hxo, hxu⟩ : x.u.lnk.ordinary.length = e.u.lnk.ordinary.length + 1 ∧ x.u.lnk.urgent = e.u.lnk.urgent :=
    report_queues hnum hq
  obtain ⟨hyu, hyo, -⟩ : Part.agree x.u y.u .transmitter := hy.keeps .transmitter (by decide)
  have hproven : y.u.allProven r = e.u.allProven r := by
    simp only [Units.allProven, Units.provenIn, turnout_of_tdu (tdu_of_keepsBut hxy.keeps)]
  have hclaims : y.u.clu.claims = e.u.clu.claims := hxy.keeps .claims (by decide)
  have hclaim : y.u.claim n = e.u.claim n := claim_of_agree hclaims n
  have h := proceed_proceeds (r := r) (d := d) (hxy.sound hs) hnum hn (by rw [hroute]; exact ha) (by rw [hroute]; exact hd)
  refine ⟨(hxy.mono (by decide)).trans (h.goes.mono (by decide)), fun k => ?_, fun hentry => ?_, ?_, fun hf =>
    (h.unclaimed hf).trans hclaims, fun hf hp hl => ?_, fun p hf => ?_⟩
  · have hk := h.route k
    rw [hroute, hroute, hproven] at hk
    exact hk
  · exact (h.evaluated r.entry).trans (setEvaluated_evaluated ((signals_of_sound (hx.sound hs)).symm ▸ hentry))
  · exact h.goes.onward.frames _ (hy.onward.frames _ (report_carries hnum hq))
  · exact h.told hf (hproven.trans hp) (by rw [hyo]; omega)
  · have hc := h.claimed p hf
    rw [hclaim, hyu, hxu] at hc
    exact hc

end

section
variable {s : State} {x : RxFrame} {rest : List RxFrame} {m n : Nat} {r : RouteCfg}

/-! ## The command (R55, R59) -/

/-- R59: what an accepted ROUTE REQUEST has made of the units when the route has its blocks and turnouts, and when it went on. -/
theorem routeRequest_steps (hx : s.receives .routeRequest x rest) (hnum : s.sys.number = some m) (hs : s.sound)
    (hw : s.units.nothingWaits) (hpay : payloadAt x.frame.payload 0 = n) (hn : n < 64) (hc : s.sys.cfg.route n = some r)
    (hi : s.units.route n = .idleOf r) (hd : ((r.turnouts ++ r.flank).map Prod.fst).Nodup)
    (ha : s.units.Admits s.sys.cfg r) (hl : s.units.lnk.ordinary.length + (r.turnouts ++ r.flank).length < 16) :
    ∃ b w t, exec .routeRequest s = .next t
      ∧ Ev.TakenFor s.env m n r ((Ev.start (s.taken rest)).entered n r (.station x.frame.src)) b
      ∧ Ev.Concludes s.env m n r (.station x.frame.src) b w
      ∧ Goes Part.ofCalm w.u t.units
      ∧ (s.taken rest).keepsBut ([.holders, .turnouts, .throws, .cdu, .routes, .claims, .control] ++ Part.ofCalm) t.units := by
  obtain ⟨hrun, hrx, hkind⟩ := hx
  let s' : State := { s with units := s.taken rest }
  let e : Ev := (Ev.start s'.units).entered n r (.station x.frame.src)
  let g : Env → Ev → Ev := fun v e => e.routeRequest v x.frame
  have hs' : s'.sound := taken_sound hs hrx
  have hrunning : s.env.running = true := running_env hrun
  have hmirrors : s'.env.mirrors = true := by
    show s.sys.mirrors = true
    simp [Sys.mirrors, hrun]
  have hgo : Ev.Goes [.routes] (.start s'.units) e := setRoute_goes ..
  have hkept : e.DrivesKept s.env true none := by
    have h : s'.drivesKept := drivesKept_iff.2 ⟨turnouts_length hs'.units, hs'.drives, hs'.config⟩
    rw [State.drivesKept, show s'.env.running = true from hrunning] at h
    exact h.frame hgo
  have hthrow (y) (hy : y ∈ r.turnouts ++ r.flank) : e.Throwable s.env y :=
    Units.Admits.throwable (e := e) (v := s.env) ⟨ha.blocks, ha.turnouts, ha.flank, ha.table⟩ hs.config hc hy
  have htaken : Ev.TakenFor s.env m n r e (e.takeHolds s.env n r) :=
    takeHolds_takenFor hkept (hgo.sound hs'.units) hnum hd (fun i hi => (ha.blocks i hi).1) hthrow (Nat.le_of_lt hl)
  have hroute : (e.takeHolds s.env n r).u.route n = { s.units.route n with
      reportTo := some (.station x.frame.src), attached := none, overlapHeld := r.overlap.isSome
      progress := r.path.map fun _ => .notEntered } := by
    rw [route_of_agree (htaken.goes.keeps .routes (by decide)), show e.u.route n = _ from setRoute_route _ n _,
      if_pos ⟨rfl, (routes_of_sound hs'.units).symm ▸ hn⟩]
    rfl
  have hconc := concluded_concludes (v := s.env) (r := r) (d := .station x.frame.src)
    (htaken.goes.sound (hgo.sound hs'.units)) hnum hn (by rw [hroute]) (by rw [hroute])
    (lt_of_le_of_lt htaken.ordinary hl)
  have hgen : g s'.env (.start s'.units) = (e.takeHolds s.env n r).concluded s.env n r (.station x.frame.src) := by
    have hok : acceptance s.env (s.taken rest) n = .ok r :=
      acceptance_of_admits (u := s.taken rest) ⟨ha.blocks, ha.turnouts, ha.flank, ha.table⟩ hrunning hn hc
        (congrArg Route.state hi)
    show (Ev.start (s.taken rest)).routeRequest s.env x.frame = _
    unfold Ev.routeRequest
    simp only [hpay, show (Ev.start (s.taken rest)).u = s.taken rest from rfl, hok]
    exact accept_eq ..
  have hgoes : Ev.Goes ([.holders, .turnouts, .throws, .cdu, .routes, .claims, .control] ++ Part.ofCalm) (.start s'.units)
      ((e.takeHolds s.env n r).concluded s.env n r (.station x.frame.src)) :=
    ((hgo.mono (by decide)).trans (htaken.goes.mono (by decide))).trans (hconc.goes.mono (by decide))
  obtain ⟨hcalm, hkeep⟩ := event_of_nothingWaits (s := s') (g := g) hw (congrArg Ev.u hgen) hgoes
  refine ⟨_, _, _, congrArg Host.Outcome.next ?_, htaken, hconc, hcalm, hkeep⟩
  exact (takeFrame_of_takes hrx (by simp [ofKind, hkind]) _).trans
    (whenStarted_of_mirrors (s := s') hmirrors g)

end

theorem at_not_waiting (p : Pos) : ¬ (TurnoutState.at p = .queued ∨ TurnoutState.at p = .moving) := by
  cases p <;> decide

/-- Settles O27: the requests that pass are followed through holds, throws, reports and the route's next state. -/
theorem routeRequestAccepted : Obligations.RouteRequestAccepted := by
  intro s x rest m r hx hnum hs hw n needs hl hn hc hi hd hblocks hturnouts hflank htable
  obtain ⟨b, w, t, ht, htaken, hconc, hcalm, hkeep⟩ :=
    routeRequest_steps hx hnum hs hw rfl hn hc hi hd ⟨hblocks, hturnouts, hflank, htable⟩ hl
  let e := (Ev.start (s.taken rest)).entered n r (.station x.frame.src)
  have hlen : ∀ y ∈ needs, y.1 < e.u.tdu.turnouts.length := fun y hy =>
    lt_of_lt_of_eq (hs.config.turnouts n r hc y hy).1 (turnouts_length hs.units).symm
  have hheld (k : Nat) : (e.heldFor s.env n r).u.turnout k = (s.units.turnout k).heldFor n k r := heldFor_turnout hd hlen k
  have htdu : t.units.tdu = b.u.tdu := (tdu_of_keepsBut hcalm.keeps).trans (tdu_of_keepsBut hconc.goes.keeps)
  have hrec := turnout_of_tdu htdu
  have hbt : Goes ([.routes, .claims, .control] ++ Part.ofCalm) b.u t.units :=
    (Goes.mono hconc.goes (by decide)).after hcalm (by decide)
  have hroute (k : Nat) : t.units.route k = _ :=
    (route_of_agree (hcalm.keeps .routes (by decide)) k).trans (hconc.route k)
  have hb_route (k : Nat) : b.u.route k = e.u.route k := route_of_agree (htaken.goes.keeps .routes (by decide)) k
  have he_route (k : Nat) : e.u.route k = _ := setRoute_route _ k _
  have hclaims : b.u.clu.claims = s.units.clu.claims := htaken.goes.keeps .claims (by decide)
  have hclaim : b.u.claim n = s.units.claim n := claim_of_agree hclaims n
  have hproven : b.u.allProven r = s.units.allProven r := htaken.allProven
  have holds (y) (hy : y ∈ needs) : (t.units.turnout y.1).pathHolder = ((s.units.turnout y.1).heldFor n y.1 r).pathHolder
      ∧ (t.units.turnout y.1).flankCount = ((s.units.turnout y.1).heldFor n y.1 r).flankCount := by
    rw [hrec, ← hheld]
    by_cases hat : (s.units.turnout y.1).state = .at y.2
    · rw [htaken.rests y hy hat, hheld]
      exact ⟨rfl, rfl⟩
    · exact ⟨(htaken.thrown y hy hat).pathHolder, (htaken.thrown y hy hat).flankCount⟩
  have hdisjoint : ∀ y ∈ r.turnouts, ∀ z ∈ r.flank, y.1 ≠ z.1 := fun y hy z hz => by
    rw [List.map_append, List.nodup_append] at hd
    obtain ⟨-, -, hne⟩ := hd
    exact hne _ (List.mem_map_of_mem hy) _ (List.mem_map_of_mem hz)
  refine ⟨t, ht, ?_, fun k hk => ?_, fun i => ?_, fun y hy => ?_, fun y hy => ?_, fun y hy hat => ?_, fun y hy hat => ?_,
    fun k hk hq => ?_, fun hentry => ?_, ?_, fun hf hp hq => ?_, fun hf => ?_, fun p hf => ?_, hkeep, fun hp => ?_⟩
  · rw [hroute, if_pos rfl, hb_route, he_route, if_pos ⟨rfl, (routes_of_sound hs.units).symm ▸ hn⟩, hproven,
      show (Ev.start (s.taken rest)).u.route n = .idleOf r from hi]
    rfl
  · rw [hroute, if_neg hk, hb_route, he_route, if_neg fun h => hk h.1]
    rfl
  · rw [holder_of_agree (hbt.keeps .holders (by decide)), htaken.holder]
    rfl
  · obtain ⟨hpath, hcount⟩ := holds y (List.mem_append_left _ hy)
    rw [hpath, hcount]
    refine ⟨if_pos (List.mem_map_of_mem hy), if_neg fun hm => ?_⟩
    obtain ⟨z, hz, hzy⟩ := List.mem_map.1 hm
    exact hdisjoint y hy z hz hzy.symm
  · obtain ⟨hpath, hcount⟩ := holds y (List.mem_append_right _ hy)
    obtain ⟨-, hnone, -⟩ := hturnouts y (List.mem_append_right _ hy)
    rw [hpath, hcount]
    refine ⟨(if_neg fun hm => ?_).trans hnone, if_pos (List.mem_map_of_mem hy)⟩
    obtain ⟨z, hz, hzy⟩ := List.mem_map.1 hm
    exact hdisjoint z hz y hy hzy
  · rw [hrec, htaken.rests y hy hat]
    refine ⟨hat, Option.not_isSome_iff_eq_none.1 fun hreq => ?_⟩
    have hwait := hs.drives.waits y.1 hreq
    rw [hat] at hwait
    exact at_not_waiting y.2 hwait
  · have h := htaken.thrown y hy hat
    have hmoves := h.moves
    have hwaits := h.waits
    have htold := h.told
    rw [hheld] at hmoves hwaits htold
    rw [hrec, htdu]
    exact ⟨h.commanded, h.requester, fun q hq => hbt.onward.frames _ (htold q hq), hmoves, hwaits⟩
  · rw [hrec]
    exact htaken.others k hk hq
  · exact (evaluated_of_agree (hcalm.keeps .control (by decide)) _).trans (hconc.evaluated hentry)
  · exact hcalm.onward.frames _ hconc.accepted
  · refine hcalm.onward.frames _ (hconc.told hf (hproven.trans hp) ?_)
    obtain ⟨-, ho, -⟩ : Part.agree e.u (e.heldFor s.env n r).u .transmitter := heldFor_goes.keeps .transmitter (by decide)
    rw [htaken.still hp, ho]
    exact hq
  · have hct : t.units.clu.claims = w.u.clu.claims := hcalm.keeps .claims (by decide)
    rw [hct, hconc.unclaimed hf, hclaims]
  · obtain ⟨hrecord, hasked⟩ := hconc.claimed p hf
    rw [hclaim] at hrecord hasked
    rw [claim_of_agree (hcalm.keeps .claims (by decide)), hrecord]
    exact ⟨rfl, fun hu => hcalm.onward.frames _ (hasked (by rw [htaken.urgent]; exact hu))⟩
  · have hstill : Ev.Goes [.holders, .turnouts] e b := by
      rw [htaken.still hp]
      exact heldFor_goes
    have hentered : Ev.Goes [.routes] (.start (s.taken rest)) e := setRoute_goes ..
    have hkeeps : Goes ([.holders, .turnouts, .routes, .claims, .control] ++ Part.ofCalm) (s.taken rest) t.units :=
      (Goes.mono hentered (by decide)).trans ((Goes.mono hstill (by decide)).trans (hbt.mono (by decide)))
    exact fun p hp => hkeeps.keeps p (by revert p; decide)

end Sys2Proof.Machine


/-! PROOFS. Laws L6 and L7 (O6): what the turntable, the routes that need it and the claims say of one another, as an
invariant within an event, and the operations that leave the turntable as it is. -/

namespace Sys2Proof.Machine

set_option Elab.async false

/-! ## The invariant within an event -/

/-- `State.tableSound` within an event, with the sizes and the configuration that it rests on. `r` says whether the
station may have a route locked or a move under way: it is false before RUNNING, and while the entry into RUNNING reads
the inputs. -/
structure Ev.TableSafe (v : Env) (r : Bool) (e : Ev) : Prop where
  sound  : e.u.sound
  config : Lawful v.cfg
  deck   : ∀ g, v.cfg.turntable = some g → e.u.deckSound g
  locked : ∀ n c q, v.cfg.route n = some c → c.turntable = some q → (e.u.route n).state ≠ .idle →
    e.u.ttc.phase = .aligned ∧ e.u.ttc.alignedAt = some q
  claims : ∀ n c, v.cfg.route n = some c → c.foreign.isSome = true → (e.u.claim n).status = .awaiting →
    (e.u.route n).state = .claiming
  before : r = false → (∀ n, (e.u.route n).state = .idle ∧ (e.u.claim n).status = .none)
    ∧ e.u.ttc.phase.inMove = false ∧ e.u.ttc.homed = false ∧ e.u.ttc.unlockTime = none ∧ e.u.ttc.lockTime = none

section
variable {v : Env} {r : Bool} {ps : List Part} {b e : Ev} {u u' : Units} {g : TurntableCfg} {n k : Nat} {c : RouteCfg}

/-- R58: route `n`, whose record is `c`, is locked already, or the bridge is ready for it. -/
def Ev.MayLock (r : Bool) (n : Nat) (c : RouteCfg) (e : Ev) : Prop :=
  (e.u.route n).state ≠ .idle ∨
    r = true ∧ ∀ q, c.turntable = some q → e.u.ttc.phase = .aligned ∧ e.u.ttc.alignedAt = some q

/-- Laws L6 and L7 for the deck read the turntable, and of the blocks only that the deck is held for it. -/
theorem deckSound_congr (h : u.deckSound g) (ht : u'.ttc = u.ttc)
    (hh : (u.block g.deck).holder = .turntable → (u'.block g.deck).holder = .turntable) : u'.deckSound g := by
  obtain ⟨hheld, hrest⟩ := h
  constructor <;> rw [ht]
  exacts [fun hm => hh (hheld hm), by assumption, by assumption, by assumption, by assumption, by assumption,
    by assumption, by assumption, by assumption]

namespace Ev.TableSafe

/-- An operation that leaves the turntable as it is, and with it the blocks that are held for it, under which no route
becomes locked, no claim is opened, and no route with an open claim leaves CLAIMING. -/
theorem step (h : e.TableSafe v r) (g : Ev.Goes ps e b)
    (hh : ∀ k, (e.u.block k).holder = .turntable → (b.u.block k).holder = .turntable)
    (hr : ∀ n c, v.cfg.route n = some c → (e.u.route n).state = .idle → (b.u.route n).state = .idle ∨
      r = true ∧ ∀ q, c.turntable = some q → e.u.ttc.phase = .aligned ∧ e.u.ttc.alignedAt = some q)
    (hi : r = false → ∀ n, (e.u.route n).state = .idle → (b.u.route n).state = .idle)
    (hc : ∀ n c, v.cfg.route n = some c → c.foreign.isSome = true → (b.u.claim n).status = .awaiting →
      (b.u.route n).state = .claiming)
    (hn : r = false → ∀ n, (e.u.claim n).status = .none → (b.u.claim n).status = .none)
    (hp : .table ∉ ps := by decide) : b.TableSafe v r := by
  have ht : b.u.ttc = e.u.ttc := g.keeps .table hp
  refine ⟨g.sound h.sound, h.config, fun q hq => deckSound_congr (h.deck q hq) ht (hh _), fun n c q hk hq hs => ?_,
    hc, fun hf => ?_⟩
  · rw [ht]
    by_cases hidle : (e.u.route n).state = .idle
    · obtain hb | ⟨-, hready⟩ := hr n c hk hidle
      · exact absurd hb hs
      · exact hready q hq
    · exact h.locked n c q hk hq hidle
  · obtain ⟨hrest, htable⟩ := h.before hf
    exact ⟨fun n => ⟨hi hf n (hrest n).1, hn hf n (hrest n).2⟩, by rw [ht]; exact htable⟩

/-- An operation that touches none of the parts that the invariant speaks of. -/
theorem frame (h : e.TableSafe v r) (g : Ev.Goes ps e b)
    (hp : ∀ p ∈ [Part.holders, .routes, .claims, .table], p ∉ ps := by decide) : b.TableSafe v r := by
  have hr := route_of_agree (g.keeps .routes (hp _ (by decide)))
  have hc := claim_of_agree (g.keeps .claims (hp _ (by decide)))
  have hh := holder_of_agree (g.keeps .holders (hp _ (by decide)))
  refine h.step g (fun k hk => (hh k).trans hk) (fun n _ _ hi => .inl (by rw [hr]; exact hi)) (fun _ n hi => by rw [hr]; exact hi)
    (fun n c hk hf ha => ?_) (fun _ n hi => by rw [hc]; exact hi) (hp _ (by decide))
  rw [hc] at ha
  rw [hr]
  exact h.claims n c hk hf ha

/-- An operation that changes holders alone, of blocks that are not held for the turntable. -/
theorem holders (h : e.TableSafe v r) (g : Ev.Goes ps e b)
    (hh : ∀ k, (e.u.block k).holder = .turntable → (b.u.block k).holder = .turntable)
    (hp : ∀ p ∈ [Part.routes, .claims, .table], p ∉ ps := by decide) : b.TableSafe v r := by
  have hr := route_of_agree (g.keeps .routes (hp _ (by decide)))
  have hc := claim_of_agree (g.keeps .claims (hp _ (by decide)))
  refine h.step g hh (fun n _ _ hi => .inl (by rw [hr]; exact hi)) (fun _ n hi => by rw [hr]; exact hi)
    (fun n c hk hf ha => ?_) (fun _ n hi => by rw [hc]; exact hi) (hp _ (by decide))
  rw [hc] at ha
  rw [hr]
  exact h.claims n c hk hf ha

/-- An operation that changes claims alone, and opens none that awaits a grant. -/
theorem claimed (h : e.TableSafe v r) (g : Ev.Goes ps e b)
    (hc : ∀ n, (b.u.claim n).status = .awaiting → (e.u.claim n).status = .awaiting)
    (hn : r = false → ∀ n, (e.u.claim n).status = .none → (b.u.claim n).status = .none)
    (hp : ∀ p ∈ [Part.holders, .routes, .table], p ∉ ps := by decide) : b.TableSafe v r := by
  have hr := route_of_agree (g.keeps .routes (hp _ (by decide)))
  have hh := holder_of_agree (g.keeps .holders (hp _ (by decide)))
  refine h.step g (fun k hk => (hh k).trans hk) (fun n _ _ hi => .inl (by rw [hr]; exact hi)) (fun _ n hi => by rw [hr]; exact hi)
    (fun n c hk hf ha => ?_) hn (hp _ (by decide))
  rw [hr]
  exact h.claims n c hk hf (hc n ha)

/-- An operation that changes fields of routes other than their states. -/
theorem routes (h : e.TableSafe v r) (g : Ev.Goes ps e b) (hr : ∀ n, (b.u.route n).state = (e.u.route n).state)
    (hp : ∀ p ∈ [Part.holders, .claims, .table], p ∉ ps := by decide) : b.TableSafe v r := by
  have hc := claim_of_agree (g.keeps .claims (hp _ (by decide)))
  have hh := holder_of_agree (g.keeps .holders (hp _ (by decide)))
  refine h.step g (fun k hk => (hh k).trans hk) (fun n _ _ hi => .inl (by rw [hr]; exact hi)) (fun _ n hi => by rw [hr]; exact hi)
    (fun n c hk hf ha => ?_) (fun _ n hi => by rw [hc]; exact hi) (hp _ (by decide))
  rw [hc] at ha
  rw [hr]
  exact h.claims n c hk hf ha

/-- An operation that gives route `n` another state, and leaves the others'. It has no claim that awaits a grant, or
the state is CLAIMING; and it was locked already, or the bridge is ready for it. -/
theorem routeAt (h : e.TableSafe v r) (g : Ev.Goes ps e b) (hk : v.cfg.route n = some c)
    (hr : ∀ k ≠ n, (b.u.route k).state = (e.u.route k).state)
    (hi : (b.u.route n).state = .idle ∨ e.MayLock r n c)
    (hc : (b.u.route n).state = .claiming ∨ (c.foreign.isSome = true → (e.u.claim n).status ≠ .awaiting))
    (hp : ∀ p ∈ [Part.holders, .claims, .table], p ∉ ps := by decide) : b.TableSafe v r := by
  have hcl := claim_of_agree (g.keeps .claims (hp _ (by decide)))
  have hh := holder_of_agree (g.keeps .holders (hp _ (by decide)))
  refine h.step g (fun k hk => (hh k).trans hk) (fun k d hd hidle => ?_) (fun hf k hidle => ?_) (fun k d hd hf ha => ?_)
    (fun _ k hidle => by rw [hcl]; exact hidle) (hp _ (by decide))
  · by_cases hkn : k = n
    · subst hkn
      cases hk.symm.trans hd
      obtain hb | hl | hq := hi
      exacts [.inl hb, absurd hidle hl, .inr hq]
    · exact .inl ((hr k hkn).trans hidle)
  · by_cases hkn : k = n
    · subst hkn
      obtain hb | hl | ⟨hq, -⟩ := hi
      exacts [hb, absurd hidle hl, absurd (hf.symm.trans hq) (by decide)]
    · exact (hr k hkn).trans hidle
  · rw [hcl] at ha
    by_cases hkn : k = n
    · subst hkn
      cases hk.symm.trans hd
      exact hc.resolve_right fun hno => hno hf ha
    · exact (hr k hkn).trans (h.claims k d hd hf ha)

/-- A fold of an operation over a list. -/
theorem foldl {α : Type} {f : Ev → α → Ev} (h : e.TableSafe v r) (l : List α)
    (hf : ∀ e, e.TableSafe v r → ∀ x ∈ l, (f e x).TableSafe v r) : (l.foldl f e).TableSafe v r :=
  List.foldlRecOn l f h hf

theorem ite {p : Prop} [Decidable p] (hb : b.TableSafe v r) (he : e.TableSafe v r) :
    (if p then b else e).TableSafe v r := by
  split
  · exact hb
  · exact he

/-- A route with an open claim, or in use, is locked. -/
theorem status_ne_awaiting (h : e.TableSafe v r) (hk : v.cfg.route n = some c) (hs : (e.u.route n).state ≠ .claiming) :
    c.foreign.isSome = true → (e.u.claim n).status ≠ .awaiting := fun hf ha => hs (h.claims n c hk hf ha)

end Ev.TableSafe

/-! ## Records of routes, claims and holders -/

theorem setRoute_tableSafe {f : Route → Route} (h : e.TableSafe v r) (hf : ∀ x, (f x).state = x.state) :
    (e.setRoute n f).TableSafe v r := by
  refine h.routes (setRoute_goes n f e) fun k => ?_
  rw [setRoute_route]
  split
  next hk => exact hk.1 ▸ hf _
  · rfl

theorem carryAtHolder_blocks (x : Block) (h : Holder) (e : Ev) : (e.carryAtHolder x h).u.bkt = e.u.bkt := by
  unfold Ev.carryAtHolder
  split
  · split <;> rfl
  · split <;> rfl

/-- R9: what a change of holder makes of the block records. -/
theorem setHolder_bkt (v : Env) (n : Nat) (x : Holder) (e : Ev) : (e.setHolder v n x).u.bkt
    = if (e.u.block n).holder = x then e.u.bkt else (e.setBlock n fun y => { y with holder := x }).u.bkt := by
  unfold Ev.setHolder
  dsimp only
  split
  · rfl
  · split
    · rw [show ∀ d : Ev, d.callExamine.u = d.u from fun _ => rfl, carryAtHolder_blocks]
      split <;> split <;> rfl
    · split <;> split <;> rfl

theorem setHolder_holder (v : Env) (n : Nat) (x : Holder) (e : Ev) (k : Nat) : ((e.setHolder v n x).u.block k).holder
    = if k = n ∧ n < e.u.bkt.blocks.length then x else (e.u.block k).holder := by
  rw [Units.block, setHolder_bkt]
  split
  next hx =>
    split
    next hk => rw [hk.1, ← hx]; rfl
    · rfl
  · rw [show ∀ u : Units, u.bkt.blocks.getD k .initial = u.block k from fun _ => rfl, setBlock_block]
    split <;> rfl

/-- R9: a block that is not held for the turntable changes its holder. -/
theorem setHolder_tableSafe {x : Holder} (h : e.TableSafe v r) (hn : (e.u.block n).holder ≠ .turntable) :
    (e.setHolder v n x).TableSafe v r :=
  h.holders (setHolder_goes v n x e) fun k hk => by
    rw [setHolder_holder, if_neg fun hkn : k = n ∧ _ => hn (hkn.1 ▸ hk)]
    exact hk

end
end Sys2Proof.Machine
/-! Laws L6 and L7 (O6): the operations on routes, claims and turnouts, which leave the turntable as it is. -/

namespace Sys2Proof.Machine

set_option Elab.async false

section
variable {v : Env} {r : Bool} {e : Ev} {n t : Nat} {c : RouteCfg}

/-! ## Frames sent -/

theorem send_tableSafe {d : Nat} {k : FrameKind} {p : List Byte} (h : e.TableSafe v r) : (e.send v d k p).TableSafe v r :=
  h.frame (send_goes ..)

theorem report_tableSafe {d : ReportTo} {o : RouteOutcome} (h : e.TableSafe v r) : (e.report v d n o).TableSafe v r :=
  h.frame (report_goes ..)

theorem reportCode_tableSafe {d : ReportTo} {o : RouteOutcome} {k : Code} {i : Item} {m : Nat} (h : e.TableSafe v r) :
    (e.reportCode v d n o k i m).TableSafe v r := h.frame (reportCode_goes ..)

theorem releaseClaim_tableSafe {m k : Nat} (h : e.TableSafe v r) : (e.releaseClaim v m k).TableSafe v r :=
  h.frame (releaseClaim_goes ..)

/-! ## The state of a route (R54, R61) -/

/-- R54: a route takes a state: it is locked already, or the bridge is ready for it (R58); it is CLAIMING, or awaits no
grant. -/
theorem setRouteState_tableSafe {st : RouteState} (h : e.TableSafe v r) (hk : v.cfg.route n = some c)
    (hi : e.MayLock r n c)
    (hc : st = .claiming ∨ (c.foreign.isSome = true → (e.u.claim n).status ≠ .awaiting)) :
    (e.setRouteState v n c st).TableSafe v r := by
  by_cases hn : n < e.u.ilk.routes.length
  · refine h.routeAt (setRouteState_goes v n c st e) hk (fun k hkn => ?_) (.inr hi) ?_
    · rw [setRouteState_route hn, if_neg hkn]
    · rw [setRouteState_route hn, if_pos rfl]
      exact hc
  · have hsame : e.setRoute n (fun x => { x with state := st }) = e := by
      simp [Ev.setRoute, List.modify_eq_self (Nat.le_of_not_lt hn)]
    unfold Ev.setRouteState
    rw [hsame]
    exact (h.frame (routeStateChanged_goes v c.entry e)).frame (routeReachesTable_goes c _)

/-- A locked route that takes a state other than IDLE stays locked. -/
theorem setRouteState_mayLock {st : RouteState} (hi : e.MayLock r n c) (hst : st ≠ .idle) :
    (e.setRouteState v n c st).MayLock r n c := by
  obtain hs | ⟨hr, hq⟩ := hi
  · have hn : n < e.u.ilk.routes.length := by
      by_contra hn
      rw [Units.route, List.getD_eq_default _ _ (Nat.le_of_not_lt hn)] at hs
      exact hs rfl
    rw [Ev.MayLock, setRouteState_route hn, if_pos rfl]
    exact .inl hst
  · have ht : (e.setRouteState v n c st).u.ttc = e.u.ttc := (setRouteState_goes v n c st e).keeps .table (by decide)
    exact .inr ⟨hr, by rw [ht]; exact hq⟩

theorem routeIdle_tableSafe (h : e.TableSafe v r) (hk : v.cfg.route n = some c)
    (hc : c.foreign.isSome = true → (e.u.claim n).status ≠ .awaiting) : (e.routeIdle n c).TableSafe v r := by
  have hg : Ev.Goes [.control] (e.setRoute n fun _ => .idleOf c) (e.routeIdle n c) :=
    (endEvaluated_goes c.entry n _).after (routeReachesTable_goes c _) (by decide)
  have hr (k : Nat) : (e.routeIdle n c).u.route k
      = if k = n ∧ n < e.u.ilk.routes.length then .idleOf c else e.u.route k := by
    rw [route_of_agree (hg.keeps .routes (by decide)), setRoute_route]
  refine h.routeAt (routeIdle_goes n c e) hk (fun k hkn => ?_) (.inl ?_) (.inr hc)
  · rw [hr, if_neg fun hx => hkn hx.1]
  · rw [hr]
    split
    · rfl
    next hn =>
      have hlen : ¬ n < e.u.ilk.routes.length := fun hx => hn ⟨rfl, hx⟩
      rw [Units.route, List.getD_eq_default _ _ (Nat.le_of_not_lt hlen)]
      rfl

theorem routeSet_tableSafe (h : e.TableSafe v r) (hk : v.cfg.route n = some c)
    (hi : e.MayLock r n c) (hc : c.foreign.isSome = true → (e.u.claim n).status ≠ .awaiting) :
    (e.routeSet v n c).TableSafe v r := by
  have hs := setRouteState_tableSafe (st := .set) h hk hi (.inr hc)
  unfold Ev.routeSet
  dsimp only
  split <;> split
  · exact (setRoute_tableSafe (f := fun x => { x with attached := none }) (report_tableSafe hs) fun _ => rfl).frame (tellSet_goes ..)
  · exact (setRoute_tableSafe (f := fun x => { x with attached := none }) hs fun _ => rfl).frame (tellSet_goes ..)
  · exact report_tableSafe hs
  · exact hs

theorem routeThrowing_tableSafe (h : e.TableSafe v r) (hk : v.cfg.route n = some c)
    (hi : e.MayLock r n c)
    (hc : c.foreign.isSome = true → (e.u.claim n).status ≠ .awaiting) : (e.routeThrowing v n c).TableSafe v r := by
  have hs := setRouteState_tableSafe (st := .throwing) h hk hi (.inr hc)
  have hclaim : (e.setRouteState v n c .throwing).u.claim n = e.u.claim n :=
    claim_of_agree ((setRouteState_goes v n c .throwing e).keeps .claims (by decide)) n
  refine .ite (routeSet_tableSafe hs hk (setRouteState_mayLock hi nofun) ?_) hs
  rw [hclaim]
  exact hc

/-! ## The claim of a route (R78 to R85) -/

theorem setClaimState_claim {f : Claim → Claim} (k : Nat) : (e.setClaimState v n f).u.claim k
    = if k = n ∧ n < e.u.clu.claims.length then f (e.u.claim n) else e.u.claim k := by
  rw [← setClaim_claim]
  unfold Ev.setClaimState
  dsimp only
  split
  · exact claim_of_agree ((claimReaches_goes ..).keeps .claims (by decide)) k
  · rfl

theorem setClaimState_tableSafe {f : Claim → Claim} (h : e.TableSafe v r) (hf : ∀ x, (f x).status ≠ .awaiting)
    (hn : r = false → ∀ x, x.status = .none → (f x).status = .none) : (e.setClaimState v n f).TableSafe v r := by
  refine h.claimed (setClaimState_goes v n f e) (fun k hk => ?_) (fun hr k hk => ?_)
  · rw [setClaimState_claim] at hk
    split at hk
    · exact absurd hk (hf _)
    · exact hk
  · rw [setClaimState_claim]
    split
    next hkn => exact hn hr _ (hkn.1 ▸ hk)
    · exact hk

theorem setClaimState_closed_tableSafe (h : e.TableSafe v r) : (e.setClaimState v n Claim.closed).TableSafe v r :=
  setClaimState_tableSafe h (fun _ => nofun) fun _ _ _ => rfl

theorem setClaimState_closed_status : ((e.setClaimState v n Claim.closed).u.claim n).status = .none := by
  rw [setClaimState_claim]
  split
  · rfl
  next hn =>
    have hlen : ¬ n < e.u.clu.claims.length := fun hx => hn ⟨rfl, hx⟩
    rw [Units.claim, List.getD_eq_default _ _ (Nat.le_of_not_lt hlen)]
    rfl

theorem closeClaim_tableSafe (h : e.TableSafe v r) : (e.closeClaim v n c).TableSafe v r := by
  unfold Ev.closeClaim
  split
  · exact h
  · refine setClaimState_closed_tableSafe ?_
    split
    · exact releaseClaim_tableSafe h
    · exact releaseClaim_tableSafe h
    · exact releaseClaim_tableSafe h
    · exact h

theorem closeClaim_status (hc : c.foreign.isSome = true) : ((e.closeClaim v n c).u.claim n).status = .none := by
  unfold Ev.closeClaim
  split
  next hf => simp [hf] at hc
  · exact setClaimState_closed_status

/-- R85: a route whose claim is closed returns to IDLE. -/
theorem closedIdle_tableSafe (h : e.TableSafe v r) (hk : v.cfg.route n = some c) :
    ((e.closeClaim v n c).routeIdle n c).TableSafe v r :=
  routeIdle_tableSafe (closeClaim_tableSafe h) hk fun hf ha => nomatch (closeClaim_status hf).symm.trans ha

/-! ## Releasing holds, failure (R62, R65 to R67, R77) -/

theorem freeOfRoute_tableSafe {b : Nat} (h : e.TableSafe v r) : (e.freeOfRoute v n b).TableSafe v r := by
  unfold Ev.freeOfRoute
  split
  next hh => exact setHolder_tableSafe h (by rw [hh]; nofun)
  · exact h

theorem releasePathBlock_tableSafe {i : Nat} (h : e.TableSafe v r) : (e.releasePathBlock v n c i).TableSafe v r := by
  have hs := setRoute_tableSafe (n := n) (f := fun x => { x with progress := x.progress.set i .released }) h fun _ => rfl
  unfold Ev.releasePathBlock
  dsimp only
  split
  · exact (freeOfRoute_tableSafe hs).frame (dropPathIn_goes ..)
  · exact hs

theorem releaseOverlap_tableSafe (h : e.TableSafe v r) : (e.releaseOverlap v n c).TableSafe v r := by
  have hs := setRoute_tableSafe (n := n) (f := fun x => { x with overlapHeld := false }) h fun _ => rfl
  unfold Ev.releaseOverlap
  refine .ite ?_ h
  dsimp only
  split
  · exact (freeOfRoute_tableSafe hs).frame (dropPathIn_goes ..)
  · exact hs

theorem releaseHolds_tableSafe (h : e.TableSafe v r) : (e.releaseHolds v n c).TableSafe v r :=
  (h.foldl _ fun _ h _ _ => freeOfRoute_tableSafe h).frame (releaseTurnouts_goes ..)

theorem routeFail_tableSafe {k : Code} {i : Item} {m : Nat} (h : e.TableSafe v r) (hk : v.cfg.route n = some c) :
    (e.routeFail v n c k i m).TableSafe v r := by
  have hs := closedIdle_tableSafe ((releaseHolds_tableSafe (n := n) (c := c) h).frame (withdrawThrows_goes v c _)) hk
  unfold Ev.routeFail
  refine Ev.TableSafe.frame ?_ (callScan_goes _)
  split <;> split
  · exact (reportCode_tableSafe hs).frame (rejoin_goes ..)
  · exact hs.frame (rejoin_goes ..)
  · exact reportCode_tableSafe hs
  · exact hs

/-! ## The reaction to turnouts (R50, R60, R61) -/

theorem routeMeetsTurnout_tableSafe (h : e.TableSafe v r) : (e.routeMeetsTurnout v t n).TableSafe v r := by
  unfold Ev.routeMeetsTurnout
  split
  · exact h
  next c hk =>
    refine .ite ?_ h
    split
    · exact .ite (routeFail_tableSafe h hk) h
    next hs =>
      exact .ite (routeFail_tableSafe h hk) (.ite (routeSet_tableSafe h hk (.inl (by rw [hs]; nofun))
        (h.status_ne_awaiting hk (by rw [hs]; nofun))) h)
    all_goals exact h

theorem turnoutChanged_tableSafe (h : e.TableSafe v r) : (e.turnoutChanged v t).TableSafe v r :=
  (h.frame (turnoutReaches_goes v t e)).foldl _ fun _ h _ _ => routeMeetsTurnout_tableSafe h

/-! ## Drives that end, throws, feedback (R36 to R49) -/

theorem enterFailed_tableSafe {k : FaultKind} (h : e.TableSafe v r) : (e.enterFailed v t k).TableSafe v r := by
  have hs := turnoutChanged_tableSafe (t := t) ((((((h.frame (setThrows_goes (fun q => q.filter fun x => x.1 != t) e)).frame
    (setTurnout_goes t (fun x => { x with state := .failed, drive := none }) _)).frame
    (settleRequester_goes v t .throwFailed _)).frame (link_addFailedTurnout_goes t _)).frame
    (writeFault_goes k (.turnout t) _)).frame (raiseTurnout_goes v t _))
  exact .ite (hs.frame (arbiter_goes ..)) hs

theorem proofWhileQueued_tableSafe (h : e.TableSafe v r) : (e.proofWhileQueued v t).TableSafe v r := by
  unfold Ev.proofWhileQueued
  dsimp only
  split
  · exact .ite (turnoutChanged_tableSafe (((h.frame (setThrows_goes ..)).frame (setTurnout_goes ..)).frame
      (settleRequester_goes ..))) h
  · exact h

theorem joinQueue_tableSafe (h : e.TableSafe v r) : (e.joinQueue v t).TableSafe v r :=
  (proofWhileQueued_tableSafe (((h.frame (setThrows_goes ..)).frame (setTurnout_goes ..)).frame
    (turnoutReaches_goes ..))).frame (arbiter_goes ..)

theorem driveEnd_tableSafe {p : Bool} (h : e.TableSafe v r) : (e.driveEnd v t p).TableSafe v r := by
  unfold Ev.driveEnd
  dsimp only
  split
  · exact h
  next d _ =>
    have hs := turnoutChanged_tableSafe (t := t) ((h.frame (setTurnout_goes t (fun x => { x with
      state := .at d.pos, drive := none }) e)).frame (settleRequester_goes v t .done _))
    exact .ite (joinQueue_tableSafe h) (.ite (.ite (hs.frame (arbiter_goes ..)) hs) (enterFailed_tableSafe h))

theorem throw_tableSafe {p : Pos} {s : Option Nat} (h : e.TableSafe v r) : (e.throw v t p s).TableSafe v r := by
  have hs := (h.frame (replaceRequester_goes v t s e)).frame (setTurnout_goes t (fun x => { x with commanded := p }) _)
  unfold Ev.throw
  dsimp only
  split
  · exact hs
  · exact proofWhileQueued_tableSafe (hs.frame (setThrows_goes ..))
  · exact joinQueue_tableSafe (hs.frame (callScan_goes _))
  all_goals exact joinQueue_tableSafe hs

theorem settleAt_tableSafe {p : Pos} (h : e.TableSafe v r) : (e.settleAt v t p).TableSafe v r := by
  have hs := h.frame (setTurnout_goes t (fun x => { x with state := .at p, commanded := p }) e)
  exact turnoutChanged_tableSafe (.ite (hs.frame (callScan_goes _)) hs)

theorem feedbackWhileMoving_tableSafe {p : Option Pos} (h : e.TableSafe v r) :
    (e.feedbackWhileMoving v t p).TableSafe v r := by
  unfold Ev.feedbackWhileMoving
  split
  · exact .ite (driveEnd_tableSafe h) h
  · exact .ite (driveEnd_tableSafe h) h
  · exact h
  · exact h

theorem feedbackReaction_tableSafe {p : Option Pos} (h : e.TableSafe v r) : (e.feedbackReaction v t p).TableSafe v r := by
  have rest : (if (e.u.turnout t).held then e.enterFailed v t .proofLost else match p with
      | some q => e.settleAt v t q
      | none => (e.setTurnout t fun x => { x with state := .unknown }).turnoutChanged v t).TableSafe v r := by
    refine .ite (enterFailed_tableSafe h) ?_
    split
    · exact settleAt_tableSafe h
    · exact turnoutChanged_tableSafe (h.frame (setTurnout_goes ..))
  unfold Ev.feedbackReaction
  dsimp only
  split
  · exact rest
  · exact rest
  · exact rest
  · exact proofWhileQueued_tableSafe h
  · exact feedbackWhileMoving_tableSafe h
  · split
    · exact .ite h (settleAt_tableSafe h)
    · exact h

theorem feedbackChange_tableSafe {p q : Bool} (h : e.TableSafe v r) : (e.feedbackChange v t p q).TableSafe v r := by
  unfold Ev.feedbackChange
  split
  · exact h
  · have hs := h.frame (setTurnout_goes t (fun x => { x with
      normalIn := if x.normalIn.level = p then x.normalIn else ⟨p, none⟩
      reverseIn := if x.reverseIn.level = q then x.reverseIn else ⟨q, none⟩ }) e)
    refine .ite ?_ hs
    have hp := hs.frame (setTurnout_goes t (fun x => { x with
      proven := proves ‹TurnoutCfg›.feedback p q (e.u.turnout t).proven }) _)
    exact .ite (enterFailed_tableSafe hp) (feedbackReaction_tableSafe hp)

/-! ## Timers and requests (R41, R43, R44, R48) -/

theorem judgePulse_tableSafe (h : e.TableSafe v r) : (e.judgePulse v t).TableSafe v r := by
  unfold Ev.judgePulse
  split
  · split
    · exact driveEnd_tableSafe (h.frame (setTurnout_goes ..))
    all_goals exact .ite (driveEnd_tableSafe h) (h.frame (setTurnout_goes ..))
  · exact h

theorem pulseEnd_tableSafe (h : e.TableSafe v r) : (e.pulseEnd v).TableSafe v r := by
  unfold Ev.pulseEnd
  split
  · exact judgePulse_tableSafe (h.frame (setCdu_goes ..))
  · exact h
  · exact h

theorem windowExpiry_tableSafe (h : e.TableSafe v r) : (e.windowExpiry v t).TableSafe v r := by
  unfold Ev.windowExpiry
  split
  · exact driveEnd_tableSafe h
  · exact h

theorem motorExpiry_tableSafe (h : e.TableSafe v r) : (e.motorExpiry v t).TableSafe v r := by
  unfold Ev.motorExpiry
  split
  · split
    · exact driveEnd_tableSafe (h.frame (setTurnout_goes ..))
    all_goals exact driveEnd_tableSafe h
  · exact h

theorem turnoutRequest_tableSafe {f : Frame} (h : e.TableSafe v r) : (e.turnoutRequest v f).TableSafe v r := by
  have say (t : Nat) (k : Code) : (e.answer v f.src .turnoutRequest t k).TableSafe v r := h.frame (answer_goes ..)
  unfold Ev.turnoutRequest
  refine .ite (say ..) (.ite (say ..) ?_)
  dsimp only
  split
  · exact .ite (say ..) (.ite (say ..) (.ite (say ..) (throw_tableSafe h)))
  · exact say ..

end
end Sys2Proof.Machine
/-! Laws L6 and L7 (O6): acceptance, passage and cancel of routes, claims of both sides, mirrors, reception and timetable. -/

namespace Sys2Proof.Machine

set_option Elab.async false

section
variable {v : Env} {r : Bool} {e : Ev} {u : Units} {n t : Nat} {c : RouteCfg}

/-! ## Acceptance and scan (R55 to R59, R76) -/

/-- R55 to R58: what the acceptance checks have found of a route that passes them. -/
structure Units.Accepts (v : Env) (n : Nat) (c : RouteCfg) (u : Units) : Prop where
  running : v.running = true
  number  : n < 64
  route   : v.cfg.route n = some c
  idle    : (u.route n).state = .idle
  checks  : trackChecks v u c = none

theorem acceptance_eq_ok_iff : acceptance v u n = .ok c ↔ u.Accepts v n c := by
  constructor
  · intro h
    unfold acceptance at h
    split at h
    · cases h
    next hr =>
      split at h
      · cases h
      next hn =>
        split at h
        · cases h
        next hc =>
          split at h
          · cases h
          next hi =>
            split at h
            · cases h
            next ht =>
              cases h
              exact ⟨by simpa using hr, Nat.lt_of_not_le hn, hc, Decidable.not_not.1 hi, ht⟩
  · rintro ⟨hr, hn, hc, hi, ht⟩
    simp [acceptance, hr, hn, hc, hi, ht]

theorem Units.Accepts.blocks (h : u.Accepts v n c) : ∀ b ∈ c.path ++ c.overlap.toList, blockTest u b = none := by
  have ht := h.checks
  unfold trackChecks at ht
  rw [Option.or_eq_none_iff, List.findSome?_eq_none_iff] at ht
  obtain ⟨hb, -⟩ := ht
  exact fun b hm => Option.map_eq_none_iff.1 (hb b hm)

/-- R58: the bridge is ready for a route that passes. -/
theorem Units.Accepts.ready (h : u.Accepts v n c) {q : Nat × BridgeEnd} (hq : c.turntable = some q) :
    u.ttc.phase = .aligned ∧ u.ttc.alignedAt = some q := by
  have ht := h.checks
  unfold trackChecks at ht
  simp only [Option.or_eq_none_iff] at ht
  obtain ⟨-, -, -, ht⟩ := ht
  rw [hq, tableTest] at ht
  split at ht
  next hready => simpa [tableReady] using hready
  · cases ht

/-- R56: a block that passes the block test is FREE. -/
theorem holder_of_blockTest {b : Nat} (h : blockTest u b = none) : (u.block b).holder = .free := by
  unfold blockTest at h
  split at h
  · cases h
  · cases h
  · cases h
  · cases h
  · assumption

theorem throwForRoute_tableSafe {x : Nat × Pos} (h : e.TableSafe v r) : (e.throwForRoute v x).TableSafe v r :=
  .ite h (throw_tableSafe h)

/-- R59: blocks none of which is held for the turntable go to a route. -/
theorem setHolders_tableSafe {bs : List Nat} {x : Holder} (h : e.TableSafe v r) (hx : x ≠ .turntable)
    (hb : ∀ b ∈ bs, (e.u.block b).holder ≠ .turntable) : (e.setHolders v bs x).TableSafe v r := by
  have hall := List.foldlRecOn (motive := fun e : Ev => e.TableSafe v r ∧ ∀ b ∈ bs, (e.u.block b).holder ≠ .turntable)
    bs (fun e b => e.setHolder v b x) ⟨h, hb⟩ fun e ⟨he, hb⟩ b hm => ⟨setHolder_tableSafe he (hb b hm), fun k hk => by
      rw [setHolder_holder]
      split
      · exact hx
      · exact hb k hk⟩
  exact hall.1

theorem takeHolds_tableSafe (h : e.TableSafe v r) (hb : ∀ b ∈ c.path ++ c.overlap.toList, (e.u.block b).holder = .free) :
    (e.takeHolds v n c).TableSafe v r :=
  ((((setHolders_tableSafe (x := .route n) h nofun fun b hm => by rw [hb b hm]; nofun).foldl _
    fun _ h _ _ => h.frame (holdPath_goes ..)).foldl _ fun _ h _ _ => h.frame (holdFlank_goes ..)).foldl _
    fun _ h _ _ => throwForRoute_tableSafe h)

/-- R80, R87: a claim attempt is opened, by a CLAIMING route or afresh. -/
theorem openClaim_tableSafe {p : ForeignPart} {st : ClaimStatus} (h : e.TableSafe v r) (hr : r = true)
    (hs : st = .awaiting → (e.u.route n).state = .claiming) : (e.openClaim v n c p st).TableSafe v r := by
  refine send_tableSafe ?_
  have hg := setClaim_goes n (fun x : Claim => { x with
    status := st, awaited := some (claimTag n (e.u.claim n).counter), counter := (x.counter + 1) % 4
    answer := some 0, wait := none }) e
  refine h.step hg (fun _ hk => hk) (fun _ _ _ hi => .inl hi) (fun _ _ hi => hi) (fun k d hk hf ha => ?_) (fun hx => ?_)
  · rw [setClaim_claim] at ha
    split at ha
    next hkn => exact hkn.1 ▸ hs ha
    · exact h.claims k d hk hf ha
  · exact absurd (hr.symm.trans hx) (by decide)

theorem accept_tableSafe {d : ReportTo} {q : Option Request} (h : e.TableSafe v v.running) (ha : e.u.Accepts v n c) :
    (e.accept v n c d q).TableSafe v v.running := by
  have hr := ha.running
  let a := (((e.setRoute n fun x => { x with
    reportTo := some d, attached := q, overlapHeld := c.overlap.isSome
    progress := c.path.map fun _ => .notEntered }).takeHolds v n c).report v d n .accepted).setEvaluated c.entry (some n)
  have hroute := setRoute_tableSafe (n := n) (f := fun x => { x with
    reportTo := some d, attached := q, overlapHeld := c.overlap.isSome
    progress := c.path.map fun _ => .notEntered }) h fun _ => rfl
  have hholds := takeHolds_tableSafe (n := n) (c := c) hroute fun b hb => holder_of_blockTest (ha.blocks b hb)
  have hs : a.TableSafe v v.running := (report_tableSafe hholds).frame (setEvaluated_goes ..)
  have ht : a.u.ttc = e.u.ttc := by
    have hg : Ev.Goes [.holders, .carry, .turnouts, .throws, .cdu, .routes, .waiting, .claims, .control, .entries, .buttons,
        .counters, .slots, .transmitter] e a :=
      ((((setRoute_goes ..).mono (by decide)).after (takeHolds_goes ..) (by decide)).after (report_goes ..)
        (by decide)).after (setEvaluated_goes ..) (by decide)
    exact hg.keeps .table (by decide)
  have hi : a.MayLock v.running n c := .inr ⟨hr, fun q hq => by rw [ht]; exact ha.ready hq⟩
  have hlen : n < a.u.ilk.routes.length := (routes_of_sound hs.sound).symm ▸ ha.number
  show Ev.TableSafe v v.running (match c.foreign with
    | some p => (a.setRouteState v n c .claiming).openClaim v n c p .awaiting
    | none => a.routeThrowing v n c)
  split
  · refine openClaim_tableSafe (setRouteState_tableSafe hs ha.route hi (.inl rfl)) hr fun _ => ?_
    rw [setRouteState_route hlen, if_pos rfl]
  next hf => exact routeThrowing_tableSafe hs ha.route hi fun hsome => by simp [hf] at hsome

theorem routeRequest_tableSafe {f : Frame} (h : e.TableSafe v v.running) : (e.routeRequest v f).TableSafe v v.running := by
  unfold Ev.routeRequest
  dsimp only
  split
  · exact reportCode_tableSafe h
  next ha => exact accept_tableSafe h (acceptance_eq_ok_iff.1 ha)

theorem scanList_tableSafe (h : e.TableSafe v v.running) : (e.scanList v).TableSafe v v.running := by
  refine h.foldl _ fun e h q _ => ?_
  unfold Ev.tryRequest
  split
  · split
    · exact h
    next ha => exact accept_tableSafe (h.frame (setWaiting_goes ..)) (acceptance_eq_ok_iff.1 ha)
  · exact h

/-! ## Passage (R64 to R72) -/

theorem routeEndIfDone_tableSafe (h : e.TableSafe v r) (hk : v.cfg.route n = some c) :
    (e.routeEndIfDone v n c).TableSafe v r := by
  have hs := closedIdle_tableSafe (h.frame (releaseTurnouts_goes n c e)) hk
  unfold Ev.routeEndIfDone
  refine .ite ?_ h
  dsimp only
  split
  · exact report_tableSafe hs
  · exact hs

theorem routeMeetsOccupied_tableSafe {i : Nat} (h : e.TableSafe v r) (hk : v.cfg.route n = some c) :
    (e.routeMeetsOccupied v n c i).TableSafe v r := by
  have taken (hs : (e.u.route n).state ≠ .idle) (hc : (e.u.route n).state ≠ .claiming) :
      ((e.setRoute n fun x => { x with
        approach := none, progress := enteredProgress e.u c x.progress }).setRouteState v n c .inUse).TableSafe v r := by
    refine setRouteState_tableSafe (setRoute_tableSafe h fun _ => rfl) hk (.inl ?_) (.inr (h.status_ne_awaiting hk hc))
    rw [setRoute_route]
    split
    · exact hs
    · exact hs
  unfold Ev.routeMeetsOccupied
  dsimp only
  split
  next hs => exact .ite (taken (by rw [hs]; nofun) (by rw [hs]; nofun)) h
  next hs => exact .ite (taken (by rw [hs]; nofun) (by rw [hs]; nofun)) h
  · exact .ite (setRoute_tableSafe h fun _ => rfl) h
  all_goals exact h

theorem routeMeetsClear_tableSafe {i : Nat} (h : e.TableSafe v r) (hk : v.cfg.route n = some c) :
    (e.routeMeetsClear v n c i).TableSafe v r := by
  have hp := releasePathBlock_tableSafe (n := n) (c := c) (i := i) h
  exact .ite h (.ite (.ite h (routeEndIfDone_tableSafe hp hk)) (.ite (.ite
    (routeEndIfDone_tableSafe (.ite (releaseOverlap_tableSafe hp) hp) hk) (setRoute_tableSafe h fun _ => rfl)) h))

theorem routeGivenUp_tableSafe (h : e.TableSafe v r) (hk : v.cfg.route n = some c) :
    (e.routeGivenUp v n c).TableSafe v r := closedIdle_tableSafe (releaseHolds_tableSafe h) hk

theorem approachEnd_tableSafe (h : e.TableSafe v r) (hk : v.cfg.route n = some c) :
    (e.approachEnd v n c).TableSafe v r := by
  have hs := routeGivenUp_tableSafe h hk
  unfold Ev.approachEnd
  dsimp only
  split
  · exact report_tableSafe hs
  · exact hs

theorem approachCleared_tableSafe {b : BlockRef} (h : e.TableSafe v r) : (e.approachCleared v b n).TableSafe v r := by
  unfold Ev.approachCleared
  split
  next hk => exact .ite (approachEnd_tableSafe h hk) h
  · exact h

theorem overlapCleared_tableSafe {b : Nat} (h : e.TableSafe v r) : (e.overlapCleared v b n).TableSafe v r := by
  unfold Ev.overlapCleared
  split
  next hk => exact .ite (routeEndIfDone_tableSafe (releaseOverlap_tableSafe h) hk) h
  · exact h

theorem routesOccupied_tableSafe {b : Nat} (h : e.TableSafe v r) : (e.routesOccupied v b).TableSafe v r := by
  refine h.foldl _ fun e h n _ => ?_
  split
  next hk =>
    split
    · exact routeMeetsOccupied_tableSafe h hk
    · exact h
  · exact h

theorem routesClear_tableSafe {b : Nat} (h : e.TableSafe v r) : (e.routesClear v b).TableSafe v r := by
  refine h.foldl _ fun e h n _ => approachCleared_tableSafe (overlapCleared_tableSafe ?_)
  split
  next hk =>
    split
    · exact routeMeetsClear_tableSafe h hk
    · exact h
  · exact h

theorem approachExpiry_tableSafe (h : e.TableSafe v r) : (e.approachExpiry v n).TableSafe v r := by
  unfold Ev.approachExpiry
  split
  next hk => exact .ite (approachEnd_tableSafe h hk) h
  · exact h

theorem forceRelease_tableSafe (h : e.TableSafe v r) (hk : v.cfg.route n = some c) :
    (e.forceRelease v n c).TableSafe v r := by
  have hs := (setRoute_tableSafe (n := n) (f := fun x => { x with forced := true }) h fun _ => rfl).foldl
    (f := fun e i => if (match c.path[i]? with
      | some b => !(e.u.block b).occupied
      | none => false) && (e.u.route n).progress.getD i .released != .released then e.releasePathBlock v n c i else e)
    (List.range c.path.length) fun _ h _ _ => .ite (releasePathBlock_tableSafe h) h
  unfold Ev.forceRelease
  refine routeEndIfDone_tableSafe ?_ hk
  dsimp only
  split
  · exact .ite hs (releaseOverlap_tableSafe hs)
  · exact hs

theorem cancelRoute_tableSafe {s : Nat} (h : e.TableSafe v r) (hk : v.cfg.route n = some c) :
    (e.cancelRoute v s n c).TableSafe v r := by
  have hw := closedIdle_tableSafe ((releaseHolds_tableSafe (n := n) (c := c) h).frame (withdrawThrows_goes v c _)) hk
  have withdrawn (q : Option Request) : (match q with
      | some q => Ev.tellLost v q.source.entry ((((e.releaseHolds v n c).withdrawThrows v c).closeClaim v n c).routeIdle n c)
      | none => (((e.releaseHolds v n c).withdrawThrows v c).closeClaim v n c).routeIdle n c).TableSafe v r := by
    split
    · exact hw.frame (tellLost_goes ..)
    · exact hw
  unfold Ev.cancelRoute
  dsimp only
  split
  · exact report_tableSafe h
  · exact report_tableSafe h
  · exact ((withdrawn _).frame (callScan_goes _)).frame (reportCancelled_goes ..)
  · exact ((withdrawn _).frame (callScan_goes _)).frame (reportCancelled_goes ..)
  next hs =>
    refine .ite (report_tableSafe (setRouteState_tableSafe (setRoute_tableSafe h fun _ => rfl) hk (.inl ?_)
      (.inr (h.status_ne_awaiting hk (by rw [hs]; nofun))))) ((routeGivenUp_tableSafe h hk).frame (reportCancelled_goes ..))
    rw [setRoute_route]
    split
    · rw [hs]; nofun
    · rw [hs]; nofun
  · exact .ite (report_tableSafe h) (forceRelease_tableSafe (report_tableSafe h) hk)

theorem routeCancel_tableSafe {f : Frame} (h : e.TableSafe v r) : (e.routeCancel v f).TableSafe v r := by
  unfold Ev.routeCancel
  refine .ite (reportCode_tableSafe h) (.ite (reportCode_tableSafe h) ?_)
  split
  next hk => exact cancelRoute_tableSafe h hk
  · exact reportCode_tableSafe h

/-! ## The requester's claims (R80 to R87) -/

/-- Before RUNNING no claim is open. -/
theorem Ev.TableSafe.running_of_claim (h : e.TableSafe v r) (hs : (e.u.claim n).status ≠ .none) : r = true := by
  by_contra hr
  exact hs ((h.before (by simpa using hr)).1 n).2

/-- R81: the route that awaits a tag is configured, has a foreign part, and is looked up by its number. -/
theorem awaitedRoute_route {s k : Nat} (h : awaitedRoute v u s k = some (n, c)) :
    v.cfg.route n = some c ∧ c.foreign.isSome = true := by
  unfold awaitedRoute at h
  split at h
  next d hd =>
    split at h
    next hany =>
      cases h
      refine ⟨hd, ?_⟩
      simp only [Bool.and_eq_true, Option.any_eq_true] at hany
      obtain ⟨⟨p, hp, -⟩, -⟩ := hany
      simp [hp]
    · cases h
  · cases h

theorem claimGrant_tableSafe {f : Frame} (h : e.TableSafe v r) : (e.claimGrant v f).TableSafe v r := by
  have granted {n : Nat} (hs : (e.u.claim n).status ≠ .none) (k : Nat) :
      (e.setClaimState v n (Claim.grantedUnder k)).TableSafe v r :=
    setClaimState_tableSafe h (fun _ => nofun) fun hr => absurd ((h.running_of_claim hs).symm.trans hr) (by decide)
  unfold Ev.claimGrant
  dsimp only
  split
  next n c ha =>
    obtain ⟨hk, hf⟩ := awaitedRoute_route ha
    split
    next hs =>
      refine routeThrowing_tableSafe (granted (by rw [hs]; nofun) _) hk (.inl ?_) fun _ => ?_
      · have hr := (setClaimState_goes v n (Claim.grantedUnder (payloadAt f.payload 0)) e).keeps .routes (by decide)
        rw [route_of_agree hr, h.claims n c hk hf hs]
        nofun
      · rw [setClaimState_claim]
        split
        · nofun
        next hn =>
          have hlen : ¬ n < e.u.clu.claims.length := fun hx => hn ⟨rfl, hx⟩
          rw [Units.claim, List.getD_eq_default _ _ (Nat.le_of_not_lt hlen)]
          nofun
    next hs => exact granted (by rw [hs]; nofun) _
    all_goals exact releaseClaim_tableSafe h
  · exact .ite h (releaseClaim_tableSafe h)

theorem claimLost_tableSafe (h : e.TableSafe v r) (hr : r = true) : (e.claimLost v n).TableSafe v r :=
  (setClaimState_tableSafe (f := fun c => { c.closed with status := .lost }) h (fun _ => nofun) fun hx =>
    absurd (hr.symm.trans hx) (by decide)).frame
    (link_addLostClaim_goes ..)

theorem claimRefuse_tableSafe {f : Frame} (h : e.TableSafe v r) : (e.claimRefuse v f).TableSafe v r := by
  unfold Ev.claimRefuse
  split
  next n c ha =>
    split
    · exact routeFail_tableSafe (setClaimState_closed_tableSafe h) (awaitedRoute_route ha).1
    next hs => exact claimLost_tableSafe h (h.running_of_claim (n := n) (by rw [hs]; nofun))
    all_goals exact h
  · exact h

theorem answerTimeout_tableSafe (h : e.TableSafe v r) (hr : r = true) : (e.answerTimeout v n).TableSafe v r := by
  unfold Ev.answerTimeout
  split
  · exact h
  next hk =>
    split
    · dsimp only
      split
      · exact routeFail_tableSafe (setClaimState_closed_tableSafe (releaseClaim_tableSafe h)) hk
      · exact claimLost_tableSafe (releaseClaim_tableSafe h) hr
      all_goals exact releaseClaim_tableSafe h
    · exact h

theorem ownerWaitExpiry_tableSafe (h : e.TableSafe v r) (hr : r = true) : (e.ownerWaitExpiry v n).TableSafe v r :=
  .ite (claimLost_tableSafe h hr) h

theorem ownerAnnounced_tableSafe {p : ForeignPart} (h : e.TableSafe v r) (hr : r = true) (hk : v.cfg.route n = some c) :
    (e.ownerAnnounced v n c p).TableSafe v r := by
  have waits : (e.setClaimState v n Claim.waiting).TableSafe v r :=
    setClaimState_tableSafe h (fun _ => nofun) fun hx => absurd (hr.symm.trans hx) (by decide)
  unfold Ev.ownerAnnounced
  dsimp only
  split
  · exact h
  · refine routeFail_tableSafe (setClaimState_closed_tableSafe ?_) hk
    split
    · exact releaseClaim_tableSafe h
    · exact h
  · exact .ite h waits
  all_goals exact waits

theorem announcedOwner_tableSafe {s : Nat} (h : e.TableSafe v r) (hr : r = true) :
    (e.announcedOwner v s).TableSafe v r := by
  refine h.foldl _ fun e h n _ => ?_
  split
  next hk =>
    split
    · exact .ite (ownerAnnounced_tableSafe h hr hk) h
    · exact h
  · exact h

theorem reclaim_tableSafe {s : Nat} (h : e.TableSafe v r) (hr : r = true) : (e.reclaim v s).TableSafe v r := by
  refine h.foldl _ fun e h n _ => ?_
  split
  · split
    · exact .ite (openClaim_tableSafe h hr nofun) h
    · exact h
  · exact h

/-! ## The owner's claims and arrival holds (R88 to R94) -/

theorem freeArrival_tableSafe {s : Nat} {bs : List Nat} (h : e.TableSafe v r) : (e.freeArrival v s bs).TableSafe v r := by
  refine h.foldl _ fun e h b _ => ?_
  split
  next hh => exact setHolder_tableSafe h (by rw [hh]; nofun)
  · exact h

theorem receptionLost_tableSafe (h : e.TableSafe v r) : (e.receptionLost v).TableSafe v r := by
  unfold Ev.receptionLost
  split
  · exact (freeArrival_tableSafe h).frame (reception_goes ..)
  · exact h

theorem blockListReceived_tableSafe {bs : List Byte} (h : e.TableSafe v r) : (e.blockListReceived v bs).TableSafe v r := by
  unfold Ev.blockListReceived
  refine .ite ?_ h
  refine (setHolders_tableSafe (x := .arrivalHold (payloadAt bs 1)) (receptionLost_tableSafe h) nofun fun b hb => ?_).frame
    (reception_goes ..)
  obtain ⟨-, hfree⟩ := List.mem_filter.1 hb
  simp only [Bool.and_eq_true, beq_iff_eq] at hfree
  rw [hfree.2]
  nofun

/-- R90: a block that passes the claim block test is not held for the turntable. -/
theorem holder_of_claimBlockTest {s b : Nat} (h : claimBlockTest u s b = none) : (u.block b).holder ≠ .turntable := by
  intro hh
  simp [claimBlockTest, hh] at h

theorem claimRequest_tableSafe {f : Frame} {held : List Nat} (h : e.TableSafe v r) :
    (e.claimRequest v f held).TableSafe v r := by
  unfold Ev.claimRequest
  refine .ite h ?_
  split
  · exact (freeArrival_tableSafe h).frame (claimAnswer_goes ..)
  next hc =>
    refine ((setHolders_tableSafe (x := .foreignClaim f.src (payloadAt f.payload 0)) h nofun fun b hb => ?_).frame
      (setTable_goes ..)).frame (claimAnswer_goes ..)
    unfold claimCheck at hc
    simp only at hc
    split at hc
    · cases hc
    · split at hc
      · cases hc
      · split at hc
        · cases hc
        · exact holder_of_claimBlockTest (Option.map_eq_none_iff.1 (List.findSome?_eq_none_iff.1 hc b hb))

theorem freeOfClaim_tableSafe {x : ClaimRecord} {b : Nat} (h : e.TableSafe v r) : (e.freeOfClaim v x b).TableSafe v r := by
  unfold Ev.freeOfClaim
  split
  next hh => exact setHolder_tableSafe h (by rw [hh]; nofun)
  · exact h

theorem claimsClear_tableSafe {b : Nat} (h : e.TableSafe v r) : (e.claimsClear v b).TableSafe v r :=
  (h.frame (setTable_goes ..)).foldl _ fun _ h _ _ => freeOfClaim_tableSafe h

theorem claimRelease_tableSafe {f : Frame} (h : e.TableSafe v r) : (e.claimRelease v f).TableSafe v r := by
  unfold Ev.claimRelease
  dsimp only
  split
  · exact h
  · split
    · exact h
    · exact (h.frame (setTable_goes ..)).foldl _ fun _ h _ _ => freeOfClaim_tableSafe h

theorem dropClaims_tableSafe {s : Nat} (h : e.TableSafe v r) : (e.dropClaims v s).TableSafe v r :=
  (h.frame (setTable_goes ..)).foldl _ fun _ h _ _ => h.foldl _ fun _ h _ _ => freeOfClaim_tableSafe h

theorem claimPurge_tableSafe {f : Frame} (h : e.TableSafe v r) : (e.claimPurge v f).TableSafe v r :=
  .ite (h.frame (answer_goes ..)) (.ite (h.frame (answer_goes ..)) ((dropClaims_tableSafe h).frame (answer_goes ..)))

/-! ## Occupancy (R6) -/

theorem occupied_tableSafe {b : Nat} (h : e.TableSafe v r) : (e.occupied v b).TableSafe v r :=
  ((routesOccupied_tableSafe (((h.frame (setOccupied_goes v b e)).frame (trackOccupied_goes v b _
    (setOccupied_block v b e))).frame (claimsOccupied_goes ..))).frame (occupancyReaches_goes ..)).frame
    (approachChanged_goes ..)

theorem riseExpiry_tableSafe (h : e.TableSafe v r) : (e.riseExpiry v n).TableSafe v r :=
  .ite (occupied_tableSafe (h.frame (setFilter_goes ..))) h

theorem cleared_tableSafe {b : Nat} (h : e.TableSafe v r) : (e.cleared v b).TableSafe v r :=
  ((((routesClear_tableSafe (claimsClear_tableSafe (h.frame (clearedTrain_goes v b e)))).frame
    (arbiterAtClear_goes ..)).frame (departures_goes ..)).frame (occupancyReaches_goes ..)).frame (approachChanged_goes ..)

theorem dropExpiry_tableSafe (h : e.TableSafe v r) : (e.dropExpiry v n).TableSafe v r :=
  .ite (cleared_tableSafe (h.frame (setFilter_goes ..))) h

/-! ## Mirrors and reception (R13 to R18, R187) -/

theorem changeBMirror_tableSafe {i : Nat} {f : BlockMirror → BlockMirror} (h : e.TableSafe v r) :
    (e.changeBMirror v i f).TableSafe v r :=
  have hs := (h.frame (setBMirror_goes i f e)).frame (approachChanged_goes v (.mirror i) _)
  .ite (hs.foldl _ fun _ h _ _ => approachCleared_tableSafe h) hs

theorem takeBlockItem_tableSafe {s : Nat} {p : Bool} {x : Nat × Bool × Tag × Dir} (h : e.TableSafe v r) :
    (e.takeBlockItem v s p x).TableSafe v r := by
  unfold Ev.takeBlockItem
  split
  · exact changeBMirror_tableSafe h
  · exact h

theorem reclaimed_tableSafe {s : Nat} (h : e.TableSafe v v.running) :
    (if v.running then e.reclaim v s else e).TableSafe v v.running := by
  split
  next hr => exact reclaim_tableSafe h hr
  · exact h

theorem occupancyReport_tableSafe {x : RxFrame} (h : e.TableSafe v v.running) :
    (e.occupancyReport v x).TableSafe v v.running :=
  reclaimed_tableSafe (h.foldl _ fun _ h _ _ => takeBlockItem_tableSafe h)

theorem aspectReport_tableSafe {x : RxFrame} (h : e.TableSafe v v.running) :
    (e.aspectReport v x).TableSafe v v.running :=
  reclaimed_tableSafe (h.foldl _ fun _ h _ _ => h.frame (takeSignalItem_goes ..))

theorem mirrorLapse_tableSafe {m : MirrorId} (h : e.TableSafe v r) : (e.mirrorLapse v m).TableSafe v r := by
  cases m with
  | block i => exact .ite (changeBMirror_tableSafe h) h
  | signal i => exact .ite (h.frame (changeSMirror_goes ..)) h

theorem staleMirrors_tableSafe {p : Nat → Bool} (h : e.TableSafe v r) : (e.staleMirrors v p).TableSafe v r := by
  unfold Ev.staleMirrors
  exact (h.foldl _ fun _ h _ _ => .ite (changeBMirror_tableSafe h) h).foldl _ fun _ h _ _ =>
    .ite (h.frame (changeSMirror_goes ..)) h

theorem announce_tableSafe {f : Frame} (h : e.TableSafe v v.running) : (e.announce v f).TableSafe v v.running := by
  have hs := staleMirrors_tableSafe (p := fun s => s == f.src) h
  unfold Ev.announce
  dsimp only
  split
  next hr =>
    exact (dropClaims_tableSafe (announcedOwner_tableSafe (hs.frame (publishAll_goes ..)) hr)).frame (dropWatches_goes ..)
  · exact hs

theorem receiveOverflow_tableSafe (h : e.TableSafe v r) : (e.receiveOverflow v).TableSafe v r := by
  have hm := h.frame (link_raiseMissed_goes e)
  have hk := (staleMirrors_tableSafe (p := fun _ => true) hm).frame (markLoss_goes _)
  exact .ite hm ((Ev.TableSafe.ite hk (send_tableSafe hk)).frame (link_pend_goes ..))

theorem received_tableSafe {x : Verdict} (h : e.TableSafe v r) (hx : ∀ f, x = .placed f → e.u.lnk.rx.length < 8) :
    (e.received v x).TableSafe v r := by
  cases x with
  | badFraming => exact (receptionLost_tableSafe h).frame (link_raiseFraming_goes _)
  | badCrc => exact (receptionLost_tableSafe h).frame (link_raiseCrc_goes _)
  | clash => exact h
  | notForUs => exact receptionLost_tableSafe h
  | full => exact receiveOverflow_tableSafe (receptionLost_tableSafe h)
  | placed f => exact h.frame (place_goes f e (hx f rfl))

/-! ## The timetable and the clock (R74, R77, R152 to R168) -/

/-- R77: a source that withdraws leaves the states of routes as they are. -/
theorem withdraw_route_state (i k : Nat) (e : Ev) : ((e.withdraw i).u.route k).state = (e.u.route k).state := by
  have hmap (l : List Route) (f : Route → Route) (hf : ∀ x, (f x).state = x.state) :
      ((l.map f).getD k .initial).state = (l.getD k .initial).state := by
    simp only [List.getD_eq_getElem?_getD, List.getElem?_map]
    cases l[k]? with
    | none => rfl
    | some x => exact hf x
  refine hmap _ _ fun x => ?_
  split
  · split <;> rfl
  · rfl

theorem withdraw_tableSafe {i : Nat} (h : e.TableSafe v r) : (e.withdraw i).TableSafe v r :=
  h.routes (withdraw_goes i e) fun k => withdraw_route_state i k e

theorem deadlineStep_tableSafe {m i : Nat} (h : e.TableSafe v r) : (e.deadlineStep v m i).TableSafe v r := by
  unfold Ev.deadlineStep
  split
  · exact .ite ((withdraw_tableSafe h).frame (setStatus_goes ..)) h
  · exact h

theorem timetableRollover_tableSafe {m : Nat} (h : e.TableSafe v r) : (e.timetableRollover v m).TableSafe v r :=
  h.foldl _ fun _ h _ _ => (deadlineStep_tableSafe ((h.frame (triggerStep_goes ..)).frame (passedStep_goes ..))).frame
    (rearmStep_goes ..)

theorem skippedStep_tableSafe {m i : Nat} (h : e.TableSafe v r) : (e.skippedStep v m i).TableSafe v r := by
  unfold Ev.skippedStep
  split
  · exact h
  next x _ =>
    have hs : (match x.status, x.cfg.kind with
        | .waiting, .timed => if x.cfg.triggers m then e.setStatus v i .missed else e
        | .waiting, .show => if x.cfg.matchesAfter 0 m then e.setStatus v i .missed else e
        | _, _ => e).TableSafe v r := by
      split
      · exact .ite (h.frame (setStatus_goes ..)) h
      · exact .ite (h.frame (setStatus_goes ..)) h
      · exact h
    dsimp only
    split
    · exact (withdraw_tableSafe hs).frame (setStatus_goes ..)
    · exact hs.frame (setStatus_goes ..)
    · exact hs

theorem skipMinute_tableSafe {m : Nat} (h : e.TableSafe v r) : (e.skipMinute v m).TableSafe v r :=
  h.foldl _ fun _ h _ _ => (deadlineStep_tableSafe ((skippedStep_tableSafe h).frame (passedStep_goes ..))).frame
    (rearmStep_goes ..)

theorem timetableLoad_tableSafe {f : Frame} (h : e.TableSafe v r) : (e.timetableLoad v f).TableSafe v r := by
  unfold Ev.timetableLoad
  dsimp only
  split
  · exact (h.frame (callCompose_goes _)).frame (answer_goes ..)
  · have hw := Ev.TableSafe.ite (p := e.u.status (LoadFields.read f.payload).entry = some .due)
      (withdraw_tableSafe (i := (LoadFields.read f.payload).entry) h) h
    have hl := hw.frame (loadEntry_goes (LoadFields.read f.payload).entry
      (some (.fresh v.cfg (LoadFields.read f.payload).cfg)) _)
    exact ((Ev.TableSafe.ite (hl.frame (endBusyFor_goes ..)) hl).frame (callCompose_goes _)).frame (answer_goes ..)

theorem cancelEntry_tableSafe {i : Nat} (h : e.TableSafe v r) : (e.cancelEntry v i).TableSafe v r := by
  unfold Ev.cancelEntry
  split
  · exact h.frame (setStatus_goes ..)
  · exact h.frame (setStatus_goes ..)
  · exact (withdraw_tableSafe h).frame (setStatus_goes ..)
  · exact h

theorem timetableCancel_tableSafe {f : Frame} (h : e.TableSafe v r) : (e.timetableCancel v f).TableSafe v r :=
  .ite (h.frame (answer_goes ..)) (.ite (h.frame (answer_goes ..)) ((cancelEntry_tableSafe h).frame (answer_goes ..)))

theorem newEpoch_tableSafe (h : e.TableSafe v r) : (e.newEpoch v).TableSafe v r := by
  refine h.foldl _ fun e h i _ => ?_
  dsimp only
  split
  next x _ =>
    have hs := (withdraw_tableSafe (i := i) h).frame (setEntry_goes i (fun x => { x with status := .waiting, passed := false }) _)
    have hb := Ev.TableSafe.ite (p := x.status = .due ∨ x.status = .ready) (hs.frame (endBusyFor_goes v i _)) hs
    exact .ite hb (hb.frame (callCompose_goes _))
  · exact h

theorem rollTo_tableSafe {m : Nat} (h : e.TableSafe v r) : (e.rollTo v m).TableSafe v r :=
  (timetableRollover_tableSafe (h.frame (clock_goes ..))).frame (callCompose_goes _)

theorem scaleRollover_tableSafe (h : e.TableSafe v r) : (e.scaleRollover v).TableSafe v r :=
  have hr := rollTo_tableSafe (h.frame (takeRemainder_goes e))
  .ite (.ite (hr.frame (beacon_goes ..)) hr) h

theorem adopt_tableSafe {p m q : Nat} {b : Bool} (h : e.TableSafe v r) : (e.adopt v p m q b).TableSafe v r :=
  (newEpoch_tableSafe (h.frame (clock_goes ..))).frame (clockChanged_goes ..)

theorem clockSet_tableSafe {f : Frame} (h : e.TableSafe v r) : (e.clockSet v f).TableSafe v r :=
  .ite (adopt_tableSafe h) h

theorem stepForward_tableSafe {k : Nat} (h : e.TableSafe v r) : (e.stepForward v k).TableSafe v r :=
  (h.foldl (List.range k) (f := fun e _ => e.rollover v) fun _ h _ _ => rollTo_tableSafe h).frame (zeroAccumulator_goes _)

theorem jumpForward_tableSafe {k : Nat} (h : e.TableSafe v r) : (e.jumpForward v k).TableSafe v r :=
  (rollTo_tableSafe (h.foldl (List.range (k - 1)) (f := fun x i => x.skipMinute v ((e.u.clock.minute + 1 + i) % 1440))
    fun _ h _ _ => skipMinute_tableSafe h)).frame (zeroAccumulator_goes _)

theorem clockBeacon_tableSafe {f : Frame} (h : e.TableSafe v r) : (e.clockBeacon v f).TableSafe v r :=
  .ite (adopt_tableSafe h) (.ite (.ite h (.ite (stepForward_tableSafe h) (.ite (jumpForward_tableSafe h) h))) h)

end
end Sys2Proof.Machine
/-! Laws L6 and L7 (O6): plans and runs against the winding limit, and what each operation on the turntable makes of the
deck. -/

namespace Sys2Proof.Machine

set_option Elab.async false

section
variable {v : Env} {r : Bool} {ps : List Part} {e b : Ev} {u u' : Units} {g : TurntableCfg} {m : Move} {x : Run}
  {n : Nat} {c : RouteCfg}

/-! ## Plans (R137, R138) -/

theorem distance_lt (hs : 0 < g.steps) (c t : Nat) : g.distance c t < g.steps := Nat.mod_lt _ hs

/-- R137: where the limit spans a revolution and the backlash, the chosen direction stays within it. -/
theorem chosenTurn_within {w : Int} {last : Turn} {d : Nat} (hd : d < g.steps) (hl : g.steps + g.backlash ≤ g.limit) :
    match chosenTurn g w last d with
      | .cw => w + d ≤ g.limit
      | .ccw => -(g.limit : Int) ≤ w - ((g.steps - d : Nat) : Int) - g.backlash := by
  have hfeasible : feasible g w d (chosenTurn g w last d) = true := by
    unfold chosenTurn
    dsimp only
    split
    next hf => exact hf.resolve_left (by omega)
    next hf =>
      rw [not_or] at hf
      obtain ⟨-, hf⟩ := hf
      cases hp : preferredTurn g last d <;>
        simp only [hp, Turn.other, feasible, decide_eq_true_eq, not_le] at hf ⊢ <;> omega
  unfold feasible at hfeasible
  split at hfeasible <;> simp_all

/-- Law L7 (R137, R138): a plan made from a position within the limit stays within it. -/
theorem planMove_within {c t : Nat} {w : Int} {last : Turn} (hs : 0 < g.steps) (hl : g.steps + g.backlash ≤ g.limit)
    (hw : within g.limit w) : (planMove g c w last t).within g.limit w := by
  have hd := distance_lt (g := g) hs c t
  have hturn := chosenTurn_within (w := w) (last := last) hd hl
  unfold planMove
  dsimp only
  split
  · simpa [Plan.within, windingAfter] using hw
  · unfold within at hw
    split
    next hc =>
      simp only [hc] at hturn
      simp only [Plan.within, within, windingAfter]
      omega
    next hc =>
      simp only [hc] at hturn
      simp only [Plan.within, within, windingAfter]
      omega

/-! ## The course of the turntable -/

/-- What laws L6 and L7 read of the turntable. -/
def Turntable.course (x : Turntable) : Phase × Int × Bool × Option (Nat × BridgeEnd) × Option Move × Timer × Timer :=
  (x.phase, x.winding, x.homed, x.alignedAt, x.current, x.unlockTime, x.lockTime)

theorem deckSound_of_course (h : u.deckSound g) (ht : u'.ttc.course = u.ttc.course)
    (hh : (u'.block g.deck).holder = (u.block g.deck).holder) : u'.deckSound g := by
  simp only [Turntable.course, Prod.mk.injEq] at ht
  obtain ⟨hp, hw, hm, -, hc, hu, hl⟩ := ht
  constructor
  · rw [hp, hh]; exact h.held
  · rw [hp, hu]; exact h.unlock
  · rw [hp, hl]; exact h.lock
  · rw [hm, hw]; exact h.winding
  · rw [hp, hm, hc]; exact h.unhomed
  · rw [hp, hm]; exact h.homing
  · rw [hp, hm, hc, hw]; exact h.planned
  · rw [hp, hc]; exact h.ahead
  · rw [hp, hm, hc, hw]; exact h.runs

theorem Ev.Goes.ttc_eq (h : Ev.Goes ps e b) (hp : .table ∉ ps := by decide) : b.u.ttc = e.u.ttc := h.keeps .table hp

theorem Ev.Goes.holder_eq (h : Ev.Goes ps e b) (k : Nat) (hp : .holders ∉ ps := by decide) :
    (b.u.block k).holder = (e.u.block k).holder := holder_of_agree (h.keeps .holders hp) k

/-- R128: a change of phase, and of nothing else of the turntable. -/
theorem setPhase_ttc (v : Env) (p : Phase) (e : Ev) : (e.setPhase v p).u.ttc = { e.u.ttc with phase := p } := by
  unfold Ev.setPhase
  split
  next hp => rw [← hp]
  · dsimp only
    split <;> split <;> rfl

theorem setPhase_holder (v : Env) (p : Phase) (e : Ev) (k : Nat) :
    ((e.setPhase v p).u.block k).holder = (e.u.block k).holder := (setPhase_goes v p e).holder_eq k

theorem setMoves_course (v : Env) (f : List MoveRequest → List MoveRequest) (e : Ev) :
    (e.setMoves v f).u.ttc.course = e.u.ttc.course := rfl

/-! ## What the deck is like -/

/-- A deck that no move has under way. -/
theorem deckSound_of_rest (hp : u.ttc.phase.inMove = false) (hu : u.ttc.unlockTime = none) (hl : u.ttc.lockTime = none)
    (hw : u.ttc.homed = true → g.limit ≠ 0 → within g.limit u.ttc.winding) : u.deckSound g where
  held h := nomatch hp.symm.trans h
  unlock h := by simp [hu] at h
  lock h := by simp [hl] at h
  winding := hw
  unhomed h := by
    obtain ⟨h, -⟩ | h := h <;> simp [h, Phase.inMove] at hp
  homing h := by simp [h, Phase.inMove] at hp
  planned h := by simp [h, Phase.inMove] at hp
  ahead h := by obtain h | h := h <;> simp [h, Phase.inMove] at hp
  runs h := by obtain h | h := h <;> simp [h, Phase.inMove] at hp

/-- A deck that is held for a move whose timers are stopped, and is within the limit while it is homed. -/
structure Units.Underway (g : TurntableCfg) (u : Units) : Prop where
  held    : (u.block g.deck).holder = .turntable
  unlock  : u.ttc.unlockTime = none
  lock    : u.ttc.lockTime = none
  winding : u.ttc.homed = true → g.limit ≠ 0 → within g.limit u.ttc.winding

/-- Law L7 for a run `x` of move `m`: where it stops, and where the return run after it ends. -/
def Units.RunFits (g : TurntableCfg) (m : Move) (x : Run) (u : Units) : Prop :=
  u.ttc.homed = true → g.limit ≠ 0 →
    within g.limit (windingAfter u.ttc.winding x.turn (x.len - x.made))
    ∧ (u.ttc.phase = .moving → ∀ p, m.plan = some p →
        within g.limit (windingAfter u.ttc.winding x.turn (x.len - x.made) + p.back))

theorem underway_of_run (h : u.deckSound g) (hp : u.ttc.phase = .homing ∨ u.ttc.phase = .moving ∨ u.ttc.phase = .settling) :
    u.Underway g where
  held := h.held (by obtain hp | hp | hp := hp <;> simp [hp, Phase.inMove])
  unlock := by
    by_contra hu
    have := h.unlock (Option.isSome_iff_ne_none.2 hu)
    obtain hp | hp | hp := hp <;> simp [hp] at this
  lock := by
    by_contra hu
    have := h.lock (Option.isSome_iff_ne_none.2 hu)
    obtain hp | hp | hp := hp <;> simp [hp] at this
  winding := h.winding

/-- A deck whose run `x` is being made. -/
theorem deckSound_of_run (h : u.Underway g) (hp : u.ttc.phase = .moving ∨ u.ttc.phase = .settling)
    (hc : u.ttc.current = some m) (hr : m.run = some x) (hl : 0 < x.left ∧ x.left ≤ x.len - x.made)
    (hf : u.RunFits g m x) : u.deckSound g where
  held _ := h.held
  unlock hu := by simp [h.unlock] at hu
  lock hu := by simp [h.lock] at hu
  winding := h.winding
  unhomed hq := by
    obtain ⟨hq, -⟩ | hq := hq <;> obtain hp | hp := hp <;> simp [hq] at hp
  homing hq := by obtain hp | hp := hp <;> simp [hq] at hp
  planned hq := by obtain hp | hp := hp <;> simp [hq] at hp
  ahead _ m' x' hm hx := by
    cases hc.symm.trans hm
    cases hr.symm.trans hx
    exact hl
  runs _ hh hlim m' x' hm hx := by
    cases hc.symm.trans hm
    cases hr.symm.trans hx
    exact hf hh hlim

/-- An unhomed deck that is homing. -/
theorem deckSound_of_homing (h : u.Underway g) (hp : u.ttc.phase = .homing) (hh : u.ttc.homed = false)
    (hplan : ∀ m, u.ttc.current = some m → m.plan = none) : u.deckSound g where
  held _ := h.held
  unlock hu := by simp [h.unlock] at hu
  lock hu := by simp [h.lock] at hu
  winding := h.winding
  unhomed _ := hplan
  homing _ := hh
  planned hq := by simp [hq] at hp
  ahead hq := by obtain hq | hq := hq <;> simp [hq] at hp
  runs hq := by obtain hq | hq := hq <;> simp [hq] at hp

/-- A deck whose lock is being withdrawn: the plan of a homed deck's move stays within the limit, an unhomed one's has
none. -/
theorem deckSound_of_unlocking (hheld : (u.block g.deck).holder = .turntable) (hp : u.ttc.phase = .unlocking)
    (hl : u.ttc.lockTime = none) (hw : u.ttc.homed = true → g.limit ≠ 0 → within g.limit u.ttc.winding)
    (hn : u.ttc.homed = false → ∀ m, u.ttc.current = some m → m.plan = none)
    (hplan : u.ttc.homed = true → g.limit ≠ 0 → ∀ m p, u.ttc.current = some m → m.plan = some p →
      p.within g.limit u.ttc.winding) : u.deckSound g where
  held _ := hheld
  unlock _ := hp
  lock hu := by simp [hl] at hu
  winding := hw
  unhomed hq := by
    obtain ⟨-, hh⟩ | hq := hq
    · exact hn hh
    · simp [hp] at hq
  homing hq := by simp [hp] at hq
  planned _ := hplan
  ahead hq := by obtain hq | hq := hq <;> simp [hp] at hq
  runs hq := by obtain hq | hq := hq <;> simp [hp] at hq

/-! ## The ends of a move (R145 to R149) -/

/-- R149: a fault leaves the deck unhomed and at rest. -/
theorem tableFault_deck (k : FaultKind) (e : Ev) : (e.tableFault v g k).u.deckSound g := by
  let stopped (t : Turntable) : Prop := t.phase = .fault ∧ t.homed = false ∧ t.unlockTime = none ∧ t.lockTime = none
  have hrest : stopped (e.tableFault v g k).u.ttc := by
    let a := e.ttc fun t => { t with
      stepping := none, lockEngage := true, deckPower := false, unlockTime := none, lockTime := none, alignedAt := none }
    have hunhomed : a.unhome.u.ttc.homed = false ∧ a.unhome.u.ttc.unlockTime = none ∧ a.unhome.u.ttc.lockTime = none := by
      unfold Ev.unhome
      split
      · exact ⟨rfl, rfl, rfl⟩
      next hh => exact ⟨by simpa using hh, rfl, rfl⟩
    let d := (a.unhome.setPhase v .fault).setHolder v g.deck .free
    have hd : stopped d.u.ttc := by
      rw [(setHolder_goes v g.deck .free _).ttc_eq, setPhase_ttc]
      exact ⟨rfl, hunhomed⟩
    have told (q : Option Move) : stopped ((match q with
        | some m => d.tellMove v m.source (.fault k)
        | none => d).ttc fun t => { t with current := none }).u.ttc := by
      cases q with
      | some m =>
        show stopped { (d.tellMove v m.source (.fault k)).u.ttc with current := none }
        rw [(tellMove_goes ..).ttc_eq]
        exact hd
      | none => exact hd
    let f := (match d.u.ttc.current with
      | some m => d.tellMove v m.source (.fault k)
      | none => d).ttc fun t => { t with current := none }
    let q := f.u.ttc.queue.foldl (fun e q => e.tellMove v q.source (.fault k)) f
    have hq : Ev.Goes [.buttons, .counters, .slots, .transmitter] f q := .foldl (fun e q => tellMove_goes ..) _ _
    show stopped { q.u.ttc with queue := [] }
    rw [hq.ttc_eq]
    exact told _
  obtain ⟨hp, hh, hu, hl⟩ := hrest
  exact deckSound_of_rest (by rw [hp]; rfl) hu hl fun h => nomatch hh.symm.trans h

/-- R147: an abort leaves the deck at rest. -/
theorem abortEnd_deck (hl : e.u.ttc.lockTime = none)
    (hw : e.u.ttc.homed = true → g.limit ≠ 0 → within g.limit e.u.ttc.winding) : (e.abortEnd v g m).u.deckSound g := by
  unfold Ev.abortEnd
  split
  · exact tableFault_deck _ _
  · have ht : ((((e.ttc fun t => { t with
        stepping := none, alignedAt := none, deckPower := false, unlockTime := none, current := none }).setPhase v
        .unaligned).tellMove v m.source (.aborted .stopped))).u.ttc = { e.u.ttc with
        stepping := none, alignedAt := none, deckPower := false, unlockTime := none, current := none, phase := .unaligned } := by
      rw [(tellMove_goes ..).ttc_eq, setPhase_ttc]
      rfl
    refine deckSound_of_rest ?_ ?_ ?_ ?_ <;> rw [ht]
    exacts [rfl, hl, hw]

/-- R143: the last run has ended: the deck waits for its lock. -/
theorem lastRunEnds_deck (h : e.u.Underway g) : (e.lastRunEnds v g m).u.deckSound g := by
  have ht : (e.lastRunEnds v g m).u.ttc = { e.u.ttc with
      stepping := none, reversed := g.reversedAt m.target, lockEngage := true, lockTime := some 0
      current := some { m with run := none }, phase := .locking } := setPhase_ttc ..
  have hh : ((e.lastRunEnds v g m).u.block g.deck).holder = .turntable := (setPhase_holder ..).trans h.held
  constructor <;> rw [ht]
  · exact fun _ => hh
  · exact fun hu => absurd h.unlock (Option.isSome_iff_ne_none.1 hu)
  · exact fun _ => rfl
  · exact h.winding
  · exact fun hq => by simp at hq
  all_goals exact fun hq => by simp at hq

/-! ## Runs (R138, R141 to R146) -/

/-- R138, R143: a run of the plan begins. -/
theorem beginRun_deck {turn : Turn} {len : Nat} {p : Phase} (h : e.u.Underway g) (hp : p = .moving ∨ p = .settling)
    (hl : 0 < len) (hf : e.u.ttc.homed = true → g.limit ≠ 0 → within g.limit (windingAfter e.u.ttc.winding turn len)
      ∧ (p = .moving → ∀ q, m.plan = some q → within g.limit (windingAfter e.u.ttc.winding turn len + q.back))) :
    (e.beginRun v m turn len p).u.deckSound g := by
  have ht : (e.beginRun v m turn len p).u.ttc = { e.u.ttc with
      stepping := some turn, lastTurn := turn, current := some { m with run := some ⟨turn, len, 0, none⟩ }
      phase := p } := setPhase_ttc ..
  refine deckSound_of_run (m := { m with run := some ⟨turn, len, 0, none⟩ }) (x := ⟨turn, len, 0, none⟩)
    ⟨(setPhase_holder ..).trans h.held, ?_, ?_, ?_⟩ ?_ ?_ rfl ⟨hl, le_refl _⟩ ?_
  · rw [ht]; exact h.unlock
  · rw [ht]; exact h.lock
  · rw [ht]; exact h.winding
  · rw [ht]; exact hp
  · rw [ht]
  · unfold Units.RunFits
    rw [ht]
    exact hf

/-- R141, R142: the plan is run from its beginning: the one made at the start of the move, or one made now. -/
theorem beginPlan_deck (h : e.u.Underway g) (hs : 0 < g.steps) (hl : g.limit = 0 ∨ g.steps + g.backlash ≤ g.limit)
    (hplan : e.u.ttc.homed = true → g.limit ≠ 0 → ∀ p, m.plan = some p → p.within g.limit e.u.ttc.winding) :
    (e.beginPlan v g m).u.deckSound g := by
  unfold Ev.beginPlan
  dsimp only
  generalize hq : m.plan.getD _ = p
  have hwithin (hh : e.u.ttc.homed = true) (hlim : g.limit ≠ 0) : p.within g.limit e.u.ttc.winding := by
    cases hm : m.plan with
    | some q =>
      rw [hm, Option.getD_some] at hq
      exact hq ▸ hplan hh hlim q hm
    | none =>
      rw [hm, Option.getD_none] at hq
      exact hq ▸ planMove_within hs (hl.resolve_left hlim) (h.winding hh hlim)
  split
  · exact lastRunEnds_deck h
  next hmain =>
    refine beginRun_deck h (.inl rfl) (Nat.pos_of_ne_zero hmain) fun hh hlim => ?_
    obtain ⟨hmain, hback⟩ := hwithin hh hlim
    refine ⟨hmain, fun _ q hq => ?_⟩
    cases hq
    exact hback

/-- R141: the lock of a held deck is withdrawn. -/
theorem unlocked_deck (h : e.u.deckSound g) (hp : e.u.ttc.phase = .unlocking) (hs : 0 < g.steps)
    (hl : g.limit = 0 ∨ g.steps + g.backlash ≤ g.limit) : (e.unlocked v g).u.deckSound g := by
  have hlock : e.u.ttc.lockTime = none := by
    by_contra hu
    have := h.lock (Option.isSome_iff_ne_none.2 hu)
    simp [hp] at this
  unfold Ev.unlocked
  split
  · exact h
  next m hm =>
    have ha : (e.ttc fun t => { t with unlockTime := none }).u.Underway g :=
      ⟨h.held (by rw [hp]; rfl), rfl, hlock, h.winding⟩
    dsimp only
    split
    · exact beginPlan_deck ha hs hl fun hh hlim p hplan => h.planned hp hh hlim m p hm hplan
    next hh =>
      have hunhomed : e.u.ttc.homed = false := by simpa using hh
      have ht : (((e.ttc fun t => { t with unlockTime := none }).ttc fun t => { t with
          stepping := some .cw, lastTurn := .cw }).setPhase v .homing).u.ttc = { e.u.ttc with
          unlockTime := none, stepping := some .cw, lastTurn := .cw, phase := .homing } := setPhase_ttc ..
      refine deckSound_of_homing ⟨(setPhase_holder ..).trans ha.held, ?_, ?_, ?_⟩ ?_ ?_ ?_ <;> rw [ht]
      exacts [hlock, h.winding, hunhomed, h.unhomed (.inl ⟨hp, hunhomed⟩)]

/-- R146: a move ramps down, or ends at once. -/
theorem rampDown_deck (h : e.u.Underway g) (hp : e.u.ttc.phase = .moving ∨ e.u.ttc.phase = .settling)
    (hf : e.u.RunFits g m x) : (e.rampDown v g m x).u.deckSound g := by
  unfold Ev.rampDown
  dsimp only
  split
  · exact abortEnd_deck h.lock h.winding
  next hn =>
    exact deckSound_of_run (m := { m with
        aborting := true, run := some { x with ramp := some (lastLevel g x, rampLength g x (lastLevel g x), 0) } })
      (x := { x with ramp := some (lastLevel g x, rampLength g x (lastLevel g x), 0) })
      ⟨h.held, h.unlock, h.lock, h.winding⟩ hp rfl rfl ⟨Nat.pos_of_ne_zero hn, Nat.min_le_right _ _⟩ hf

/-- R143: the last step of a run has been made. -/
theorem runEnds_deck (h : e.u.Underway g) (hx : x.len ≤ x.made) (hf : e.u.RunFits g m x) :
    (e.runEnds v g m).u.deckSound g := by
  have hend : windingAfter e.u.ttc.winding x.turn (x.len - x.made) = e.u.ttc.winding := by
    rw [Nat.sub_eq_zero_of_le hx]
    cases x.turn <;> simp [windingAfter]
  unfold Ev.runEnds
  split
  next p hp hplan =>
    split
    next hback =>
      refine beginRun_deck h (.inr rfl) hback fun hh hlim => ⟨?_, nofun⟩
      obtain ⟨-, hreturn⟩ := hf hh hlim
      have := hreturn hp p hplan
      rwa [hend] at this
    · exact lastRunEnds_deck h
  · exact lastRunEnds_deck h

/-- R143, R146: what follows a step of run `x`. -/
theorem afterStep_deck {slip : Bool} (h : e.u.Underway g) (hp : e.u.ttc.phase = .moving ∨ e.u.ttc.phase = .settling)
    (hc : e.u.ttc.current = some m) (hr : m.run = some x) (hl : x.left ≤ x.len - x.made) (hf : e.u.RunFits g m x) :
    (e.afterStep v g m x slip).u.deckSound g := by
  unfold Ev.afterStep
  split
  next k n i hramp =>
    have hleft : x.left = n - i := by simp [Run.left, hramp]
    split
    · exact abortEnd_deck h.lock h.winding
    · exact deckSound_of_run h hp hc hr ⟨by omega, hl⟩ hf
  next hramp =>
    have hleft : x.left = x.len - x.made := by simp [Run.left, hramp]
    split
    · exact rampDown_deck h hp hf
    · split
      next hx => exact runEnds_deck h hx hf
      · exact deckSound_of_run h hp hc hr ⟨by omega, hl⟩ hf

/-! ## Steps (R127, R142 to R144) -/

/-- R127: what a step makes of the turntable. -/
theorem makeStep_ttc (turn : Turn) (e : Ev) : ∃ c w, (e.makeStep g turn).u.ttc = { e.u.ttc with pos := c, winding := w }
    ∧ (e.u.ttc.homed = true → w = stepWinding e.u.ttc.winding turn) := by
  unfold Ev.makeStep
  dsimp only
  split
  · exact ⟨_, _, rfl, fun _ => rfl⟩
  next hh => exact ⟨_, _, rfl, fun h => absurd h hh⟩

theorem makeStep_holder (turn : Turn) (e : Ev) (k : Nat) :
    ((e.makeStep g turn).u.block k).holder = (e.u.block k).holder := (makeStep_goes g turn e).holder_eq k

/-- A step of a run leaves where the run stops. -/
theorem windingAfter_stepWinding {w : Int} {turn : Turn} {k : Nat} (hk : 0 < k) :
    windingAfter (stepWinding w turn) turn (k - 1) = windingAfter w turn k := by
  cases turn <;> simp only [windingAfter, stepWinding] <;> omega

/-- One step toward a stop within the limit, from a position within it, stays within it. -/
theorem stepWinding_within {limit k : Nat} {w : Int} {turn : Turn} (hk : 0 < k) (hw : within limit w)
    (hs : within limit (windingAfter w turn k)) : within limit (stepWinding w turn) := by
  cases turn <;> simp only [within, windingAfter, stepWinding] at * <;> omega

theorem unhome_ttc (e : Ev) : e.unhome.u.ttc.homed = false ∧ ∃ w, e.unhome.u.ttc = { e.u.ttc with homed := false, winding := w } := by
  unfold Ev.unhome
  split
  · exact ⟨rfl, _, rfl⟩
  next hh =>
    have : e.u.ttc.homed = false := by simpa using hh
    exact ⟨this, e.u.ttc.winding, by rw [← this]⟩

/-- R143, R144: a step of run `x` of a deck that makes it. -/
theorem runStep_deck {rise : Bool} (h : e.u.deckSound g) (hp : e.u.ttc.phase = .moving ∨ e.u.ttc.phase = .settling)
    (hc : e.u.ttc.current = some m) (hr : m.run = some x) : (e.runStep v g m x rise).u.deckSound g := by
  have hway := underway_of_run h (.inr hp)
  obtain ⟨hpos, hleft⟩ := h.ahead hp m x hc hr
  have hfits : e.u.RunFits g m x := fun hh hlim => h.runs hp hh hlim m x hc hr
  obtain ⟨c, w, ht, hw⟩ := makeStep_ttc (g := g) x.turn e
  have hmade : 0 < x.len - x.made := lt_of_lt_of_le hpos hleft
  let slip := slips g (e.makeStep g x.turn).u.ttc rise
  let m' : Move := { m with run := some x.stepped, slipped := m.slipped || slip }
  let a := (e.makeStep g x.turn).ttc fun t => { t with current := some m' }
  have hat : a.u.ttc = { e.u.ttc with pos := c, winding := w, current := some m' } := by
    show { (e.makeStep g x.turn).u.ttc with current := some m' } = _
    rw [ht]
  have haheld : (a.u.block g.deck).holder = .turntable := (makeStep_holder x.turn e g.deck).trans hway.held
  have hsub : x.stepped.len - x.stepped.made = x.len - x.made - 1 := Nat.sub_succ ..
  have ha : a.u.Underway g := by
    refine ⟨haheld, ?_, ?_, fun hh hlim => ?_⟩ <;> rw [hat] at *
    · exact hway.unlock
    · exact hway.lock
    · obtain ⟨hstop, -⟩ := hfits hh hlim
      show within g.limit w
      rw [hw hh]
      exact stepWinding_within hmade (hway.winding hh hlim) hstop
  have haf : a.u.RunFits g m' x.stepped := by
    unfold Units.RunFits
    rw [hat, hsub]
    intro hh hlim
    have hh' : e.u.ttc.homed = true := hh
    obtain ⟨hstop, hreturn⟩ := hfits hh' hlim
    show within g.limit (windingAfter w x.turn _) ∧ (_ → ∀ p : Plan, _ → within g.limit (windingAfter w x.turn _ + p.back))
    rw [hw hh', windingAfter_stepWinding hmade]
    exact ⟨hstop, hreturn⟩
  have hl : x.stepped.left ≤ x.stepped.len - x.stepped.made := by
    rw [hsub]
    cases hramp : x.ramp with
    | none => simp [Run.left, Run.stepped, hramp]; omega
    | some k =>
      obtain ⟨k, n, i⟩ := k
      simp only [Run.left, hramp] at hleft hpos
      simp only [Run.left, Run.stepped, hramp, Option.map_some]
      omega
  show (Ev.afterStep v g m' x.stepped slip (if slip then a.unhome else a)).u.deckSound g
  split
  · obtain ⟨hh, w', hu⟩ := unhome_ttc a
    have hheld : (a.unhome.u.block g.deck).holder = .turntable := ((unhome_goes a).holder_eq g.deck).trans haheld
    refine afterStep_deck ⟨hheld, ?_, ?_, fun h => nomatch hh.symm.trans h⟩ ?_ ?_ rfl hl fun h => nomatch hh.symm.trans h
    · rw [hu]; exact ha.unlock
    · rw [hu]; exact ha.lock
    · rw [hu, hat]; exact hp
    · rw [hu, hat]
  · exact afterStep_deck ha (by rw [hat]; exact hp) (by rw [hat]) rfl hl haf

/-- R142: a step of homing. -/
theorem homingStep_deck {rise : Bool} (h : e.u.deckSound g) (hp : e.u.ttc.phase = .homing)
    (hc : e.u.ttc.current = some m) (hs : 0 < g.steps) (hhome : g.home < g.steps)
    (hl : g.limit = 0 ∨ g.steps + g.backlash ≤ g.limit) : (e.homingStep v g m rise).u.deckSound g := by
  have hway := underway_of_run h (.inl hp)
  have hunhomed := h.homing hp
  have hplan := h.unhomed (.inr hp) m hc
  obtain ⟨c, w, ht, -⟩ := makeStep_ttc (g := g) .cw e
  have hheld : ((e.makeStep g .cw).u.block g.deck).holder = .turntable := (makeStep_holder .cw e g.deck).trans hway.held
  have hunlock : (e.makeStep g .cw).u.ttc.unlockTime = none := by rw [ht]; exact hway.unlock
  have hlock : (e.makeStep g .cw).u.ttc.lockTime = none := by rw [ht]; exact hway.lock
  have hhomed : (e.makeStep g .cw).u.ttc.homed = false := by rw [ht]; exact hunhomed
  unfold Ev.homingStep
  dsimp only
  split
  · refine beginPlan_deck ⟨hheld, hunlock, hlock, fun _ hlim => ?_⟩ hs hl fun _ _ p hm => nomatch hplan.symm.trans hm
    show (g.home : Int).natAbs ≤ g.limit
    have := hl.resolve_left hlim
    omega
  · split
    · exact tableFault_deck _ _
    · refine deckSound_of_homing ⟨hheld, hunlock, hlock, fun hh => nomatch hhomed.symm.trans hh⟩ ?_ hhomed fun m' hm => ?_
      · show (e.makeStep g .cw).u.ttc.phase = .homing
        rw [ht]
        exact hp
      · cases hm
        exact hplan

end
end Sys2Proof.Machine
/-! Laws L6 and L7 (O6): the operations on the turntable, the stop state and the panel. -/

namespace Sys2Proof.Machine

set_option Elab.async false

section
variable {v : Env} {r : Bool} {ps : List Part} {e b : Ev} {u : Units} {g : TurntableCfg} {m : Move} {x : Run} {n : Nat}
  {c : RouteCfg}

/-! ## Changes of the turntable -/

namespace Ev.TableSafe

/-- An operation that changes the turntable, and leaves routes and claims. -/
theorem turntable (h : e.TableSafe v r) (k : Ev.Goes ps e b) (hd : ∀ g, v.cfg.turntable = some g → b.u.deckSound g)
    (hl : (∃ n c q, v.cfg.route n = some c ∧ c.turntable = some q ∧ (e.u.route n).state ≠ .idle) →
      b.u.ttc.phase = e.u.ttc.phase ∧ b.u.ttc.alignedAt = e.u.ttc.alignedAt)
    (hb : r = false → b.u.ttc.phase.inMove = false ∧ b.u.ttc.homed = false ∧ b.u.ttc.unlockTime = none
      ∧ b.u.ttc.lockTime = none)
    (hp : ∀ p ∈ [Part.routes, .claims], p ∉ ps := by decide) : b.TableSafe v r := by
  have hr := route_of_agree (k.keeps .routes (hp _ (by decide)))
  have hc := claim_of_agree (k.keeps .claims (hp _ (by decide)))
  refine ⟨k.sound h.sound, h.config, hd, fun n c q hk hq hs => ?_, fun n c hk hf ha => ?_, fun hf => ⟨fun n => ?_, hb hf⟩⟩
  · rw [hr] at hs
    obtain ⟨hphase, hat⟩ := hl ⟨n, c, q, hk, hq, hs⟩
    rw [hphase, hat]
    exact h.locked n c q hk hq hs
  · rw [hc] at ha
    rw [hr]
    exact h.claims n c hk hf ha
  · rw [hr, hc]
    exact (h.before hf).1 n

/-- A change of the turntable that laws L6 and L7 do not read. -/
theorem course (h : e.TableSafe v r) (k : Ev.Goes ps e b) (ht : b.u.ttc.course = e.u.ttc.course)
    (hp : ∀ p ∈ [Part.holders, .routes, .claims], p ∉ ps := by decide) : b.TableSafe v r := by
  have hd (g) (hg : v.cfg.turntable = some g) : b.u.deckSound g :=
    deckSound_of_course (h.deck g hg) ht (k.holder_eq g.deck (hp _ (by decide)))
  simp only [Turntable.course, Prod.mk.injEq] at ht
  obtain ⟨hphase, -, hh, hat, -, hu, hl⟩ := ht
  refine h.turntable k hd (fun _ => ⟨hphase, hat⟩) (fun hf => ?_) (avoids_of hp)
  obtain ⟨-, hrest⟩ := h.before hf
  rw [hphase, hh, hu, hl]
  exact hrest

/-- No route that needs the bridge is locked while it is not ALIGNED. -/
theorem not_locked (h : e.TableSafe v r) (hp : e.u.ttc.phase ≠ .aligned) :
    ¬ ∃ n c q, v.cfg.route n = some c ∧ c.turntable = some q ∧ (e.u.route n).state ≠ .idle := by
  rintro ⟨n, c, q, hk, hq, hs⟩
  exact hp (h.locked n c q hk hq hs).1

/-- A move is under way only while RUNNING. -/
theorem running_of_inMove (h : e.TableSafe v r) (hm : e.u.ttc.phase.inMove = true) : r = true := by
  by_contra hr
  obtain ⟨-, hrest, -⟩ := h.before (by simpa using hr)
  exact nomatch hrest.symm.trans hm

/-- An operation on the turntable while a move is under way. -/
theorem moved (h : e.TableSafe v r) (k : Ev.Goes ps e b) (hm : e.u.ttc.phase.inMove = true)
    (hg : v.cfg.turntable = some g) (hd : b.u.deckSound g)
    (hp : ∀ p ∈ [Part.routes, .claims], p ∉ ps := by decide) : b.TableSafe v r := by
  refine h.turntable k (fun q hq => Option.some.inj (hg.symm.trans hq) ▸ hd) (fun hl => ?_) (fun hf => ?_) hp
  · exact absurd hl (h.not_locked fun ha => by simp [ha, Phase.inMove] at hm)
  · exact absurd ((h.running_of_inMove hm).symm.trans hf) (by decide)

end Ev.TableSafe

theorem setMoves_tableSafe {f : List MoveRequest → List MoveRequest} (h : e.TableSafe v r) :
    (e.setMoves v f).TableSafe v r := h.course (setMoves_goes v f e) (setMoves_course v f e)

theorem tellMove_tableSafe {s : MoveSource} {o : MoveOutcome} (h : e.TableSafe v r) : (e.tellMove v s o).TableSafe v r :=
  h.frame (tellMove_goes ..)

/-! ## Starting a move (R133 to R136) -/

/-- What the configuration says of the turntable (R125). -/
theorem Ev.TableSafe.geometry (h : e.TableSafe v r) (hg : v.cfg.turntable = some g) : 0 < g.steps ∧ g.deck < 48
    ∧ g.home < g.steps ∧ (g.limit = 0 ∨ g.steps + g.backlash ≤ g.limit) := h.config.turntable g hg

/-- R134: the head starts from a phase of rest, while every route that needs the bridge is IDLE. -/
theorem startConditions_facts {s : MoveSource} (hs : u.sound) (h : startConditions v u g s = true) :
    u.ttc.phase.resting = true ∧ ∀ n c, v.cfg.route n = some c → c.turntable.isSome = true → (u.route n).state = .idle := by
  unfold startConditions at h
  simp only [Bool.and_eq_true, List.all_eq_true, List.mem_range] at h
  obtain ⟨⟨⟨⟨⟨hp, -⟩, -⟩, -⟩, -⟩, hr⟩ := h
  refine ⟨hp, fun n c hc ht => ?_⟩
  by_cases hn : n < 64
  · have := hr n hn
    rw [hc] at this
    simpa [Option.isSome_iff_ne_none.1 ht] using this
  · rw [Units.route, List.getD_eq_default _ _ (by rw [routes_of_sound hs]; omega)]
    rfl

theorem blocks_of_sound (h : u.sound) : u.bkt.blocks.length = 48 := by
  obtain ⟨-, hl, -⟩ := h.1
  exact hl

/-- R135: the deck is taken for move `m`, and its lock withdrawn. -/
def Ev.unlocking (v : Env) (g : TurntableCfg) (m : Move) (e : Ev) : Ev :=
  (((e.setHolder v g.deck .turntable).stepBack g.deck).ttc fun t => { t with
    current := some m, deckPower := false, lockEngage := false, unlockTime := some 0 }).setPhase v .unlocking

/-- R135, R136: a move starts with a plan, if the deck is homed, from where the deck stands. -/
theorem startMove_eq (v : Env) (g : TurntableCfg) (s : MoveSource) (n : Nat) (side : BridgeEnd) (e : Ev) :
    ∃ m : Move, (∃ t, m.plan = if e.u.ttc.homed then some (planMove g e.u.ttc.pos e.u.ttc.winding e.u.ttc.lastTurn t)
        else none)
      ∧ e.startMove v g s n side = if (e.unlocking v g m).u.ttc.confirm.level then e.unlocking v g m
        else (e.unlocking v g m).unlocked v g := ⟨_, ⟨_, rfl⟩, rfl⟩

theorem unlocking_ttc : (e.unlocking v g m).u.ttc = { e.u.ttc with
    current := some m, deckPower := false, lockEngage := false, unlockTime := some 0, phase := .unlocking } := by
  have hd : ((e.setHolder v g.deck .turntable).stepBack g.deck).u.ttc = e.u.ttc := (setHolder_goes ..).ttc_eq
  rw [Ev.unlocking, setPhase_ttc, ← hd]
  rfl

theorem unlocking_holder (hs : e.u.sound) (hg : g.deck < 48) :
    ((e.unlocking v g m).u.block g.deck).holder = .turntable := by
  rw [Ev.unlocking, setPhase_holder]
  show ((e.setHolder v g.deck .turntable).u.block g.deck).holder = .turntable
  rw [setHolder_holder, if_pos ⟨rfl, (blocks_of_sound hs).symm ▸ hg⟩]

/-- R135, R136: the deck at the start of a move. -/
theorem startMove_deck {s : MoveSource} {side : BridgeEnd} (hs : e.u.sound) (h : e.u.deckSound g)
    (hp : e.u.ttc.phase.resting = true) (hg : 0 < g.steps ∧ g.deck < 48 ∧ g.home < g.steps
      ∧ (g.limit = 0 ∨ g.steps + g.backlash ≤ g.limit)) : (e.startMove v g s n side).u.deckSound g := by
  obtain ⟨hsteps, hdeck, -, hlimit⟩ := hg
  have hlock : e.u.ttc.lockTime = none := by
    by_contra hu
    have := h.lock (Option.isSome_iff_ne_none.2 hu)
    simp [this, Phase.resting] at hp
  obtain ⟨m, ⟨t, hplan⟩, hstart⟩ := startMove_eq v g s n side e
  have hdeck : (e.unlocking v g m).u.deckSound g := by
    refine deckSound_of_unlocking (unlocking_holder hs hdeck) ?_ ?_ ?_ ?_ ?_ <;> rw [unlocking_ttc]
    · exact hlock
    · exact h.winding
    · intro hh m' hm'
      have hunhomed : ¬ e.u.ttc.homed = true := by rw [hh]; nofun
      cases hm'
      rw [hplan, if_neg hunhomed]
    · intro hh hlim m' p hm' hp'
      have hhomed : e.u.ttc.homed = true := hh
      cases hm'
      rw [hplan, if_pos hhomed] at hp'
      cases hp'
      exact planMove_within hsteps (hlimit.resolve_left hlim) (h.winding hhomed hlim)
  rw [hstart]
  split
  · exact hdeck
  · exact unlocked_deck hdeck (by rw [unlocking_ttc]) hsteps hlimit

theorem startMove_tableSafe {s : MoveSource} {side : BridgeEnd} (h : e.TableSafe v r) (hr : r = true)
    (hg : v.cfg.turntable = some g) (hp : e.u.ttc.phase.resting = true)
    (hi : ∀ n c, v.cfg.route n = some c → c.turntable.isSome = true → (e.u.route n).state = .idle) :
    (e.startMove v g s n side).TableSafe v r := by
  refine h.turntable (startMove_goes v g s n side e) (fun q hq => ?_) (fun hl => ?_) (fun hf => ?_)
  · exact Option.some.inj (hg.symm.trans hq) ▸ startMove_deck h.sound (h.deck g hg) hp (h.geometry hg)
  · obtain ⟨k, c, q, hk, hq, hs⟩ := hl
    exact absurd (hi k c hk (by rw [hq]; rfl)) hs
  · exact absurd (hr.symm.trans hf) (by decide)

theorem examineMoves_tableSafe {k : Nat} (h : e.TableSafe v r) (hr : r = true) (hg : v.cfg.turntable = some g) :
    (Ev.examineMoves v g k e).TableSafe v r := by
  induction k generalizing e with
  | zero => exact h
  | succ k ih =>
    unfold Ev.examineMoves
    refine .ite ?_ h
    split
    · exact h
    next q _ _ =>
      split
      · exact ih (tellMove_tableSafe (setMoves_tableSafe h))
      next n side _ =>
        split
        · exact ih (tellMove_tableSafe (setMoves_tableSafe h))
        · split
          next hs =>
            obtain ⟨hp, hi⟩ := startConditions_facts h.sound hs
            exact startMove_tableSafe (setMoves_tableSafe h) hr hg hp hi
          · exact h

theorem examineTable_tableSafe (h : e.TableSafe v v.running) : (e.examineTable v).TableSafe v v.running := by
  unfold Ev.examineTable
  split
  next hr hg => exact examineMoves_tableSafe h hr hg
  · exact h

/-! ## Completion and lock confirm (R129, R141, R145) -/

/-- R145: a move that completes leaves the deck at rest. -/
theorem completeMove_deck (h : e.u.deckSound g) (hp : e.u.ttc.phase = .locking) : (e.completeMove v g).u.deckSound g := by
  unfold Ev.completeMove
  split
  · exact h
  next m _ =>
    have hunlock : e.u.ttc.unlockTime = none := by
      by_contra hu
      have := h.unlock (Option.isSome_iff_ne_none.2 hu)
      simp [hp] at this
    let a := (e.ttc fun t => { t with lockTime := none, alignedAt := some (m.road, m.bridge) }).setPhase v .aligned
    let d := if m.halfTurn then a.reverseDeck v g.deck else a
    have hd : d.u.ttc = { e.u.ttc with lockTime := none, alignedAt := some (m.road, m.bridge), phase := .aligned } := by
      have ha : a.u.ttc = { e.u.ttc with
        lockTime := none, alignedAt := some (m.road, m.bridge), phase := .aligned } := setPhase_ttc ..
      rw [← ha]
      show (if m.halfTurn then a.reverseDeck v g.deck else a).u.ttc = a.u.ttc
      split
      · exact (reverseDeck_goes ..).ttc_eq
      · rfl
    let f := (d.ttc fun t => { t with deckPower := true }).setHolder v g.deck .free
    have hf : f.u.ttc = { d.u.ttc with deckPower := true } := (setHolder_goes ..).ttc_eq
    have ht : ((f.ttc fun t => { t with current := none }).callExamine.tellMove v m.source (.aligned m.road m.bridge)).u.ttc
        = { e.u.ttc with lockTime := none, alignedAt := some (m.road, m.bridge), phase := .aligned, deckPower := true
                         current := none } := by
      rw [(tellMove_goes ..).ttc_eq]
      show { f.u.ttc with current := none } = _
      rw [hf, hd]
    refine deckSound_of_rest ?_ ?_ ?_ ?_ <;> dsimp only <;> rw [ht]
    exacts [rfl, hunlock, h.winding]

theorem confirmEngaged_tableSafe (h : e.TableSafe v r) (hg : v.cfg.turntable = some g) :
    (e.confirmEngaged v g).TableSafe v r := by
  have hs : (e.ttc fun t => { t with confirm := ⟨true, none⟩ }).TableSafe v r := h.course (ttc_goes ..) rfl
  unfold Ev.confirmEngaged
  dsimp only
  split
  · exact hs.course (ttc_goes ..) rfl
  next hp => exact hs.moved (completeMove_goes ..) (by rw [hp]; rfl) hg (completeMove_deck (hs.deck g hg) hp)
  all_goals exact hs

theorem unlocked_tableSafe (h : e.TableSafe v r) (hg : v.cfg.turntable = some g) (hp : e.u.ttc.phase = .unlocking) :
    (e.unlocked v g).TableSafe v r :=
  have ⟨hs, _, _, hl⟩ := h.geometry hg
  h.moved (unlocked_goes ..) (by rw [hp]; rfl) hg (unlocked_deck (h.deck g hg) hp hs hl)

theorem confirmWithdrawn_tableSafe (h : e.TableSafe v r) (hg : v.cfg.turntable = some g) :
    (e.confirmWithdrawn v g).TableSafe v r := by
  have hs : (e.ttc fun t => { t with confirm := ⟨false, none⟩ }).TableSafe v r := h.course (ttc_goes ..) rfl
  have hoff (e : Ev) (h : e.TableSafe v r) : (e.ttc fun t => { t with deckPower := false }).TableSafe v r :=
    h.course (ttc_goes ..) rfl
  unfold Ev.confirmWithdrawn
  dsimp only
  split
  · exact hoff _ hs
  · exact ((hoff _ hs).frame (link_setTurntableFault_goes ..)).frame (writeFault_goes ..)
  next hp => exact unlocked_tableSafe hs hg hp
  all_goals exact hs

theorem unlockExpiry_tableSafe (h : e.TableSafe v r) (hg : v.cfg.turntable = some g) :
    (e.unlockExpiry v g).TableSafe v r := by
  unfold Ev.unlockExpiry
  split
  next hu =>
    exact h.moved (tableFault_goes ..) (by rw [(h.deck g hg).unlock hu]; rfl) hg (tableFault_deck _ _)
  · exact h

theorem lockExpiry_tableSafe (h : e.TableSafe v r) (hg : v.cfg.turntable = some g) : (e.lockExpiry v g).TableSafe v r := by
  unfold Ev.lockExpiry
  split
  next hu =>
    exact h.moved (tableFault_goes ..) (by rw [(h.deck g hg).lock hu]; rfl) hg (tableFault_deck _ _)
  · exact h

/-! ## Abort and steps (R142 to R147) -/

theorem abortMove_tableSafe (h : e.TableSafe v r) : (e.abortMove v).TableSafe v r := by
  unfold Ev.abortMove
  split
  next g m hg hm =>
    have hd := h.deck g hg
    have ended (hl : e.u.ttc.phase ≠ .locking) (hi : e.u.ttc.phase.inMove = true) :
        (e.abortEnd v g { m with aborting := true }).TableSafe v r :=
      h.moved (abortEnd_goes ..) hi hg (abortEnd_deck (Option.not_isSome_iff_eq_none.1 fun hu => hl (hd.lock hu)) hd.winding)
    have ramped (hp : e.u.ttc.phase = .moving ∨ e.u.ttc.phase = .settling) (hi : e.u.ttc.phase.inMove = true) (x : Run)
        (hx : m.run = some x) : (e.rampDown v g m x).TableSafe v r :=
      h.moved (rampDown_goes ..) hi hg
        (rampDown_deck (underway_of_run hd (.inr hp)) hp fun hh hlim => hd.runs hp hh hlim m x hm hx)
    refine .ite h ?_
    split
    next hp => exact ended (by rw [hp]; nofun) (by rw [hp]; rfl)
    next hp => exact ended (by rw [hp]; nofun) (by rw [hp]; rfl)
    next hp =>
      split
      next x hx => exact ramped (.inl hp) (by rw [hp]; rfl) x hx
      · exact ended (by rw [hp]; nofun) (by rw [hp]; rfl)
    next hp =>
      split
      next x hx => exact ramped (.inr hp) (by rw [hp]; rfl) x hx
      · exact ended (by rw [hp]; nofun) (by rw [hp]; rfl)
    all_goals exact h
  · exact h

theorem stepExpiry_tableSafe {s : HomeSensor} (h : e.TableSafe v r) (hg : v.cfg.turntable = some g) :
    (e.stepExpiry v g s).TableSafe v r := by
  have hd := h.deck g hg
  have run (m : Move) (hm : e.u.ttc.current = some m) (hp : e.u.ttc.phase = .moving ∨ e.u.ttc.phase = .settling)
      (hi : e.u.ttc.phase.inMove = true) : (match m.run with
        | some x => e.runStep v g m x (indexRise v e.u.ttc s)
        | none => e).TableSafe v r := by
    split
    next x hx => exact h.moved (runStep_goes ..) hi hg (runStep_deck hd hp hm hx)
    · exact h
  unfold Ev.stepExpiry
  dsimp only
  split
  next m hp hm =>
    obtain ⟨hs, -, hhome, hl⟩ := h.geometry hg
    exact h.moved (homingStep_goes ..) (by rw [hp]; rfl) hg (homingStep_deck hd hp hm hs hhome hl)
  next m hp hm => exact run m hm (.inl hp) (by rw [hp]; rfl)
  next m hp hm => exact run m hm (.inr hp) (by rw [hp]; rfl)
  · exact h

/-! ## Requests, the stop state and the panel (R108 to R111, R130, R132, R150, R171 to R174) -/

theorem leaveFault_tableSafe (h : e.TableSafe v r) : (e.leaveFault v).TableSafe v r := by
  unfold Ev.leaveFault
  split
  next hp =>
    have ht := setPhase_ttc v .unhomed e
    refine h.turntable (setPhase_goes ..) (fun g hg => ?_) (fun hl => absurd hl (h.not_locked (by rw [hp]; nofun))) fun hf => ?_
    · have hd := h.deck g hg
      refine deckSound_of_rest ?_ ?_ ?_ ?_ <;> rw [ht]
      · rfl
      · exact Option.not_isSome_iff_eq_none.1 fun hu => nomatch hp.symm.trans (hd.unlock hu)
      · exact Option.not_isSome_iff_eq_none.1 fun hu => nomatch hp.symm.trans (hd.lock hu)
      · exact hd.winding
    · obtain ⟨-, -, hrest⟩ := h.before hf
      rw [ht]
      exact ⟨rfl, hrest⟩
  · exact h

theorem queueMove_tableSafe {q : MoveRequest} (h : e.TableSafe v r) : (e.queueMove v q).TableSafe v r :=
  setMoves_tableSafe h

theorem moveRequest_tableSafe {f : Frame} (h : e.TableSafe v r) : (e.moveRequest v f).TableSafe v r := by
  unfold Ev.moveRequest
  dsimp only
  split
  · exact tellMove_tableSafe h
  · split
    · exact tellMove_tableSafe h
    · exact .ite (tellMove_tableSafe (leaveFault_tableSafe h))
        (tellMove_tableSafe (queueMove_tableSafe (leaveFault_tableSafe h)))

theorem cancelMoves_tableSafe {f : Frame} (h : e.TableSafe v r) : (e.cancelMoves v f).TableSafe v r := by
  unfold Ev.cancelMoves
  dsimp only
  split
  · exact tellMove_tableSafe h
  · have hs := leaveFault_tableSafe h
    exact tellMove_tableSafe (((Ev.TableSafe.ite hs (setMoves_tableSafe hs)).foldl _ fun _ h _ _ =>
      .ite h (tellMove_tableSafe h)))

theorem setStop_tableSafe {y : StopState} (h : e.TableSafe v r) : (e.setStop v y).TableSafe v r := by
  have hs := (h.frame (stop_goes y e)).frame (callCompose_goes _)
  have hr := hs.frame (reevaluateSignals_goes v _)
  unfold Ev.setStop
  exact .ite h (.ite hs ((Ev.TableSafe.ite (abortMove_tableSafe hr) (hr.frame (callExamine_goes _))).frame (testBars_goes ..)))

theorem press_tableSafe {k : Nat} (h : e.TableSafe v r) : (e.press v k).TableSafe v r := by
  unfold Ev.press
  dsimp only
  split
  · exact h.frame (pressDepart_goes ..)
  · exact .ite (queueMove_tableSafe (h.frame (setButton_goes ..))) h
  · exact setStop_tableSafe h
  · exact h

theorem pressExpiry_tableSafe {k : Nat} (h : e.TableSafe v r) : (e.pressExpiry v k).TableSafe v r :=
  .ite (press_tableSafe (h.frame (setButton_goes ..))) h

end

end Sys2Proof.Machine


/-! Laws L6 and L7 (O6): the end of an event, whole events, start-up, the passing of a millisecond, and the steps. -/

namespace Sys2Proof.Machine

set_option Elab.async false

section
variable {v w : Env} {r : Bool} {e : Ev} {u : Units} {s : State} {f : Env → Ev → Ev}

/-! ## The end of an event (R75, R102, R119, R133) -/

/-- `Ev.start` drops what an event has called for, which the invariant does not speak of. -/
theorem restart_tableSafe (h : e.TableSafe v r) : (Ev.start e.u).TableSafe v r :=
  ⟨h.sound, h.config, h.deck, h.locked, h.claims, h.before⟩

theorem settle_tableSafe (h : e.TableSafe v v.running) : (Ev.start (settle v e)).TableSafe v v.running := by
  have hm : (e.settleMoves v).TableSafe v v.running := .ite (examineTable_tableSafe h) h
  have hs : ((e.settleMoves v).settleScan v).TableSafe v v.running := .ite (scanList_tableSafe hm) hm
  have hb := (((((hs.frame (testPossessions_goes _)).frame (settleSignals_goes v _)).frame (carryTimer_goes v _)).frame
    (notices_goes v _)).frame (settleBoard_goes v _)).frame (offerFrames_goes v _)
  rw [settle_eq]
  exact restart_tableSafe hb

/-! ## The invariant of a state -/

theorem start_tableSafe (h : s.sound) (ht : s.tableSound) : (Ev.start s.units).TableSafe s.env s.env.running where
  sound := h.units
  config := h.config
  deck := ht.deck
  locked := ht.locked
  claims := ht.claims
  before := ht.before

theorem become_tableSound {y : Sys} (he : (f ⟨y, s.pins⟩ (.start u)).TableSafe ⟨y, s.pins⟩ (Env.running ⟨y, s.pins⟩)) :
    (s.become y u f).tableSound := by
  have hs := settle_tableSafe he
  exact ⟨hs.deck, hs.locked, hs.claims, hs.before⟩

/-- A state that keeps the station's invariant, and laws L6 and L7 with what they rest on. -/
structure State.TableSafe (s : State) : Prop where
  sound : s.sound
  table : s.tableSound

theorem State.TableSafe.start (h : s.TableSafe) : (Ev.start s.units).TableSafe s.env s.env.running :=
  start_tableSafe h.sound h.table

theorem event_tableSound (h : s.TableSafe)
    (hf : (Ev.start s.units).TableSafe s.env s.env.running → (f s.env (.start s.units)).TableSafe s.env s.env.running) :
    (s.event f).tableSound := become_tableSound (f := f) (hf h.start)

theorem whenRunning_tableSound (h : s.TableSafe)
    (hf : s.env.running = true → ∀ e, e.TableSafe s.env s.env.running → (f s.env e).TableSafe s.env s.env.running) :
    (s.whenRunning f).tableSound := by
  unfold State.whenRunning
  split
  next hr => exact event_tableSound h (hf hr _)
  · exact h.table

theorem whenStarted_tableSound (h : s.TableSafe)
    (hf : ∀ e, e.TableSafe s.env s.env.running → (f s.env e).TableSafe s.env s.env.running) :
    (s.whenStarted f).tableSound := by
  unfold State.whenStarted
  split
  · exact event_tableSound h (hf _)
  · exact h.table

theorem whenTable_tableSound {f : Env → TurntableCfg → Ev → Ev} (h : s.TableSafe)
    (hf : ∀ g, s.env.cfg.turntable = some g → ∀ e, e.TableSafe s.env s.env.running →
      (f s.env g e).TableSafe s.env s.env.running) : (s.whenTable f).tableSound := by
  unfold State.whenTable
  split
  next g hg => exact whenRunning_tableSound h fun _ => hf g hg
  · exact h.table

/-- R186: the oldest frame leaves the receive queue. -/
theorem taken_tableSafe {x : RxFrame} {rest : List RxFrame} (h : s.TableSafe) (hx : s.units.lnk.rx = x :: rest) :
    ({ s with units.lnk.rx := rest } : State).TableSafe :=
  ⟨taken_sound h.sound hx, fun g hg => deckSound_congr (h.table.deck g hg) rfl id, h.table.locked, h.table.claims,
    h.table.before⟩

theorem takeFrame_tableSound {takes : Frame → Bool} {act : RxFrame → State → State} (h : s.TableSafe)
    (ha : ∀ x t, t.TableSafe → t.env = s.env → (act x t).tableSound) : (s.takeFrame takes act).tableSound := by
  unfold State.takeFrame
  split
  next x rest hx =>
    split
    · exact ha x _ (taken_tableSafe h hx) rfl
    · exact h.table
  · exact h.table

theorem takeStarted_tableSound {takes : Frame → Bool} {f : Env → RxFrame → Ev → Ev} (h : s.TableSafe)
    (hf : ∀ x e, e.TableSafe s.env s.env.running → (f s.env x e).TableSafe s.env s.env.running) :
    (s.takeStarted takes f).tableSound :=
  takeFrame_tableSound h fun x t ht hv => whenStarted_tableSound ht (by rw [hv]; exact hf x)

theorem takeRunning_tableSound {takes : Frame → Bool} {f : Env → RxFrame → Ev → Ev} (h : s.TableSafe)
    (hf : ∀ x e, e.TableSafe s.env s.env.running → (f s.env x e).TableSafe s.env s.env.running) :
    (s.takeRunning takes f).tableSound :=
  takeFrame_tableSound h fun x t ht hv => whenRunning_tableSound ht fun _ => by rw [hv]; exact hf x

/-- A change of the input lines changes nothing that laws L6 and L7 speak of. -/
theorem setPins_tableSafe {g : Pins → Pins} (h : s.TableSafe) : (s.setPins g).TableSafe :=
  ⟨setPins_sound h.sound, h.table.deck, h.table.locked, h.table.claims, h.table.before⟩

/-! ## Start-up, image, restart (R196 to R200) -/

/-- Before RUNNING, routes IDLE, no claim open and the deck at rest, laws L6 and L7 hold of any configuration. -/
theorem tableSafe_of_rest (hs : u.sound) (hc : Lawful v.cfg)
    (h : (∀ n, (u.route n).state = .idle ∧ (u.claim n).status = .none)
      ∧ u.ttc.phase.inMove = false ∧ u.ttc.homed = false ∧ u.ttc.unlockTime = none ∧ u.ttc.lockTime = none) :
    (Ev.start u).TableSafe v r := by
  obtain ⟨hidle, hp, hh, hu, hl⟩ := h
  refine ⟨hs, hc, fun g _ => deckSound_of_rest hp hu hl fun hx => absurd (hh.symm.trans hx) (by decide),
    fun n _ _ _ _ hx => absurd (hidle n).1 hx, fun n _ _ _ hx => absurd ((hidle n).2.symm.trans hx) (by decide),
    fun _ => ⟨hidle, hp, hh, hu, hl⟩⟩

theorem routesOf_idle (c : Config) (n : Nat) : ((routesOf c).getD n .initial).state = .idle := by
  unfold routesOf
  rw [List.getD_eq_getElem?_getD, List.getElem?_map]
  cases (List.range 64)[n]? with
  | none => rfl
  | some k =>
    simp only [Option.map_some, Option.getD_some]
    split <;> rfl

theorem powerUp_tableSound (s : State) (k : RestartCause) : (s.powerUp k).tableSound := by
  have h := tableSafe_of_rest (v := (s.powerUp k).env) (r := false) (u := (s.powerUp k).units)
    initial_units_sound (lawful_of_empty rfl rfl)
    ⟨fun n => ⟨congrArg Route.state (initial_route n), congrArg Claim.status (initial_claim n)⟩, rfl, rfl, rfl, rfl⟩
  exact ⟨h.deck, h.locked, h.claims, fun _ => h.before rfl⟩

theorem supplySettled_tableSound (h : s.TableSafe) : s.supplySettled.tableSound := by
  unfold State.supplySettled
  split
  next hp =>
    have hv : s.env.running = false := not_running_of_station (by rw [hp]; decide)
    exact become_tableSound (f := fun _ e => e) (tableSafe_of_rest h.sound.units h.sound.config (h.table.before hv))
  · exact h.table

/-- R197 to R199: the units of a station that has read an image. -/
theorem configured_tableSafe {c : Config} {l : Link} (h : s.TableSafe) (hv : s.env.running = false) (hl : l.sound)
    (hc : Lawful w.cfg) : (Ev.start { s.units.configured c with lnk := l }).TableSafe w r :=
  have ⟨hidle, hrest⟩ := h.table.before hv
  tableSafe_of_rest (configured_sound h.sound.units hl) hc ⟨fun n => ⟨routesOf_idle c n, (hidle n).2⟩, hrest⟩

theorem accepted_tableSound {i : Image} (h : s.TableSafe) (hv : s.env.running = false) (hi : imageFault i = none) :
    (s.accepted i).tableSound := by
  refine become_tableSound (f := fun v e => e.sendAnnounce v false) (Ev.TableSafe.frame ?_ (sendAnnounce_goes ..))
  exact configured_tableSafe h hv (watching_sound h.sound.units.2.2.1) (lawful_of_accepted hi)

theorem refused_tableSound {i : Image} {k : FaultKind} {x : Item} (h : s.TableSafe) (hv : s.env.running = false) :
    (s.refused i k x).tableSound := by
  refine become_tableSound (f := fun v e => (e.drawn.writeFault k x).sendAnnounce v true)
    (Ev.TableSafe.frame (((Ev.TableSafe.frame ?_ (drawn_goes _))).frame (writeFault_goes ..)) (sendAnnounce_goes ..))
  exact configured_tableSafe h hv (watching_sound h.sound.units.2.2.1) (lawful_of_empty rfl rfl)

theorem imageRead_tableSound {i : Image} (h : s.TableSafe) : (s.imageRead i).tableSound := by
  unfold State.imageRead
  split
  next hs =>
    have hv : s.env.running = false := not_running_of_station (by rw [hs]; decide)
    split
    next hi => exact accepted_tableSound h hv hi
    · exact refused_tableSound h hv
  · exact h.table

/-- R196: units at their restart values. -/
theorem restarted_rest (c : Config) (u : Units) :
    (∀ n, ((u.restarted c).route n).state = .idle ∧ ((u.restarted c).claim n).status = .none)
      ∧ (u.restarted c).ttc.phase.inMove = false ∧ (u.restarted c).ttc.homed = false
      ∧ (u.restarted c).ttc.unlockTime = none ∧ (u.restarted c).ttc.lockTime = none :=
  ⟨fun n => ⟨routesOf_idle c n, congrArg Claim.status (initial_claim n)⟩, rfl, rfl, rfl, rfl⟩

theorem restart_tableSound (h : s.TableSafe) : s.restart.tableSound :=
  become_tableSound (f := fun _ e => e)
    (tableSafe_of_rest (restarted_sound h.sound.units) h.sound.config (restarted_rest s.sys.cfg s.units))

theorem addressClash_tableSound (h : s.TableSafe) : s.addressClash.tableSound := by
  refine become_tableSound (f := fun v e => match v.sys.number with
    | some n => (e.writeFault .addressClash (.station n)).sendAnnounce v true
    | none => e) ?_
  have hs := tableSafe_of_rest (v := ⟨{ s.sys with station := .configFault, settle := none }, s.pins⟩)
    (r := Env.running ⟨{ s.sys with station := .configFault, settle := none }, s.pins⟩) (clash_sound h.sound.units)
    h.sound.config (restarted_rest s.sys.cfg s.units)
  dsimp only
  split
  · exact (hs.frame (writeFault_goes ..)).frame (sendAnnounce_goes ..)
  · exact hs

/-! ## Reception and transmission (R183 to R189) -/

/-- A change of the link that keeps its bounds. -/
theorem Ev.TableSafe.link {f : Link → Link} (h : e.TableSafe v r) (hf : e.u.lnk.sound → (f e.u.lnk).sound) :
    (e.link f).TableSafe v r := by
  obtain ⟨⟨hz, hc, hl, hn⟩, hx, hdeck, hlocked, hclaims, hbefore⟩ := h
  exact ⟨⟨hz, hc, hf hl, hn⟩, hx, fun g hg => deckSound_congr (hdeck g hg) rfl id, hlocked, hclaims, hbefore⟩

theorem frameEnd_tableSound {bytes : List Byte} {broken : Bool} (h : s.TableSafe) :
    (s.frameEnd bytes broken).tableSound := by
  unfold State.frameEnd
  dsimp only
  split
  · exact h.table
  · split
    · split
      · exact event_tableSound h fun hs => hs.link id
      · exact addressClash_tableSound h
    · exact event_tableSound h fun hs => (received_tableSafe hs fun f hf => judge_placed hf).link id

theorem frameSent_tableSafe (h : e.TableSafe v r) : e.frameSent.TableSafe v r := by
  unfold Ev.frameSent
  split
  · exact .ite (h.link id) h
  · exact h

/-- R189: the contents of a frame given up return to where they came from. -/
theorem giveBack_tableSafe {o : Origin} (h : e.TableSafe v r) : (e.link (Link.giveBack o)).TableSafe v r := by
  cases o with
  | blocks items => exact h.link fun ⟨hq, hc, hb, hs, ho⟩ => ⟨hq, hc, setUnion_rising hb, hs, ho⟩
  | signals items => exact h.link fun ⟨hq, hc, hb, hs, ho⟩ => ⟨hq, hc, hb, setUnion_rising hs, ho⟩
  | faultNotice c => exact h.frame (link_returnFaults_goes c e)
  | trackingNotice c => exact h.frame (link_returnTracking_goes c e)
  | linkNotice => exact h.frame (link_pend_goes .link e)
  | urgent | ordinary => exact h.link id

theorem collision_tableSafe (h : e.TableSafe v r) : e.collision.TableSafe v r := by
  unfold Ev.collision
  split
  · exact h
  next x _ =>
    exact .ite h (.ite (h.link id) (.ite (giveBack_tableSafe (o := x.origin)
      ((h.link (f := fun l => { l with inHand := none }) id).frame (link_raiseGiveUp_goes _)))
      ((h.link id).frame (drawn_goes _))))

/-! ## Entry into RUNNING (R199) -/

theorem readContacts_tableSafe (h : e.TableSafe v r) : (e.readContacts v).TableSafe v r := by
  refine h.foldl _ fun e h t _ => ?_
  dsimp only
  split
  · exact h
  next c _ =>
    have hs := h.frame (setTurnout_goes t
      (Turnout.start c.feedback (v.pins.normals.getD t false) (v.pins.reverses.getD t false)) e)
    exact .ite (enterFailed_tableSafe hs) hs

theorem readLock_tableSafe (h : e.TableSafe v r) : (e.readLock v).TableSafe v r :=
  .ite (h.course (ttc_goes ..) rfl) h

theorem enterRunning_tableSafe (h : e.TableSafe v r) : (e.enterRunning v).TableSafe v r :=
  ((((readLock_tableSafe ((readContacts_tableSafe (h.frame (readDetectors_goes v e))).frame (startProving_goes v _))).frame
    (readButtons_goes v _)).frame (startTimers_goes _)).frame (publishAll_goes v _)).frame (callCompose_goes _)

theorem settled_tableSound (h : s.TableSafe) : s.settled.tableSound := by
  unfold State.settled
  split
  next hs =>
    have hv : s.env.running = false := not_running_of_station (by rw [hs.1]; decide)
    exact become_tableSound (f := Ev.enterRunning)
      (enterRunning_tableSafe (tableSafe_of_rest h.sound.units h.sound.config (h.table.before hv)))
  · exact h.table

end
end Sys2Proof.Machine


/-! The passing of a millisecond, and every step keeps laws L6 and L7 (O6). -/

namespace Sys2Proof.Machine

set_option Elab.async false

section
variable {v : Env} {r : Bool} {e : Ev} {u u' : Units} {s : State}

/-! ## A millisecond -/

/-- A default that the map leaves as it is stays the default. -/
theorem getD_map_of_fixed {α : Type} {l : List α} {f : α → α} {d : α} {n : Nat} (hd : f d = d) :
    (l.map f).getD n d = f (l.getD n d) := by
  conv_lhs => rw [← hd]
  exact List.getD_map ..

/-- R71: a route's timer counts one more. -/
def Route.tick (x : Route) : Route := { x with approach := Timer.tick x.approach }

/-- R84, R87: a claim's timers count one more. -/
def Claim.tick (x : Claim) : Claim := { x with answer := Timer.tick x.answer, wait := Timer.tick x.wait }

theorem tick_route (n : Nat) : u.tick.route n = (u.route n).tick :=
  getD_map_of_fixed (l := u.ilk.routes) (f := Route.tick) rfl

theorem tick_claim (n : Nat) : u.tick.claim n = (u.claim n).tick :=
  getD_map_of_fixed (l := u.clu.claims) (f := Claim.tick) rfl

theorem running_of_tick {t : Timer} (h : (Timer.tick t).isSome = true) : t.isSome = true := by
  rwa [Timer.tick, Option.isSome_map] at h

/-- Laws L6 and L7 read of the two timers of the lock only whether they run. -/
theorem tick_deck {g : TurntableCfg} (h : u.deckSound g) : u.tick.deckSound g where
  held     := h.held
  unlock x := h.unlock (running_of_tick x)
  lock x   := h.lock (running_of_tick x)
  winding  := h.winding
  unhomed  := h.unhomed
  homing   := h.homing
  planned  := h.planned
  ahead    := h.ahead
  runs     := h.runs

theorem tick_tableSafe (h : (Ev.start u).TableSafe v r) : (Ev.start u.tick).TableSafe v r where
  sound := tick_sound h.sound
  config := h.config
  deck g hg := tick_deck (h.deck g hg)
  locked n c q hk hq hx := h.locked n c q hk hq fun hi => hx ((congrArg Route.state (tick_route n)).trans hi)
  claims n c hk hf ha := (congrArg Route.state (tick_route n)).trans
    (h.claims n c hk hf ((congrArg Claim.status (tick_claim n)).symm.trans ha))
  before hf := by
    obtain ⟨hi, hp, hm, hu, hl⟩ := h.before hf
    exact ⟨fun n => ⟨(congrArg Route.state (tick_route n)).trans (hi n).1,
      (congrArg Claim.status (tick_claim n)).trans (hi n).2⟩, hp, hm, congrArg Timer.tick hu, congrArg Timer.tick hl⟩

theorem tickMirrors_tableSafe (h : (Ev.start u).TableSafe v r) : (Ev.start u.tickMirrors).TableSafe v r :=
  { h with sound := tickMirrors_sound h.sound
           deck := fun g hg => deckSound_congr (h.deck g hg) rfl id }

theorem tickTimers_tableSafe (h : s.TableSafe) : s.tickTimers.TableSafe := by
  refine ⟨tickTimers_sound h.sound, ?_⟩
  have ht : (Ev.start s.tickTimers.units).TableSafe s.env s.env.running := by
    show (Ev.start (if s.sys.mirrors then s.units.tick.tickMirrors else s.units.tick)).TableSafe s.env s.env.running
    split
    · exact tickMirrors_tableSafe (tick_tableSafe h.start)
    · exact tick_tableSafe h.start
  exact ⟨ht.deck, ht.locked, ht.claims, ht.before⟩

theorem count_tableSound (h : s.tableSound) : s.count.tableSound := by
  unfold State.count
  split
  · exact ⟨fun g hg => deckSound_congr (h.deck g hg) rfl id, h.locked, h.claims, h.before⟩
  · exact h

/-! ## The commands -/

/-- An outcome after which laws L6 and L7 hold. -/
def TableSoundAfter (o : Host.Outcome State Fault Refusal) : Prop := ∀ t, o = .next t → t.tableSound

theorem next_tableSound (h : s.tableSound) : TableSoundAfter (.next s) := fun t ht => by
  cases ht
  exact h

theorem listening_tableSound {f : Env → Ev → Ev} (h : s.TableSafe)
    (hf : ∀ e, e.TableSafe s.env s.env.running → (f s.env e).TableSafe s.env s.env.running) :
    (if s.env.listens then s.event f else s).tableSound := by
  split
  · exact event_tableSound h (hf _)
  · exact h.table

/-- R129, log entry 31: the filtered lock confirm shows a level, and its line follows. -/
theorem lockShows_tableSound {p : Prop} [Decidable p] {g : Pins → Pins} {f : Env → TurntableCfg → Ev → Ev} (h : s.TableSafe)
    (hf : ∀ v c e, v.cfg.turntable = some c → e.TableSafe v v.running → (f v c e).TableSafe v v.running) :
    (if p then (s.setPins g).whenTable f else s).tableSound := by
  split
  · exact whenTable_tableSound (setPins_tableSafe h) fun c hc e k => hf _ c e hc k
  · exact h.table

theorem exec_tableSound (c : Instr) (h : s.TableSafe) : TableSoundAfter (exec c s) := by
  cases c with
  | powerOn => exact next_tableSound (powerUp_tableSound s _)
  | resetPin => exact next_tableSound (powerUp_tableSound s _)
  | supplySettled => exact next_tableSound (supplySettled_tableSound h)
  | imageReadComplete i => exact next_tableSound (imageRead_tableSound h)
  | settleTimerExpiry => exact next_tableSound (settled_tableSound h)
  | restart =>
    exact next_tableSound (takeFrame_tableSound h fun x t ht _ => by
      split
      · exact restart_tableSound ht
      · exact ht.table)
  | detectorRiseExpiry n => exact next_tableSound (whenRunning_tableSound h fun _ e k => riseExpiry_tableSafe k)
  | detectorDropExpiry n => exact next_tableSound (whenRunning_tableSound h fun _ e k => dropExpiry_tableSafe k)
  | republishTimerExpiry => exact next_tableSound (whenRunning_tableSound h fun _ e k => k.frame (republish_goes _ e))
  | mirrorLapse m => exact next_tableSound (whenStarted_tableSound h fun e k => mirrorLapse_tableSafe k)
  | deckCarryLapse => exact next_tableSound (whenRunning_tableSound h fun _ e k => k.frame (carryLapse_goes _ e))
  | tagSet => exact next_tableSound (takeStarted_tableSound h fun x e k => k.frame (tagSet_goes _ x.frame e))
  | turnoutFeedbackChange t n r =>
    refine next_tableSound ?_
    split
    · exact event_tableSound (setPins_tableSafe h) feedbackChange_tableSafe
    · exact h.table
  | turnoutRequest => exact next_tableSound (takeStarted_tableSound h fun x e k => turnoutRequest_tableSafe k)
  | solenoidPulseEnd => exact next_tableSound (whenRunning_tableSound h fun _ e k => pulseEnd_tableSafe k)
  | cduRechargeExpiry => exact next_tableSound (whenRunning_tableSound h fun _ e k => k.frame (rechargeExpiry_goes _ e))
  | confirmWindowExpiry t => exact next_tableSound (whenRunning_tableSound h fun _ e k => windowExpiry_tableSafe k)
  | motorTimeoutExpiry t => exact next_tableSound (whenRunning_tableSound h fun _ e k => motorExpiry_tableSafe k)
  | routeRequest => exact next_tableSound (takeStarted_tableSound h fun x e k => routeRequest_tableSafe k)
  | routeCancel => exact next_tableSound (takeStarted_tableSound h fun x e k => routeCancel_tableSafe k)
  | approachReleaseExpiry n => exact next_tableSound (whenRunning_tableSound h fun _ e k => approachExpiry_tableSafe k)
  | claimAnswerGrant => exact next_tableSound (takeStarted_tableSound h fun x e k => claimGrant_tableSafe k)
  | claimAnswerRefuse =>
    exact next_tableSound (takeStarted_tableSound h fun x e k => .ite (claimRefuse_tableSafe k) k)
  | claimAnswerTimeout n =>
    exact next_tableSound (whenRunning_tableSound h fun hr e k => answerTimeout_tableSafe k hr)
  | ownerWaitExpiry n => exact next_tableSound (whenRunning_tableSound h fun hr e k => ownerWaitExpiry_tableSafe k hr)
  | claimBlockListReceived bytes =>
    exact next_tableSound (whenRunning_tableSound h fun _ e k => blockListReceived_tableSafe k)
  | claimRequestTaken => exact next_tableSound (takeStarted_tableSound h fun x e k => claimRequest_tableSafe k)
  | claimRelease => exact next_tableSound (takeStarted_tableSound h fun x e k => claimRelease_tableSafe k)
  | claimPurge => exact next_tableSound (takeStarted_tableSound h fun x e k => claimPurge_tableSafe k)
  | approachControlExpiry n =>
    exact next_tableSound (whenRunning_tableSound h fun _ e k => k.frame (releaseControl_goes n e))
  | lampProvingExpiry n => exact next_tableSound (whenRunning_tableSound h fun _ e k => k.frame (lampProven_goes _ n e))
  | zoneStop => exact next_tableSound (takeStarted_tableSound h fun x e k => setStop_tableSafe k)
  | zoneResume => exact next_tableSound (takeStarted_tableSound h fun x e k => setStop_tableSafe k)
  | watchSet => exact next_tableSound (takeStarted_tableSound h fun x e k => k.frame (watchSet_goes _ x.frame e))
  | watchClear => exact next_tableSound (takeStarted_tableSound h fun x e k => k.frame (watchClear_goes _ x.frame e))
  | turntableMove => exact next_tableSound (takeStarted_tableSound h fun x e k => moveRequest_tableSafe k)
  | turntableSwap => exact next_tableSound (takeStarted_tableSound h fun x e k => moveRequest_tableSafe k)
  | turntableCancelAll => exact next_tableSound (takeStarted_tableSound h fun x e k => cancelMoves_tableSafe k)
  | lockConfirmWithdrawn =>
    exact next_tableSound (lockShows_tableSound h fun v g e hg k => confirmWithdrawn_tableSafe k hg)
  | lockConfirmEngaged =>
    exact next_tableSound (lockShows_tableSound h fun v g e hg k => confirmEngaged_tableSafe k hg)
  | unlockConfirmExpiry => exact next_tableSound (whenTable_tableSound h fun g hg e k => unlockExpiry_tableSafe k hg)
  | stepIntervalExpiry home =>
    have hs : (s.whenTable fun v g => Ev.stepExpiry v g home).tableSound :=
      whenTable_tableSound h fun g hg e k => stepExpiry_tableSafe k hg
    exact next_tableSound ⟨hs.deck, hs.locked, hs.claims, hs.before⟩
  | lockConfirmExpiry => exact next_tableSound (whenTable_tableSound h fun g hg e k => lockExpiry_tableSafe k hg)
  | scaleRollover => exact next_tableSound (whenRunning_tableSound h fun _ e k => scaleRollover_tableSafe k)
  | clockSet => exact next_tableSound (takeRunning_tableSound h fun x e k => clockSet_tableSafe k)
  | clockControlRun =>
    exact next_tableSound (takeRunning_tableSound h fun x e k => k.frame (clockControl_goes _ x.frame _ _ e))
  | clockControlStop =>
    exact next_tableSound (takeRunning_tableSound h fun x e k => k.frame (clockControl_goes _ x.frame _ _ e))
  | clockBeacon => exact next_tableSound (takeRunning_tableSound h fun x e k => clockBeacon_tableSafe k)
  | timetableLoad => exact next_tableSound (takeStarted_tableSound h fun x e k => timetableLoad_tableSafe k)
  | timetableCancel => exact next_tableSound (takeStarted_tableSound h fun x e k => timetableCancel_tableSafe k)
  | buttonPress b => exact next_tableSound (whenRunning_tableSound h fun _ e k => pressExpiry_tableSafe k)
  | buttonReleaseFilter b => exact next_tableSound (whenRunning_tableSound h fun _ e k => k.frame (releaseExpiry_goes b e))
  | guardExpiry b => exact next_tableSound (whenRunning_tableSound h fun _ e k => k.frame (guardExpiry_goes b e))
  | lampFlashExpiry b => exact next_tableSound (whenRunning_tableSound h fun _ e k => k.frame (flashExpiry_goes b e))
  | boardRowSent => exact next_tableSound (event_tableSound h fun k => k.frame (rowSent_goes _))
  | boardRefreshExpiry => exact next_tableSound (whenRunning_tableSound h fun _ e k => k.frame (refreshRows_goes e))
  | frameEnd bytes broken => exact next_tableSound (frameEnd_tableSound h)
  | occupancyReportTaken => exact next_tableSound (takeStarted_tableSound h fun x e k => occupancyReport_tableSafe k)
  | aspectReportTaken => exact next_tableSound (takeStarted_tableSound h fun x e k => aspectReport_tableSafe k)
  | announceTaken => exact next_tableSound (takeStarted_tableSound h fun x e k => announce_tableSafe k)
  | refreshQuery => exact next_tableSound (takeRunning_tableSound h fun x e k => k.frame (refreshQuery_goes _ e))
  | statusQuery =>
    exact next_tableSound (takeFrame_tableSound h fun x t ht _ =>
      listening_tableSound ht fun e k => k.frame (statusQuery_goes _ x.frame e))
  | urgentGapReached => exact next_tableSound (listening_tableSound h fun e k => k.frame (urgentGap_goes e))
  | ordinaryGapReached => exact next_tableSound (listening_tableSound h fun e k => k.frame (ordinaryGap_goes e))
  | frameSent => exact next_tableSound (event_tableSound h fun k => frameSent_tableSafe k)
  | collision => exact next_tableSound (event_tableSound h fun k => collision_tableSafe k)
  | backoffRetry => exact next_tableSound (event_tableSound h fun k => k.frame (backoffRetry_goes _))
  | detectorInputChange n level =>
    exact next_tableSound (whenRunning_tableSound (setPins_tableSafe h) fun _ e k => k.frame (detectorInput_goes _ n level e))
  | turnoutContactInputChange t x level =>
    exact next_tableSound (whenRunning_tableSound (setPins_tableSafe h) fun _ e k => k.frame (contactInput_goes _ t x level e))
  | redLampInputChange n level =>
    exact next_tableSound (whenRunning_tableSound (setPins_tableSafe h) fun _ e k => k.frame (lampInput_goes _ n level e))
  | lockConfirmInputChange level =>
    exact next_tableSound (whenTable_tableSound (setPins_tableSafe h) fun g _ e k => k.course (ttc_goes ..) rfl)
  | buttonInputChange b level =>
    exact next_tableSound (whenRunning_tableSound (setPins_tableSafe h) fun _ e k => k.frame (buttonInput_goes _ b level e))
  | lineStartBit => exact next_tableSound (listening_tableSound h fun e k => k.link id)

/-! ## One step -/

theorem idle_tableSound (h : s.TableSafe) : TableSoundAfter (idle s) := by
  unfold idle
  split
  · exact exec_tableSound _ h
  · split
    · exact exec_tableSound _ (tickTimers_tableSafe h)
    · exact next_tableSound (count_tableSound (tickTimers_tableSafe h).table)

theorem step_tableSound (h : s.TableSafe) : TableSoundAfter (step s) := by
  unfold step
  split
  · exact exec_tableSound _ ⟨{ h.sound with drives := { h.sound.drives with } }, { h.table with }⟩
  · exact idle_tableSound h

end

/-- Settles O6: laws L6 and L7, with what they rest on, are inductive over the commands and the passing of a
millisecond. -/
theorem everyStepKeepsLawsL6AndL7 : Obligations.EveryStepKeepsLawsL6AndL7 :=
  fun _ _ hs hl ht => step_tableSound ⟨hs, hl⟩ _ ht

end Sys2Proof.Machine


/-! Events that take a frame and do no more than tell of it, and ROUTE REQUEST refused (O26). -/

namespace Sys2Proof.Machine

set_option Elab.async false

/-! ## A frame of the ordinary class sent (R190, R193) -/

section
variable {v : Env} {e : Ev} {m d : Nat} {k : FrameKind} {p : List Byte}

theorem send_ordinary_carries (hn : v.sys.number = some m) (hk : k.urgent = false) (hq : e.u.lnk.ordinary.length < 16) :
    (e.send v d k p).u.lnk.carries ⟨d, m, k, p⟩ := by
  rw [send_ordinary hn hk hq]
  exact .inl (by simp [Ev.link])

/-- With room in the ordinary queue no overflow is counted. -/
theorem send_goes_of_room (hn : v.sys.number = some m) (hk : k.urgent = false) (hq : e.u.lnk.ordinary.length < 16) :
    Ev.Goes [.transmitter] e (e.send v d k p) where
  keeps q hp := by
    rw [send_ordinary hn hk hq]
    cases q with
    | transmitter => exact absurd List.mem_cons_self hp
    | _ => simp [Part.agree, Ev.link]
  sound := (send_goes v d k p e).sound
  onward := (send_goes v d k p e).onward

theorem send_silent (h : e.Silent) : (e.send v d k p).Silent := by
  unfold Ev.send
  split
  · exact h.units _
  · exact h

end

/-! ## A frame taken (R186) -/

section
variable {s : State} {x : RxFrame} {rest : List RxFrame} {m d : Nat} {k : FrameKind} {p : List Byte} {g : RxFrame → Env → Ev → Ev}

/-- What the taking of the oldest frame does when the frame is of the kind that the command takes. -/
theorem takeStarted_of_takes {takes : Frame → Bool} (hm : s.env.mirrors = true) (hx : s.units.lnk.rx = x :: rest)
    (ht : takes x.frame = true) : s.takeStarted takes (fun v x => g x v)
      = ({ s with units := s.taken rest } : State).event (g x) :=
  (takeFrame_of_takes hx ht _).trans (whenStarted_of_mirrors (s := { s with units := s.taken rest }) hm (g x))

/-- An event that makes a change that calls for nothing, and then sends a frame of the ordinary class. -/
theorem event_of_change_and_send {ps : List Part} {w : Ev} {f : Env → Ev → Ev} (hc : s.canSend m) (hk : k.urgent = false)
    (hw : w.Silent) (hg : Ev.Goes ps (.start s.units) w) (hp : .transmitter ∉ ps)
    (hf : f s.env (.start s.units) = w.send s.env d k p) :
    (s.event f).units.lnk.carries ⟨d, m, k, p⟩ ∧ Goes Part.ofEnd w.u (s.event f).units
      ∧ s.units.keepsBut (ps ++ Part.ofEnd) (s.event f).units := by
  obtain ⟨hn, hq⟩ := hc
  have ht : Part.agree s.units w.u .transmitter := hg.keeps .transmitter hp
  obtain ⟨-, ho, -⟩ := ht
  have hroom : w.u.lnk.ordinary.length < 16 := by
    rw [ho]
    exact hq
  have hend : Goes Part.ofEnd (w.send s.env d k p).u (s.event f).units := by
    show Goes Part.ofEnd _ (settle s.env (f s.env (.start s.units)))
    rw [hf]
    exact settle_silent (send_silent hw)
  have hafter : Goes Part.ofEnd w.u (s.event f).units :=
    (Goes.mono (send_goes_of_room hn hk hroom) (by decide)).after hend fun _ h => h
  exact ⟨hend.onward.frames _ (send_ordinary_carries hn hk hroom), hafter,
    ((Goes.mono hg fun q hq => List.mem_append_left _ hq).after hafter fun q hq => List.mem_append_right _ hq).keeps⟩

/-- An event that only sends a frame of the ordinary class changes nothing but the queue, and what every end may. -/
theorem event_of_send {f : Env → Ev → Ev} (hc : s.canSend m) (hk : k.urgent = false)
    (hf : f s.env (.start s.units) = (Ev.start s.units).send s.env d k p) :
    (s.event f).units.lnk.carries ⟨d, m, k, p⟩ ∧ s.units.keepsBut Part.ofEnd (s.event f).units :=
  have ⟨hsent, _, hkeeps⟩ := event_of_change_and_send hc hk (silent_start _) (.refl [] _) (by decide) hf
  ⟨hsent, hkeeps⟩

end

/-! ## The checks on a route (R55 to R58) -/

section
variable {v : Env} {u : Units} {r : RouteCfg} {n b k : Nat} {p : Pos} {c : Code}

theorem blockTest_eq_none_iff : blockTest u b = none
    ↔ (u.block b).holder = .free ∧ (u.block b).occupied = false ∧ u.inPossession b = false := by
  unfold blockTest
  cases (u.block b).holder with
  | free => cases (u.block b).occupied <;> cases u.inPossession b <;> simp
  | _ => simp

/-- R57: a path turnout may be had. -/
def Units.turnoutOpen (u : Units) (y : Nat × Pos) : Prop :=
  (u.turnout y.1).state ≠ .failed ∧ (u.turnout y.1).pathHolder = none
    ∧ ((u.turnout y.1).flankCount = 0 ∨ (u.turnout y.1).commanded = y.2)

/-- R57: a turnout would have to move, and a train stands on it. -/
def Units.blockedMove (v : Env) (u : Units) (y : Nat × Pos) : Prop :=
  (u.turnout y.1).state ≠ .at y.2 ∧ ∃ c, v.cfg.turnout y.1 = some c ∧ (u.block c.owning).occupied = true

theorem pathTurnoutTest_of_failed (h : (u.turnout k).state = .failed) : pathTurnoutTest u k p = some .turnoutFailed :=
  if_pos h

theorem flankTurnoutTest_of_failed (h : (u.turnout k).state = .failed) : flankTurnoutTest v u k p = some .turnoutFailed :=
  if_pos h

/-- What the two tests ask of holders and flank count, as one condition. -/
theorem turnoutOpen_iff (h : (u.turnout k).state ≠ .failed) : u.turnoutOpen (k, p)
    ↔ ¬ ((u.turnout k).pathHolder.isSome = true ∨ 0 < (u.turnout k).flankCount ∧ (u.turnout k).commanded ≠ p) := by
  simp only [Units.turnoutOpen, not_or, not_and, not_not, Bool.not_eq_true, Option.isSome_eq_false_iff,
    Option.isNone_iff_eq_none, Nat.pos_iff_ne_zero]
  refine ⟨fun ⟨_, hp, hc⟩ => ⟨hp, fun h0 => hc.resolve_left h0⟩, fun ⟨hp, hc⟩ => ⟨h, hp, ?_⟩⟩
  by_cases h0 : (u.turnout k).flankCount = 0
  · exact .inl h0
  · exact .inr (hc h0)

theorem pathTurnoutTest_of_open (h : u.turnoutOpen (k, p)) : pathTurnoutTest u k p = none := by
  unfold pathTurnoutTest
  rw [if_neg h.1, if_neg ((turnoutOpen_iff h.1).1 h)]

theorem pathTurnoutTest_of_conflict (hf : (u.turnout k).state ≠ .failed) (h : ¬ u.turnoutOpen (k, p)) :
    pathTurnoutTest u k p = some .conflict := by
  unfold pathTurnoutTest
  rw [if_neg hf, if_pos (not_not.1 (mt (turnoutOpen_iff hf).2 h))]

/-- R57 check 6 past its first two conditions. -/
theorem flankTurnoutTest_of_open (h : u.turnoutOpen (k, p)) (h4 : (u.turnout k).flankCount < 4) :
    flankTurnoutTest v u k p = if u.provenIn k p = false
      ∧ (v.cfg.turnout k).any (fun c => (u.block c.owning).occupied) = true then some .flank else none := by
  obtain ⟨hp, hc⟩ := not_or.1 ((turnoutOpen_iff h.1).1 h)
  unfold flankTurnoutTest
  rw [if_neg h.1, if_neg hp, if_neg (not_or.2 ⟨hc, Nat.not_le.2 h4⟩)]

theorem flankTurnoutTest_of_conflict (hf : (u.turnout k).state ≠ .failed)
    (h : ¬ u.turnoutOpen (k, p) ∨ 4 ≤ (u.turnout k).flankCount) : flankTurnoutTest v u k p = some .conflict := by
  unfold flankTurnoutTest
  rw [if_neg hf]
  by_cases hp : (u.turnout k).pathHolder.isSome = true
  · exact if_pos hp
  · refine (if_neg hp).trans (if_pos (h.imp_left fun ho => ?_))
    exact (not_not.1 (mt (turnoutOpen_iff hf).2 ho)).resolve_left hp

theorem blockedMove_iff : u.blockedMove v (k, p)
    ↔ u.provenIn k p = false ∧ (v.cfg.turnout k).any (fun c => (u.block c.owning).occupied) = true := by
  rw [← Bool.not_eq_true, provenIn_iff, Option.any_eq_true]
  rfl

/-! ## The first check that fails (R56) -/

theorem findSome?_of_first {α β : Type} {f : α → Option β} {l before after : List α} {y : α} {z : β}
    (hl : l = before ++ y :: after) (hb : ∀ a ∈ before, f a = none) (hy : f y = some z) : l.findSome? f = some z := by
  rw [hl, List.findSome?_append, List.findSome?_eq_none_iff.2 hb, Option.none_or,
    List.findSome?_cons_of_isSome (by rw [hy]; rfl), hy]

/-- The items of a list with the code that a test gives them: none of them has one. -/
theorem findSome?_of_passed {α : Type} {f : α → Option Code} {g : α → Item} {l : List α} (h : ∀ a ∈ l, f a = none) :
    (l.findSome? fun a => (f a).map fun c => (c, g a)) = none :=
  List.findSome?_eq_none_iff.2 fun a ha => by rw [h a ha]; rfl

/-- The items of a list with the code that a test gives them: `y` is the first that has one. -/
theorem findSome?_of_failed {α : Type} {f : α → Option Code} {g : α → Item} {l before after : List α} {y : α}
    (hl : l = before ++ y :: after) (hb : ∀ a ∈ before, f a = none) (hy : f y = some c) :
    (l.findSome? fun a => (f a).map fun c => (c, g a)) = some (c, g y) :=
  findSome?_of_first hl (fun a ha => by rw [hb a ha]; rfl) (by rw [hy]; rfl)

theorem trackChecks_of_block {before after : List Nat} (hl : r.path ++ r.overlap.toList = before ++ b :: after)
    (hb : ∀ a ∈ before, blockTest u a = none) (hy : blockTest u b = some c) : trackChecks v u r = some (c, .block b) := by
  rw [trackChecks, findSome?_of_failed hl hb hy]
  rfl

theorem trackChecks_of_pathTurnout {before after : List (Nat × Pos)} {y : Nat × Pos}
    (hblocks : ∀ a ∈ r.path ++ r.overlap.toList, blockTest u a = none) (hl : r.turnouts = before ++ y :: after)
    (hb : ∀ z ∈ before, pathTurnoutTest u z.1 z.2 = none) (hy : pathTurnoutTest u y.1 y.2 = some c) :
    trackChecks v u r = some (c, .turnout y.1) := by
  rw [trackChecks, findSome?_of_passed hblocks, findSome?_of_failed hl hb hy]
  rfl

theorem trackChecks_of_flankTurnout {before after : List (Nat × Pos)} {y : Nat × Pos}
    (hblocks : ∀ a ∈ r.path ++ r.overlap.toList, blockTest u a = none)
    (hpath : ∀ z ∈ r.turnouts, pathTurnoutTest u z.1 z.2 = none) (hl : r.flank = before ++ y :: after)
    (hb : ∀ z ∈ before, flankTurnoutTest v u z.1 z.2 = none) (hy : flankTurnoutTest v u y.1 y.2 = some c) :
    trackChecks v u r = some (c, .turnout y.1) := by
  rw [trackChecks, findSome?_of_passed hblocks, findSome?_of_passed hpath, findSome?_of_failed hl hb hy]
  rfl

theorem trackChecks_of_table {q : Nat × BridgeEnd} (hblocks : ∀ a ∈ r.path ++ r.overlap.toList, blockTest u a = none)
    (hpath : ∀ z ∈ r.turnouts, pathTurnoutTest u z.1 z.2 = none)
    (hflank : ∀ z ∈ r.flank, flankTurnoutTest v u z.1 z.2 = none) (hq : r.turntable = some q)
    (h : u.ttc.phase ≠ .aligned ∨ u.ttc.alignedAt ≠ some q) :
    trackChecks v u r = some (.turntableNotReady, .road q.1) := by
  have ht : tableTest u r.turntable = some (.turntableNotReady, .road q.1) := by
    rw [hq]
    refine if_neg ?_
    rw [tableReady, Bool.and_eq_true, beq_iff_eq, beq_iff_eq]
    exact not_and_or.2 h
  rw [trackChecks, findSome?_of_passed hblocks, findSome?_of_passed hpath, findSome?_of_passed hflank, ht]
  rfl

theorem acceptance_of_bad (hr : v.running = true) (h : 64 ≤ n ∨ v.cfg.route n = none) :
    acceptance v u n = .error (.badItem, .route n) := by
  unfold acceptance
  rw [if_neg (by simp [hr])]
  by_cases hn : 64 ≤ n
  · exact if_pos hn
  · rw [if_neg hn, h.resolve_left hn]

theorem acceptance_of_busy (hr : v.running = true) (hn : n < 64) (hc : v.cfg.route n = some r)
    (hb : (u.route n).state ≠ .idle) : acceptance v u n = .error (.busy, .route n) := by
  simp only [acceptance, hr, Nat.not_le.2 hn, hc, hb, Bool.not_true, Bool.false_eq_true, if_false, ne_eq, not_false_eq_true,
    if_true]

theorem acceptance_of_trackChecks {x : Code × Item} (hr : v.running = true) (hn : n < 64) (hc : v.cfg.route n = some r)
    (hi : (u.route n).state = .idle) (h : trackChecks v u r = some x) : acceptance v u n = .error x := by
  simp only [acceptance, hr, Nat.not_le.2 hn, hc, hi, h, Bool.not_true, Bool.false_eq_true, if_false, ne_eq, not_true_eq_false]

end

section
variable {s : State} {x : RxFrame} {rest : List RxFrame} {m : Nat} {c : Code} {item : Item}

theorem routeRequest_of_failing {v : Env} {e : Ev} {f : Frame}
    (h : acceptance v e.u (payloadAt f.payload 0) = .error (c, item)) : e.routeRequest v f
      = e.reportCode v (.station f.src) (payloadAt f.payload 0) .refused c item 0 := by
  simp only [Ev.routeRequest, h]

/-- R55, R56: a ROUTE REQUEST that fails a check is told so, and changes nothing else. -/
theorem routeRequest_refused (hm : s.env.mirrors = true) (hx : s.units.lnk.rx = x :: rest)
    (hk : x.frame.kind = .routeRequest) (hc : s.canSend m)
    (ha : acceptance s.env s.units (payloadAt x.frame.payload 0) = .error (c, item)) :
    ∃ t, exec .routeRequest s = .next t
      ∧ t.units.lnk.carries ⟨x.frame.src, m, .routeReport,
          routeReportPayload (payloadAt x.frame.payload 0) .refused c.value item 0⟩
      ∧ (s.taken rest).keepsBut Part.ofEnd t.units := by
  refine ⟨_, congrArg Host.Outcome.next (takeStarted_of_takes (g := fun x v e => e.routeRequest v x.frame) hm hx
    (by simp [ofKind, hk])), event_of_send (s := { s with units := s.taken rest }) hc rfl ?_⟩
  exact routeRequest_of_failing (e := .start (s.taken rest)) ha

end

/-- Settles O26: each failing check is the one that `acceptance` finds first. -/
theorem routeRequestRefused : Obligations.RouteRequestRefused := by
  intro s x rest m hm hx hk hc n refused
  have told {c : Code} {item : Item} (h : acceptance s.env s.units n = .error (c, item)) : refused c item :=
    routeRequest_refused hm hx hk hc h
  refine ⟨fun hr => told (if_pos (by simp [State.env, Env.running, hr])),
    fun hr hn => told (acceptance_of_bad (running_env hr) hn), fun r hr hn hcfg => ?_⟩
  have fails (hi : (s.units.route n).state = .idle) {c : Code} {item : Item}
      (h : trackChecks s.env s.units r = some (c, item)) : refused c item :=
    told (acceptance_of_trackChecks (running_env hr) hn hcfg hi h)
  refine ⟨fun hb => told (acceptance_of_busy (running_env hr) hn hcfg hb),
    fun hi before b after hl hbefore => ?_, fun hi hblocks => ?_, fun c item => told⟩
  · have hfirst {c : Code} (h : blockTest s.units b = some c) : refused c (.block b) :=
      fails hi (trackChecks_of_block hl (fun a ha => blockTest_eq_none_iff.2 (hbefore a ha)) h)
    unfold blockTest at hfirst
    cases hh : (s.units.block b).holder with
    | arrivalHold k => exact hfirst (by rw [hh])
    | route k => exact hfirst (by rw [hh])
    | foreignClaim k g => exact hfirst (by rw [hh])
    | turntable => exact hfirst (by rw [hh])
    | free =>
      dsimp only
      split
      next ho => exact hfirst (by rw [hh]; exact if_pos ho)
      next ho => exact fun hp => hfirst (by rw [hh]; exact (if_neg ho).trans (if_pos hp))
  · have hb := fun a ha => blockTest_eq_none_iff.2 (hblocks a ha)
    have passes (z : Nat × Pos) (hz : s.units.turnoutOpen z ∧ (s.units.turnout z.1).flankCount < 4
        ∧ ¬ s.units.blockedMove s.env z) : flankTurnoutTest s.env s.units z.1 z.2 = none :=
      (flankTurnoutTest_of_open hz.1 hz.2.1).trans (if_neg (mt blockedMove_iff.2 hz.2.2))
    refine ⟨fun before y after hl hbefore => ?_, fun hturnouts => ⟨fun before y after hl hbefore => ?_,
      fun hflank c hq hn => ?_⟩⟩
    · have hfirst {c : Code} (h : pathTurnoutTest s.units y.1 y.2 = some c) : refused c (.turnout y.1) :=
        fails hi (trackChecks_of_pathTurnout hb hl (fun z hz => pathTurnoutTest_of_open (hbefore z hz)) h)
      exact ⟨fun hf => hfirst (pathTurnoutTest_of_failed hf), fun hf ho => hfirst (pathTurnoutTest_of_conflict hf ho)⟩
    · have hp (z) (hz : z ∈ r.turnouts) := pathTurnoutTest_of_open (hturnouts z hz)
      have hfirst {c : Code} (h : flankTurnoutTest s.env s.units y.1 y.2 = some c) : refused c (.turnout y.1) :=
        fails hi (trackChecks_of_flankTurnout hb hp hl (fun z hz => passes z (hbefore z hz)) h)
      exact ⟨fun hf => hfirst (flankTurnoutTest_of_failed hf), fun hf ho => hfirst (flankTurnoutTest_of_conflict hf ho),
        fun ho h4 hmoves => hfirst ((flankTurnoutTest_of_open ho h4).trans
          (if_pos ((blockedMove_iff (v := s.env) (u := s.units) (k := y.1) (p := y.2)).1 hmoves)))⟩
    · exact fails hi (trackChecks_of_table hb (fun z hz => pathTurnoutTest_of_open (hturnouts z hz))
        (fun z hz => passes z (hflank z hz)) hq hn)

end Sys2Proof.Machine


/-! TIMETABLE LOAD and TIMETABLE CANCEL (O52). -/

namespace Sys2Proof.Machine

set_option Elab.async false

/-- Both ways of a choice touch only some parts. -/
theorem Ev.Goes.ite {ps : List Part} {e a b : Ev} {p : Prop} [Decidable p] (ha : Ev.Goes ps e a) (hb : Ev.Goes ps e b) :
    Ev.Goes ps e (if p then a else b) := by
  split
  · exact ha
  · exact hb

/-! ## A source withdrawn (R77) -/

section
variable {v : Env} {e : Ev} {u : Units} {i k : Nat}

/-- R77: a route whose request is of the source of entry `i` has none any more. -/
def Route.detach (i : Nat) (x : Route) : Route := match x.attached with
  | some a => if a.source.entry = i then { x with attached := none } else x
  | none => x

theorem detach_attached {x : Route} {a : Request} (h : (x.detach i).attached = some a) : a.source.entry ≠ i := by
  unfold Route.detach at h
  split at h
  next b hb =>
    split at h
    · exact absurd h nofun
    next hne =>
      obtain rfl : b = a := Option.some.inj (hb.symm.trans h)
      exact hne
  next hn => exact absurd (hn.symm.trans h) nofun

theorem withdraw_route (k : Nat) : (e.withdraw i).u.route k = (e.u.route k).detach i :=
  getD_map_of_fixed (l := e.u.ilk.routes) (f := Route.detach i) rfl

theorem withdraw_waiting : (e.withdraw i).u.ilk.waiting = e.u.ilk.waiting.filter fun r => r.source.entry != i := rfl

/-- R77: no request is of the source of entry `i`, neither in the list nor of a route. -/
def Units.sourceGone (i : Nat) (u : Units) : Prop :=
  (∀ q ∈ u.ilk.waiting, q.source.entry ≠ i) ∧ ∀ k a, (u.route k).attached = some a → a.source.entry ≠ i

theorem withdraw_sourceGone : (e.withdraw i).u.sourceGone i := by
  refine ⟨fun q hq => ?_, fun k a ha => ?_⟩
  · rw [withdraw_waiting, List.mem_filter, bne_iff_ne] at hq
    exact hq.2
  · rw [withdraw_route] at ha
    exact detach_attached ha

theorem Units.sourceGone.agree {t : Units} (h : u.sourceGone i) (hw : Part.agree u t .waiting) (hr : Part.agree u t .routes) :
    t.sourceGone i := by
  obtain ⟨hlist, hroute⟩ := h
  have hwaiting : t.ilk.waiting = u.ilk.waiting := hw
  refine ⟨fun q hq => hlist q (hwaiting ▸ hq), fun k a ha => hroute k a ?_⟩
  rw [← route_of_agree hr]
  exact ha

/-! ## The entries (R159, R164, R165) -/

theorem entry_of_agree {t : Units} (h : Part.agree u t .entries) (k : Nat) : t.entry k = u.entry k := by
  have he : t.entries = u.entries := h
  rw [Units.entry, he, Units.entry]

theorem lt_of_entry {x : Entry} (h : u.entry i = some x) : i < u.entries.length := by
  by_contra hi
  simp [Units.entry, List.getElem?_eq_none (Nat.le_of_not_lt hi)] at h

theorem setEntry_entry (f : Entry → Entry) (k : Nat) : (e.setEntry i f).u.entry k
    = if k = i ∧ i < e.u.entries.length then (e.u.entry i).map f else e.u.entry k := getD_modify ..

/-- R164, R165: an entry as it takes a status; an ON_DEMAND entry goes on from an outcome to WAITING, and WAITING has
Passed no. -/
def Entry.take (st : EntryStatus) (x : Entry) : Entry :=
  let st := if st.outcome && x.cfg.kind == .onDemand then .waiting else st
  { x with status := st, passed := if st = .waiting then false else x.passed }

theorem setStatus_entry {x : Entry} {st : EntryStatus} (h : e.u.entry i = some x) (k : Nat) :
    (e.setStatus v i st).u.entry k = if k = i then some (x.take st) else e.u.entry k := by
  let w : Ev := if x.status = st then e else e.callCompose
  let z : Ev := if st.outcome && x.status != st then w.endBusyFor v i else w
  have hw : Ev.Goes [] e w := .ite (.refl ..) (callCompose_goes e)
  have hz : Ev.Goes [.buttons] e z :=
    .ite ((hw.mono (by decide)).after (endBusyFor_goes v i w) (by decide)) (hw.mono (by decide))
  have hentry := entry_of_agree (hz.keeps .entries (by decide))
  have hlen : z.u.entries.length = e.u.entries.length := by rw [show z.u.entries = e.u.entries from hz.keeps .entries (by decide)]
  have hs : e.setStatus v i st = z.setEntry i fun y =>
      { y with status := if st.outcome && x.cfg.kind == .onDemand then .waiting else st
               passed := if (if st.outcome && x.cfg.kind == .onDemand then EntryStatus.waiting else st) = .waiting
                 then false else y.passed } := by
    simp only [Ev.setStatus, h]
    rfl
  rw [hs, setEntry_entry, hlen]
  by_cases hk : k = i
  · rw [if_pos ⟨hk, lt_of_entry h⟩, if_pos hk, hentry, h]
    rfl
  · rw [if_neg fun h => hk h.1, if_neg hk, hentry]

theorem setButton_silent {f : Button → Button} (h : e.Silent) : (e.setButton k f).Silent := h.units _

theorem callCompose_silent (h : e.Silent) : e.callCompose.Silent :=
  ⟨h.causes, h.granted, h.holders, h.signals, h.scan, h.examine⟩

theorem Ev.Silent.ite {b : Ev} {p : Prop} [Decidable p] (he : e.Silent) (hb : b.Silent) : (if p then e else b).Silent := by
  split
  · exact he
  · exact hb

theorem endBusyFor_silent (h : e.Silent) : (e.endBusyFor v i).Silent :=
  List.foldlRecOn _ _ h fun _ h _ _ => .ite (.ite (setButton_silent h) h) h

theorem setStatus_silent {st : EntryStatus} (h : e.Silent) : (e.setStatus v i st).Silent := by
  unfold Ev.setStatus
  split
  · exact h
  next x _ =>
    have hc := Ev.Silent.ite (p := x.status = st) h (callCompose_silent h)
    exact (Ev.Silent.ite (endBusyFor_silent hc) hc).units _

theorem withdraw_silent (h : e.Silent) : (e.withdraw i).Silent := h.units _

end

/-! ## TIMETABLE LOAD (R166) -/

section
variable {v : Env} {e : Ev} {f : Frame} {p : List Byte} {c : Code}

theorem read_kind (p : List Byte) : (LoadFields.read p).kind = if payloadAt p 1 = 0 then some .timed
    else if payloadAt p 1 = 1 then some .onDemand else if payloadAt p 1 = 2 then some .show else none := by
  unfold LoadFields.read
  dsimp only
  split
  next h => rw [if_pos h]
  next h => rw [if_neg (by omega), if_pos h]
  next h => rw [if_neg (by omega), if_neg (by omega), if_pos h]
  next h0 h1 h2 => rw [if_neg h0, if_neg h1, if_neg h2]

theorem payload_of_read_kind_none (h : (LoadFields.read p).kind = none) : 3 ≤ payloadAt p 1 := by
  rw [read_kind] at h
  split at h
  · exact absurd h nofun
  · split at h
    · exact absurd h nofun
    · split at h
      · exact absurd h nofun
      · omega

theorem payload_of_read_kind_some {k : EntryKind} (h : (LoadFields.read p).kind = some k) :
    payloadAt p 1 < 3 ∧ (k = .show ↔ payloadAt p 1 = 2) := by
  rw [read_kind] at h
  split at h
  next h0 => simp [← Option.some.inj h, h0]
  next =>
    split at h
    next h1 => simp [← Option.some.inj h, h1]
    next =>
      split at h
      next h2 => simp [← Option.some.inj h, h2]
      · exact absurd h nofun

/-- R159: the entry that a load makes, field by field. -/
theorem fresh_read {g : Config} (h : payloadAt p 1 < 3) : Entry.fresh g (LoadFields.read p).cfg = {
    cfg := {
      kind := if payloadAt p 1 = 0 then .timed else if payloadAt p 1 = 1 then .onDemand else .show
      hour := if payloadAt p 2 = 255 then none else some (payloadAt p 2)
      minute := payloadAt p 3, lead := min (payloadAt p 4) 15
      route := if payloadAt p 1 = 2 then 0 else payloadAt p 5
      tag := if (LoadFields.read p).tag = 0 then none else some (LoadFields.read p).tag
      dest := payloadAt p 8, platform := payloadAt p 9 % 16 }
    depBlock := if payloadAt p 1 = 2 then none else departureBlock g (payloadAt p 5)
    status := .waiting, passed := false } := by
  have hkind := read_kind p
  obtain h0 | h1 | h2 : payloadAt p 1 = 0 ∨ payloadAt p 1 = 1 ∨ payloadAt p 1 = 2 := by omega
  · rw [if_pos h0] at hkind
    simp only [Entry.fresh, LoadFields.cfg, hkind, h0]
    rfl
  · rw [if_neg (by omega), if_pos h1] at hkind
    simp only [Entry.fresh, LoadFields.cfg, hkind, h1]
    rfl
  · rw [if_neg (by omega), if_neg (by omega), if_pos h2] at hkind
    simp only [Entry.fresh, LoadFields.cfg, hkind, h2]
    rfl

/-- R166: the checks after the first, while the station is RUNNING. -/
theorem loadCheck_of_running (hr : v.running = true) : loadCheck v (LoadFields.read p) =
    if 3 ≤ payloadAt p 1 ∨ 48 ≤ payloadAt p 0 ∨ (24 ≤ payloadAt p 2 ∧ payloadAt p 2 ≠ 255) ∨ 60 ≤ payloadAt p 3
      ∨ (payloadAt p 1 ≠ 2 ∧ departable v.cfg (payloadAt p 5) = false) then some .badItem
    else if 999 < payloadAt p 6 % 4 * 256 + payloadAt p 7 then some .badTag else none := by
  unfold loadCheck
  rw [if_neg (by simp [hr])]
  split
  next hk => rw [if_pos (.inl (payload_of_read_kind_none hk))]
  next k hk =>
    obtain ⟨h3, hshow⟩ := payload_of_read_kind_some hk
    by_cases hrange : 48 ≤ payloadAt p 0 ∨ ¬ (payloadAt p 2 < 24 ∨ payloadAt p 2 = 255) ∨ 60 ≤ payloadAt p 3
    · exact (if_pos hrange).trans (if_pos (by omega)).symm
    · refine (if_neg hrange).trans ?_
      by_cases hroute : k ≠ .show ∧ departable v.cfg (payloadAt p 5) = false
      · have hr : payloadAt p 1 ≠ 2 ∧ departable v.cfg (payloadAt p 5) = false := ⟨mt hshow.2 hroute.1, hroute.2⟩
        exact (if_pos hroute).trans (if_pos (.inr (.inr (.inr (.inr hr))))).symm
      · have hr : ¬ (payloadAt p 1 ≠ 2 ∧ departable v.cfg (payloadAt p 5) = false) :=
          fun ⟨hn, hd⟩ => hroute ⟨mt hshow.1 hn, hd⟩
        refine (if_neg hroute).trans (if_neg ?_).symm
        rintro (h | h | h | h | h)
        exacts [by omega, by omega, by omega, by omega, hr h]

/-- R167: a load that finds an entry DUE withdraws its source. -/
def Ev.unload (i : Nat) (e : Ev) : Ev := if e.u.status i = some .due then e.withdraw i else e

/-- R159, R166: the entry that a load makes, and the end of BUSY for the entry that it takes the place of. -/
def Ev.loaded (v : Env) (x : LoadFields) (e : Ev) : Ev :=
  let b : Ev := { e.unload x.entry with
    u.entries := (e.unload x.entry).u.entries.set x.entry (some (.fresh v.cfg x.cfg)) }
  (if e.u.status x.entry = some .due ∨ e.u.status x.entry = some .ready then b.endBusyFor v x.entry else b).callCompose

theorem unload_goes (i : Nat) (e : Ev) : Ev.Goes [.waiting, .routes] e (e.unload i) := .ite (withdraw_goes i e) (.refl ..)

theorem unload_silent {i : Nat} (h : e.Silent) : (e.unload i).Silent := .ite (withdraw_silent h) h

theorem loaded_silent {x : LoadFields} (h : e.Silent) : (e.loaded v x).Silent :=
  callCompose_silent (.ite (endBusyFor_silent ((unload_silent h).units _)) ((unload_silent h).units _))

theorem loaded_goes (v : Env) (x : LoadFields) (e : Ev) : Ev.Goes [.entries, .buttons] (e.unload x.entry) (e.loaded v x) :=
  have hb := (loadEntry_goes x.entry (some (.fresh v.cfg x.cfg)) (e.unload x.entry)).mono (ps := [.entries, .buttons]) (by decide)
  (Ev.Goes.ite (hb.after (endBusyFor_goes v x.entry _) (by decide)) hb).after (callCompose_goes _) (by decide)

theorem timetableLoad_of_failing (h : loadCheck v (LoadFields.read f.payload) = some c) :
    e.timetableLoad v f = e.callCompose.answer v f.src .timetableLoad (payloadAt f.payload 0) c := by
  simp only [Ev.timetableLoad, h]
  rfl

theorem timetableLoad_of_passed (h : loadCheck v (LoadFields.read f.payload) = none) : e.timetableLoad v f
    = (e.loaded v (LoadFields.read f.payload)).answer v f.src .timetableLoad (payloadAt f.payload 0) .done := by
  simp only [Ev.timetableLoad, h]
  rfl

theorem loaded_entries {x : LoadFields} :
    (e.loaded v x).u.entries = e.u.entries.set x.entry (some (.fresh v.cfg x.cfg)) := by
  have hu : (e.unload x.entry).u.entries = e.u.entries := (unload_goes x.entry e).keeps .entries (by decide)
  have hb (b : Ev) : (b.endBusyFor v x.entry).u.entries = b.u.entries :=
    (endBusyFor_goes v x.entry b).keeps .entries (by decide)
  unfold Ev.loaded Ev.callCompose
  split
  · exact (hb _).trans (by rw [hu])
  · show List.set .. = _
    rw [hu]

end

section
variable {s : State} {x : RxFrame} {rest : List RxFrame} {m : Nat} {c : Code}

theorem timetableLoad_refused (hm : s.env.mirrors = true) (hx : s.units.lnk.rx = x :: rest)
    (hk : x.frame.kind = .timetableLoad) (hc : s.canSend m) (hf : loadCheck s.env (LoadFields.read x.frame.payload) = some c) :
    ∃ t, exec .timetableLoad s = .next t
      ∧ t.units.lnk.carries ⟨x.frame.src, m, .answer, answerPayload .timetableLoad (payloadAt x.frame.payload 0) c⟩
      ∧ (s.taken rest).keepsBut Part.ofEnd t.units := by
  obtain ⟨hsent, -, hkeeps⟩ := event_of_change_and_send (s := { s with units := s.taken rest })
    (f := fun v e => e.timetableLoad v x.frame) hc rfl (callCompose_silent (silent_start _)) (callCompose_goes _) (by decide)
    (timetableLoad_of_failing hf)
  exact ⟨_, congrArg Host.Outcome.next (takeStarted_of_takes (g := fun x v e => e.timetableLoad v x.frame) hm hx
    (by simp [ofKind, hk])), hsent, hkeeps⟩

theorem timetableLoad_done (hm : s.env.mirrors = true) (hx : s.units.lnk.rx = x :: rest)
    (hk : x.frame.kind = .timetableLoad) (hc : s.canSend m) (hf : loadCheck s.env (LoadFields.read x.frame.payload) = none) :
    ∃ t, exec .timetableLoad s = .next t
      ∧ t.units.lnk.carries ⟨x.frame.src, m, .answer, answerPayload .timetableLoad (payloadAt x.frame.payload 0) .done⟩
      ∧ Goes Part.ofEnd ((Ev.start (s.taken rest)).loaded s.env (LoadFields.read x.frame.payload)).u t.units
      ∧ (s.taken rest).keepsBut ([.entries, .waiting, .routes, .buttons] ++ Part.ofEnd) t.units := by
  have hg : Ev.Goes [.entries, .waiting, .routes, .buttons] (.start (s.taken rest))
      ((Ev.start (s.taken rest)).loaded s.env (LoadFields.read x.frame.payload)) :=
    ((unload_goes _ _).mono (by decide)).trans ((loaded_goes ..).mono (by decide))
  obtain ⟨hsent, hend, hkeeps⟩ := event_of_change_and_send (s := { s with units := s.taken rest })
    (f := fun v e => e.timetableLoad v x.frame) hc rfl (loaded_silent (silent_start _)) hg (by decide)
    (timetableLoad_of_passed hf)
  exact ⟨_, congrArg Host.Outcome.next (takeStarted_of_takes (g := fun x v e => e.timetableLoad v x.frame) hm hx
    (by simp [ofKind, hk])), hsent, hend, hkeeps⟩

end

/-! ## TIMETABLE CANCEL (R167) -/

section
variable {v : Env} {e : Ev} {i : Nat} {y : Entry}

theorem cancelEntry_silent (h : e.Silent) : (e.cancelEntry v i).Silent := by
  unfold Ev.cancelEntry
  split
  · exact setStatus_silent h
  · exact setStatus_silent h
  · exact setStatus_silent (withdraw_silent h)
  · exact h

/-- R167: what a cancel makes of an entry. -/
def Entry.cancelled (y : Entry) : Entry := match y.status with
  | .waiting | .due | .ready => y.take .cancelled
  | .departed | .cancelled | .missed => y

theorem take_cancelled (y : Entry) : y.take .cancelled
    = if y.cfg.kind = .onDemand then { y with status := .waiting, passed := false } else { y with status := .cancelled } := by
  by_cases hk : y.cfg.kind = .onDemand <;> simp [Entry.take, EntryStatus.outcome, hk]

theorem status_of_entry {u : Units} (h : u.entry i = some y) : u.status i = some y.status := by
  rw [Units.status, h]
  rfl

theorem cancelEntry_entry (h : e.u.entry i = some y) (k : Nat) :
    (e.cancelEntry v i).u.entry k = if k = i then some y.cancelled else e.u.entry k := by
  have hw : (e.withdraw i).u.entry i = some y :=
    (entry_of_agree ((withdraw_goes i e).keeps .entries (by decide)) i).trans h
  have hsame : e.u.entry k = if k = i then some y else e.u.entry k := by
    split
    next hk => rw [hk, h]
    · rfl
  unfold Ev.cancelEntry Entry.cancelled
  rw [status_of_entry h]
  cases y.status with
  | waiting => exact setStatus_entry h k
  | ready => exact setStatus_entry h k
  | due => exact setStatus_entry hw k
  | departed => exact hsame
  | cancelled => exact hsame
  | missed => exact hsame

theorem cancelEntry_sourceGone (h : e.u.entry i = some y) (hd : y.status = .due) : (e.cancelEntry v i).u.sourceGone i := by
  have hc : e.cancelEntry v i = (e.withdraw i).setStatus v i .cancelled := by
    unfold Ev.cancelEntry
    rw [status_of_entry h, hd]
  have hg := setStatus_goes v i .cancelled (e.withdraw i)
  rw [hc]
  exact withdraw_sourceGone.agree (hg.keeps .waiting (by decide)) (hg.keeps .routes (by decide))

end

section
variable {s : State} {x : RxFrame} {rest : List RxFrame} {m : Nat} {c : Code} {w : Ev} {ps : List Part}

/-- R167: a TIMETABLE CANCEL taken makes its change `w` and is answered. -/
theorem timetableCancel_taken (hm : s.env.mirrors = true) (hx : s.units.lnk.rx = x :: rest)
    (hk : x.frame.kind = .timetableCancel) (hc : s.canSend m) (hw : w.Silent) (hg : Ev.Goes ps (.start (s.taken rest)) w)
    (hp : .transmitter ∉ ps) (hf : (Ev.start (s.taken rest)).timetableCancel s.env x.frame
      = w.answer s.env x.frame.src .timetableCancel (payloadAt x.frame.payload 0) c) :
    ∃ t, exec .timetableCancel s = .next t
      ∧ t.units.lnk.carries ⟨x.frame.src, m, .answer, answerPayload .timetableCancel (payloadAt x.frame.payload 0) c⟩
      ∧ Goes Part.ofEnd w.u t.units ∧ (s.taken rest).keepsBut (ps ++ Part.ofEnd) t.units := by
  obtain ⟨hsent, hend, hkeeps⟩ := event_of_change_and_send (s := { s with units := s.taken rest })
    (f := fun v e => e.timetableCancel v x.frame) hc rfl hw hg hp hf
  exact ⟨_, congrArg Host.Outcome.next (takeStarted_of_takes (g := fun x v e => e.timetableCancel v x.frame) hm hx
    (by simp [ofKind, hk])), hsent, hend, hkeeps⟩

end

/-- Settles O52: a load and a cancel change entries, list, routes and buttons alone, in an event that calls for no scan. -/
theorem timetableLoadAndCancel : Obligations.TimetableLoadAndCancel := by
  constructor
  · intro s x rest m hm hx hk hc at' i tag told refused
    have fails {c : Code} (h : loadCheck s.env (LoadFields.read x.frame.payload) = some c) : refused c :=
      timetableLoad_refused hm hx hk hc h
    split
    next hr => exact fails (if_pos (by simp [State.env, Env.running, hr]))
    next hr =>
      have hcheck := loadCheck_of_running (p := x.frame.payload) (running_env (not_not.1 hr))
      split
      next hb => exact fails (hcheck.trans (if_pos hb))
      next hb =>
        replace hcheck := hcheck.trans (if_neg hb)
        split
        next ht => exact fails (hcheck.trans (if_pos ht))
        next ht =>
          obtain ⟨t, hexec, hsent, hend, hkeeps⟩ := timetableLoad_done hm hx hk hc (hcheck.trans (if_neg ht))
          refine ⟨t, hexec, hsent, ((hend.keeps .entries (by decide)).trans loaded_entries).trans ?_, fun hd => ?_, hkeeps⟩
          · rw [fresh_read (Nat.lt_of_not_le (not_or.1 hb).1)]
            rfl
          · have hgone : ((Ev.start (s.taken rest)).unload i).u.sourceGone i := by
              have hdue : (Ev.start (s.taken rest)).u.status i = some .due := hd
              rw [Ev.unload, if_pos hdue]
              exact withdraw_sourceGone
            have hgo := loaded_goes s.env (LoadFields.read x.frame.payload) (.start (s.taken rest))
            have hloaded := hgone.agree (hgo.keeps .waiting (by decide)) (hgo.keeps .routes (by decide))
            exact hloaded.agree (hend.keeps .waiting (by decide)) (hend.keeps .routes (by decide))
  · intro s x rest m hm hx hk hc hz i told refused
    refine ⟨fun hr => ?_, fun hr hb => ?_, fun y hr hi hy => ?_⟩
    · obtain ⟨t, ht, hsent, -, hkeeps⟩ := timetableCancel_taken hm hx hk hc (c := .notRunning) (silent_start _) (.refl [] _)
        (by decide) (if_pos (by simp [State.env, Env.running, hr]))
      exact ⟨t, ht, hsent, hkeeps⟩
    · obtain ⟨t, ht, hsent, -, hkeeps⟩ := timetableCancel_taken hm hx hk hc (c := .badItem) (silent_start _) (.refl [] _)
        (by decide) ((if_neg (by simp [running_env hr])).trans (if_pos hb))
      exact ⟨t, ht, hsent, hkeeps⟩
    · have hentry : (Ev.start (s.taken rest)).u.entry i = some y := hy
      obtain ⟨t, ht, hsent, hend, hkeeps⟩ := timetableCancel_taken hm hx hk hc (c := .done)
        (cancelEntry_silent (v := s.env) (i := i) (silent_start _)) 
        ((cancelEntry_goes ..).mono (ps := [.entries, .waiting, .routes, .buttons]) (by decide)) (by decide)
        ((if_neg (by simp [running_env hr])).trans (if_neg (not_or.2 ⟨Nat.not_le.2 hi, by rw [hentry]; nofun⟩)))
      have hentries (k : Nat) := (entry_of_agree (hend.keeps .entries (by decide)) k).trans (cancelEntry_entry hentry k)
      refine ⟨t, ht, hsent, ?_, fun k hne => (hentries k).trans (if_neg hne), fun hd => ?_, hkeeps⟩
      · rw [hentries, if_pos rfl, Entry.cancelled]
        cases y.status with
        | waiting | due | ready =>
          rw [take_cancelled]
          exact apply_ite some ..
        | departed | cancelled | missed => rfl
      · exact (cancelEntry_sourceGone hentry hd).agree (hend.keeps .waiting (by decide)) (hend.keeps .routes (by decide))

end Sys2Proof.Machine


/-! What the giving back of blocks, turnouts, claim and route makes of the records (O28 to O31). -/

namespace Sys2Proof.Machine

set_option Elab.async false

section
variable {v : Env} {e a b : Ev} {u u' : Units} {n k i : Nat} {r : RouteCfg} {ps : List Part}

/-! ## Records (R9, R36, R53, R78) -/

theorem occupied_of_agree (h : Part.agree u u' .occupancy) (i : Nat) : (u'.block i).occupied = (u.block i).occupied :=
  congrArg Prod.fst (train_of_agree h i)

theorem turnout_of_agree (h : Part.agree u u' .turnouts) (k : Nat) : u'.turnout k = u.turnout k := by
  have ht : u'.tdu.turnouts = u.tdu.turnouts := h
  rw [Units.turnout, ht, Units.turnout]

/-- A route that is not IDLE has a record. -/
theorem lt_of_route (h : (u.route n).state ≠ .idle) : n < u.ilk.routes.length := by
  by_contra hn
  rw [Units.route, List.getD_eq_default _ _ (Nat.le_of_not_lt hn)] at h
  exact h rfl

theorem routes_of_sized (h : u.sized) : u.ilk.routes.length = 64 := by
  obtain ⟨-, -, -, -, -, hl, -⟩ := h
  exact hl

theorem claims_of_sized (h : u.sized) : u.clu.claims.length = 64 := by
  obtain ⟨-, -, -, -, -, -, hl, -⟩ := h
  exact hl

/-! ## Blocks that a route gives back (R9) -/

/-- R30, R31: a block that is not held for the turntable leaves the deck carry as it is when it becomes FREE. -/
theorem carryAtHolder_free {x : Block} (h : x.holder ≠ .turntable) : e.carryAtHolder x .free = e := by
  simp [Ev.carryAtHolder, h]

theorem setHolder_free_u (h : (e.u.block i).holder ≠ .turntable) : (e.setHolder v i .free).u
    = if (e.u.block i).holder = .free then e.u else (e.setBlock i fun x => { x with holder := .free }).u := by
  unfold Ev.setHolder
  dsimp only
  split
  · rfl
  · split
    · rw [carryAtHolder_free h]
      split <;> split <;> rfl
    · split <;> split <;> rfl

theorem setHolder_free_goes (h : (e.u.block i).holder ≠ .turntable) : Ev.Goes [.holders] e (e.setHolder v i .free) := by
  unfold Ev.Goes
  rw [setHolder_free_u h]
  split
  · exact .refl _ _
  · exact setBlock_goes e fun _ _ => rfl

theorem freeOfRoute_holders : Ev.Goes [.holders] e (e.freeOfRoute v n i) := by
  unfold Ev.freeOfRoute
  split
  next h => exact setHolder_free_goes (by rw [h]; nofun)
  · exact .refl _ _

theorem freeOfRoute_holder (v : Env) (n i k : Nat) (e : Ev) : ((e.freeOfRoute v n i).u.block k).holder
    = if k = i ∧ (e.u.block k).holder = .route n then .free else (e.u.block k).holder := by
  unfold Ev.freeOfRoute
  split
  next h =>
    have hi : i < e.u.bkt.blocks.length := by
      by_contra hi
      rw [Units.block, List.getD_eq_default _ _ (Nat.le_of_not_lt hi)] at h
      exact nomatch h
    rw [setHolder_holder]
    by_cases hk : k = i
    · rw [if_pos ⟨hk, hi⟩, if_pos ⟨hk, hk ▸ h⟩]
    · rw [if_neg fun hx => hk hx.1, if_neg fun hx => hk hx.1]
  next h =>
    split
    next hk => exact absurd (hk.1 ▸ hk.2) h
    · rfl

theorem freeOfRoutes_holders {bs : List Nat} : Ev.Goes [.holders] e (bs.foldl (fun e i => e.freeOfRoute v n i) e) :=
  .foldl (fun _ _ => freeOfRoute_holders) bs e

theorem freeOfRoutes_holder {bs : List Nat} (k : Nat) : ((bs.foldl (fun e i => e.freeOfRoute v n i) e).u.block k).holder
    = if k ∈ bs ∧ (e.u.block k).holder = .route n then .free else (e.u.block k).holder := by
  induction bs generalizing e with
  | nil => simp
  | cons x xs ih =>
    rw [List.foldl_cons, ih, freeOfRoute_holder]
    by_cases hh : (e.u.block k).holder = .route n
    · by_cases hx : k = x
      · simp [← hx, hh]
      · simp [hh, hx]
    · simp [hh]

/-! ## Turnouts that a route gives back (R62, R66, R67) -/

/-- R62, R67: a turnout record that route `n` holds in its path no more. -/
def Turnout.unheld (n : Nat) (x : Turnout) : Turnout :=
  { x with pathHolder := if x.pathHolder = some n then none else x.pathHolder }

theorem unheld_pathHolder (x : Turnout) : (x.unheld n).pathHolder ≠ some n := by
  unfold Turnout.unheld
  dsimp only
  split
  · nofun
  · assumption

theorem unheld_unheld (x : Turnout) : (x.unheld n).unheld n = x.unheld n := by
  simp only [Turnout.unheld, Turnout.mk.injEq, true_and, and_true]
  exact if_neg (unheld_pathHolder x)

/-- A change that leaves a turnout that is not configured as it is reads alike in every record. -/
theorem setHolds_turnout {f : Turnout → Turnout} (hf : f .initial = .initial) (t k : Nat) (e : Ev) :
    (e.setHolds t f).u.turnout k = if k = t then f (e.u.turnout k) else e.u.turnout k := by
  rw [turnout_of_tdu (congrArg Units.tdu (setHolds_u t f e)), setTurnout_turnout]
  by_cases hk : k = t
  · by_cases ht : t < e.u.tdu.turnouts.length
    · rw [if_pos ⟨hk, ht⟩, if_pos hk, hk]
    · rw [if_neg fun h => ht h.2, if_pos hk, turnout_eq_initial (hk ▸ ht), hf]
  · rw [if_neg fun h => hk h.1, if_neg hk]

theorem dropPath_turnout (n t k : Nat) (e : Ev) : (e.dropPath n t).u.turnout k
    = if k = t then (e.u.turnout k).unheld n else e.u.turnout k := setHolds_turnout (f := Turnout.unheld n) rfl t k e

theorem dropFlank_turnout (t k : Nat) (e : Ev) : (e.dropFlank t).u.turnout k
    = if k = t then { e.u.turnout k with flankCount := (e.u.turnout k).flankCount - 1 } else e.u.turnout k :=
  setHolds_turnout (f := fun x => { x with flankCount := x.flankCount - 1 }) rfl t k e

theorem dropPaths_turnout {xs : List (Nat × Pos)} (k : Nat) : (xs.foldl (fun e x => e.dropPath n x.1) e).u.turnout k
    = if k ∈ xs.map Prod.fst then (e.u.turnout k).unheld n else e.u.turnout k := by
  induction xs generalizing e with
  | nil => rfl
  | cons x xs ih =>
    rw [List.foldl_cons, ih, dropPath_turnout, List.map_cons]
    by_cases hk : k = x.1
    · by_cases hm : k ∈ xs.map Prod.fst
      · rw [if_pos hm, if_pos hk, if_pos (List.mem_cons_of_mem _ hm), unheld_unheld]
      · rw [if_neg hm, if_pos hk, if_pos (hk ▸ List.mem_cons_self)]
    · simp only [hk, if_false, List.mem_cons, false_or]

theorem dropFlanks_turnout {xs : List (Nat × Pos)} (k : Nat) : (xs.foldl (fun e x => e.dropFlank x.1) e).u.turnout k
    = { e.u.turnout k with flankCount := (e.u.turnout k).flankCount - (xs.map Prod.fst).count k } := by
  induction xs generalizing e with
  | nil => rfl
  | cons x xs ih =>
    rw [List.foldl_cons, ih, dropFlank_turnout, List.map_cons, List.count_cons]
    by_cases hk : k = x.1
    · have hc : (x.1 == k) = true := beq_iff_eq.2 hk.symm
      simp only [hc, if_true]
      rw [if_pos hk]
      simp only [Turnout.mk.injEq, true_and, and_true]
      omega
    · have hc : (x.1 == k) = false := beq_eq_false_iff_ne.2 (Ne.symm hk)
      rw [if_neg hk, hc]
      rfl

/-- R62, R66: a turnout record once route `n` has given back its path and flank holds. -/
def Turnout.givenBack (n k : Nat) (r : RouteCfg) (x : Turnout) : Turnout := { x with
  pathHolder := if k ∈ r.turnouts.map Prod.fst ∧ x.pathHolder = some n then none else x.pathHolder
  flankCount := x.flankCount - (r.flank.map Prod.fst).count k }

theorem releaseTurnouts_turnout (k : Nat) :
    (e.releaseTurnouts n r).u.turnout k = (e.u.turnout k).givenBack n k r := by
  rw [Ev.releaseTurnouts, dropFlanks_turnout, dropPaths_turnout]
  by_cases hk : k ∈ r.turnouts.map Prod.fst <;> simp [Turnout.givenBack, Turnout.unheld, hk]

theorem releaseHolds_goes_holds : Ev.Goes [.holders, .turnouts] e (e.releaseHolds v n r) :=
  (freeOfRoutes_holders.mono (by decide)).after (releaseTurnouts_goes n r _) (by decide)

theorem releaseHolds_holder (k : Nat) : ((e.releaseHolds v n r).u.block k).holder
    = if k ∈ r.path ++ r.overlap.toList ∧ (e.u.block k).holder = .route n then .free else (e.u.block k).holder :=
  (holder_of_agree ((releaseTurnouts_goes n r _).keeps .holders (by decide)) k).trans (freeOfRoutes_holder k)

theorem releaseHolds_turnout (k : Nat) : (e.releaseHolds v n r).u.turnout k = (e.u.turnout k).givenBack n k r :=
  (releaseTurnouts_turnout k).trans (congrArg _ (turnout_of_agree (freeOfRoutes_holders.keeps .turnouts (by decide)) k))

/-! ## The claim closed and the route IDLE (R53, R85, R97) -/

/-- R190: a frame of the urgent class leaves the ordinary queue as it is, whether there is room for it or not. -/
theorem send_urgent_ordinary {d : Nat} {x : FrameKind} {p : List Byte} (hx : x.urgent = true) :
    (e.send v d x p).u.lnk.ordinary = e.u.lnk.ordinary := by
  unfold Ev.send
  split
  · simp only [Ev.link, Link.add, hx, if_true, Link.addUrgent]
    split
    · rfl
    · obtain ⟨-, ho, -⟩ : Part.agree e.u (e.link Link.raiseOverflow).u .transmitter :=
        (link_raiseOverflow_goes e).keeps .transmitter (by decide)
      exact ho
  · rfl

theorem ordinary_of_agree (h : Part.agree u u' .transmitter) : u'.lnk.ordinary = u.lnk.ordinary := by
  obtain ⟨-, ho, -⟩ := h
  exact ho

theorem closeClaim_ordinary : (e.closeClaim v n r).u.lnk.ordinary = e.u.lnk.ordinary := by
  unfold Ev.closeClaim
  split
  · rfl
  · rw [ordinary_of_agree ((setClaimState_goes v n Claim.closed _).keeps .transmitter (by decide))]
    split
    · exact send_urgent_ordinary rfl
    · exact send_urgent_ordinary rfl
    · exact send_urgent_ordinary rfl
    · rfl

theorem closeClaim_claim (hf : r.foreign.isSome = true) (hn : n < e.u.clu.claims.length) :
    (e.closeClaim v n r).u.claim n = (e.u.claim n).closed := by
  obtain ⟨p, hp⟩ := Option.isSome_iff_exists.1 hf
  have released (m t : Nat) : ((e.releaseClaim v m t).setClaimState v n Claim.closed).u.claim n = (e.u.claim n).closed := by
    have hc : (e.releaseClaim v m t).u.clu.claims = e.u.clu.claims := (releaseClaim_goes v m t e).keeps .claims (by decide)
    rw [setClaimState_claim, hc, if_pos ⟨rfl, hn⟩, claim_of_agree hc]
  simp only [Ev.closeClaim, hp]
  split
  · exact released ..
  · exact released ..
  · exact released ..
  · rw [setClaimState_claim, if_pos ⟨rfl, hn⟩]

theorem routeIdle_route (hn : n < e.u.ilk.routes.length) (k : Nat) :
    (e.routeIdle n r).u.route k = if k = n then .idleOf r else e.u.route k := by
  have hg : Ev.Goes [.control] (e.setRoute n fun _ => .idleOf r) (e.routeIdle n r) :=
    (endEvaluated_goes r.entry n _).after (routeReachesTable_goes r _) (by decide)
  rw [route_of_agree (hg.keeps .routes (by decide)), setRoute_route]
  simp [hn]

theorem endEvaluated_evaluated (i k : Nat) : ((e.endEvaluated i n).u.signal k).route
    = if k = i ∧ (e.u.signal k).route = some n then none else (e.u.signal k).route := by
  unfold Ev.endEvaluated
  split
  next h =>
    have hs : (e.setEvaluated i none).u.signal k = _ :=
      setSignal_signal (fun g => { g with route := none, control := .stopped }) k e
    have hi : i < e.u.ase.signals.length := by
      by_contra hi
      rw [Units.signal, List.getD_eq_default _ _ (Nat.le_of_not_lt hi)] at h
      exact nomatch h
    rw [hs]
    by_cases hk : k = i
    · rw [if_pos ⟨hk, hi⟩, if_pos ⟨hk, hk ▸ h⟩]
    · rw [if_neg fun hx => hk hx.1, if_neg fun hx => hk hx.1]
  next h =>
    split
    next hk => exact absurd (hk.1 ▸ hk.2) h
    · rfl

theorem routeIdle_evaluated (k : Nat) : ((e.routeIdle n r).u.signal k).route
    = if k = r.entry ∧ (e.u.signal k).route = some n then none else (e.u.signal k).route :=
  (evaluated_of_agree ((routeReachesTable_goes r _).keeps .control (by decide)) k).trans (endEvaluated_evaluated r.entry k)

/-- R53, R66, R85: the claim of route `n` is closed, and the route IDLE. -/
def Ev.closedIdle (v : Env) (n : Nat) (r : RouteCfg) (e : Ev) : Ev := (e.closeClaim v n r).routeIdle n r

theorem closedIdle_goes :
    Ev.Goes [.routes, .claims, .control, .counters, .slots, .transmitter] e (e.closedIdle v n r) :=
  ((closeClaim_goes v n r e).mono (by decide)).after (routeIdle_goes n r _) (by decide)

theorem closedIdle_route (hn : n < e.u.ilk.routes.length) (k : Nat) :
    (e.closedIdle v n r).u.route k = if k = n then .idleOf r else e.u.route k := by
  have hr : (e.closeClaim v n r).u.ilk.routes = e.u.ilk.routes := (closeClaim_goes v n r e).keeps .routes (by decide)
  rw [Ev.closedIdle, routeIdle_route (hr ▸ hn), route_of_agree hr]

theorem closedIdle_evaluated (k : Nat) : ((e.closedIdle v n r).u.signal k).route
    = if k = r.entry ∧ (e.u.signal k).route = some n then none else (e.u.signal k).route := by
  rw [Ev.closedIdle, routeIdle_evaluated, evaluated_of_agree ((closeClaim_goes v n r e).keeps .control (by decide))]

theorem closedIdle_claim (hf : r.foreign.isSome = true) (hn : n < e.u.clu.claims.length) :
    (e.closedIdle v n r).u.claim n = (e.u.claim n).closed := by
  rw [Ev.closedIdle, claim_of_agree ((routeIdle_goes n r _).keeps .claims (by decide)), closeClaim_claim hf hn]

theorem closedIdle_ordinary : (e.closedIdle v n r).u.lnk.ordinary = e.u.lnk.ordinary :=
  (ordinary_of_agree ((routeIdle_goes n r _).keeps .transmitter (by decide))).trans closeClaim_ordinary

/-! ## A route that goes (R62, R70) -/

/-- R62: from `u` to `t` route `n`, whose record is `r`, has given back its blocks and its path holds. -/
structure Units.HeldBack (n : Nat) (r : RouteCfg) (u t : Units) : Prop where
  holder : ∀ b, (t.block b).holder =
    if b ∈ r.path ++ r.overlap.toList ∧ (u.block b).holder = .route n then .free else (u.block b).holder
  path   : ∀ k, (t.turnout k).pathHolder =
    if k ∈ r.turnouts.map Prod.fst ∧ (u.turnout k).pathHolder = some n then none else (u.turnout k).pathHolder

theorem releaseHolds_heldBack : e.u.HeldBack n r (e.releaseHolds v n r).u :=
  ⟨releaseHolds_holder, fun k => congrArg Turnout.pathHolder (releaseHolds_turnout k)⟩

/-- R53, R85, R97: a route that has given back its holds goes. -/
theorem closedIdle_routeGone {w : Units} (h : w.HeldBack n r e.u) (hn : n < e.u.ilk.routes.length)
    (hk : n < e.u.clu.claims.length) (hc : Part.agree w e.u .claims) (hs : Part.agree w e.u .control) :
    w.routeGone n r (e.closedIdle v n r).u := by
  have hg : Ev.Goes _ e (e.closedIdle v n r) := closedIdle_goes
  refine ⟨(closedIdle_route hn n).trans (if_pos rfl), ?_, fun b => ?_, fun k => ?_, fun hf => ?_⟩
  · rw [closedIdle_evaluated, evaluated_of_agree hs]
    simp only [true_and]
  · rw [holder_of_agree (hg.keeps .holders (by decide)), h.holder]
  · rw [turnout_of_agree (hg.keeps .turnouts (by decide)), h.path]
  · rw [closedIdle_claim hf hk, claim_of_agree hc]
    rfl

/-- What comes after leaves a route that has gone as it is. -/
theorem routeGone_of_goes {w : Units} (h : w.routeGone n r u) (g : Goes ps u u')
    (hp : ∀ p ∈ [Part.routes, .control, .holders, .turnouts, .claims], p ∉ ps := by decide) : w.routeGone n r u' := by
  obtain ⟨hroute, hsignal, hholder, hpath, hclaim⟩ := h
  refine ⟨?_, ?_, fun b => ?_, fun k => ?_, fun hf => ?_⟩
  · rw [route_of_agree (g.keeps .routes (hp _ (by decide))), hroute]
  · rw [evaluated_of_agree (g.keeps .control (hp _ (by decide))), hsignal]
  · rw [holder_of_agree (g.keeps .holders (hp _ (by decide))), hholder]
  · rw [turnout_of_agree (g.keeps .turnouts (hp _ (by decide))), hpath]
  · rw [claim_of_agree (g.keeps .claims (hp _ (by decide))), hclaim hf]

end

end Sys2Proof.Machine


/-! Blocks that a route gives back one by one, and its end with the last of them (R65 to R67, R72; O28, O30). -/

namespace Sys2Proof.Machine

set_option Elab.async false

section
variable {v : Env} {e a b : Ev} {u u' : Units} {n k i m : Nat} {r : RouteCfg} {ps : List Part} {gone gone' : Nat → Prop}

/-- R65 to R67, R72: from `e` to `b` route `n` has given back the blocks for which `gone` holds, with the path turnouts
that lie in them. -/
structure Ev.Frees (v : Env) (n : Nat) (r : RouteCfg) (gone : Nat → Prop) (e b : Ev) : Prop where
  goes   : Ev.Goes [.holders, .turnouts, .routes] e b
  freed  : ∀ k, gone k → (e.u.block k).holder = .route n → (b.u.block k).holder = .free
  kept   : ∀ k, (gone k → (e.u.block k).holder ≠ .route n) → (b.u.block k).holder = (e.u.block k).holder
  path   : ∀ k, (b.u.turnout k).pathHolder = some n → (e.u.turnout k).pathHolder = some n
  unheld : ∀ k c, v.cfg.turnout k = some c → k ∈ r.turnouts.map Prod.fst → gone c.owning →
    (b.u.turnout k).pathHolder ≠ some n
  flank  : ∀ k, (b.u.turnout k).flankCount = (e.u.turnout k).flankCount

/-- An operation under which no block and no turnout changes. -/
theorem frees_of_goes (g : Ev.Goes ps e b) (hg : ∀ k, ¬ gone k) (h : ∀ p ∈ ps, p ∈ [Part.routes] := by decide) :
    Ev.Frees v n r gone e b := by
  have hr : Ev.Goes [.routes] e b := g.mono h
  have ht := turnout_of_agree (hr.keeps .turnouts (by decide))
  have hh := holder_of_agree (hr.keeps .holders (by decide))
  exact ⟨hr.mono (by decide), fun k hk => absurd hk (hg k), fun k _ => hh k, fun k => by rw [ht]; exact id,
    fun _ c _ _ hk => absurd hk (hg _), fun k => by rw [ht]⟩

theorem Ev.Frees.refl (v : Env) (n : Nat) (r : RouteCfg) (e : Ev) : Ev.Frees v n r (fun _ => False) e e :=
  frees_of_goes (Ev.Goes.refl [] e) fun _ => id

theorem Ev.Frees.trans (h : Ev.Frees v n r gone e a) (h' : Ev.Frees v n r gone' a b) :
    Ev.Frees v n r (fun k => gone k ∨ gone' k) e b := by
  refine ⟨h.goes.trans h'.goes, fun k hk hh => ?_, fun k hk => ?_, fun k hp => h.path k (h'.path k hp),
    fun k c hc hm hk => ?_, fun k => (h'.flank k).trans (h.flank k)⟩
  · by_cases hg : gone k
    · have hf := h.freed k hg hh
      rw [h'.kept k fun _ => by rw [hf]; nofun, hf]
    · have hsame := h.kept k fun hx => absurd hx hg
      exact h'.freed k (hk.resolve_left hg) (hsame.trans hh)
  · have hsame := h.kept k fun hx => hk (.inl hx)
    rw [h'.kept k fun hx => hsame ▸ hk (.inr hx), hsame]
  · obtain hg | hg := hk
    · exact fun hp => h.unheld k c hc hm hg (h'.path k hp)
    · exact h'.unheld k c hc hm hg

/-- What gives back the same blocks. -/
theorem Ev.Frees.congr (h : Ev.Frees v n r gone e b) (hg : ∀ k, gone k ↔ gone' k) : Ev.Frees v n r gone' e b := by
  rwa [funext fun k => propext (hg k)] at h

theorem Ev.Frees.holder (h : Ev.Frees v n r gone e b) (k : Nat) [Decidable (gone k)] : (b.u.block k).holder
    = if (e.u.block k).holder = .route n ∧ gone k then .free else (e.u.block k).holder := by
  split
  next hk => exact h.freed k hk.2 hk.1
  next hk => exact h.kept k fun hg hh => hk ⟨hh, hg⟩

theorem Ev.Frees.occupied (h : Ev.Frees v n r gone e b) (k : Nat) : (b.u.block k).occupied = (e.u.block k).occupied :=
  occupied_of_agree (h.goes.keeps .occupancy (by decide)) k

/-! ## One block (R65, R66) -/

theorem dropPathIn_eq (v : Env) (n : Nat) (r : RouteCfg) (i : Nat) (e : Ev) : e.dropPathIn v n r i
    = (r.turnouts.filter fun x => (v.cfg.turnout x.1).any fun c => c.owning == i).foldl (fun e x => e.dropPath n x.1) e :=
  (List.foldl_filter ..).symm

theorem freeBlock_goes : Ev.Goes [.holders, .turnouts] e ((e.freeOfRoute v n i).dropPathIn v n r i) :=
  (freeOfRoute_holders.mono (by decide)).after (dropPathIn_goes ..) (by decide)

/-- R9, R65 to R67: block `i` is given back with the path turnouts that lie in it. -/
theorem freeBlock_frees : Ev.Frees v n r (· = i) e ((e.freeOfRoute v n i).dropPathIn v n r i) := by
  have hf : Ev.Goes [.holders] e (e.freeOfRoute v n i) := freeOfRoute_holders
  have hd : Ev.Goes [.turnouts] (e.freeOfRoute v n i) ((e.freeOfRoute v n i).dropPathIn v n r i) := dropPathIn_goes ..
  have hh (k : Nat) := (holder_of_agree (hd.keeps .holders (by decide)) k).trans (freeOfRoute_holder v n i k e)
  have ht (k : Nat) : ((e.freeOfRoute v n i).dropPathIn v n r i).u.turnout k
      = if k ∈ (r.turnouts.filter fun x => (v.cfg.turnout x.1).any fun c => c.owning == i).map Prod.fst
        then (e.u.turnout k).unheld n else e.u.turnout k := by
    rw [dropPathIn_eq, dropPaths_turnout, turnout_of_agree (hf.keeps .turnouts (by decide))]
  refine ⟨(hf.mono (by decide)).after hd (by decide), fun k hk hr => ?_, fun k hk => ?_, fun k hp => ?_,
    fun k c hc hm hk => ?_, fun k => ?_⟩
  · rw [hh, if_pos ⟨hk, hr⟩]
  · rw [hh, if_neg fun hx => hk hx.1 hx.2]
  · rw [ht] at hp
    split at hp
    · exact absurd hp (unheld_pathHolder _)
    · exact hp
  · obtain ⟨x, hx, hxk⟩ := List.mem_map.1 hm
    have hmem : k ∈ (r.turnouts.filter fun x => (v.cfg.turnout x.1).any fun c => c.owning == i).map Prod.fst :=
      List.mem_map.2 ⟨x, List.mem_filter.2 ⟨hx, by simp [hxk, hc, hk]⟩, hxk⟩
    rw [ht, if_pos hmem]
    exact unheld_pathHolder _
  · rw [ht]
    split <;> rfl

theorem releasePathBlock_frees (hi : r.path[i]? = some k) : Ev.Frees v n r (· = k) e (e.releasePathBlock v n r i) := by
  have hb := (frees_of_goes (v := v) (n := n) (r := r) (gone := fun _ => False)
    (setRoute_goes n (fun x => { x with progress := x.progress.set i .released }) e) fun _ => id).trans
    (freeBlock_frees (i := k))
  unfold Ev.releasePathBlock
  simp only [hi]
  exact hb.congr fun k => by simp

theorem releasePathBlock_route (hn : n < e.u.ilk.routes.length) : (e.releasePathBlock v n r i).u.route n
    = { e.u.route n with progress := (e.u.route n).progress.set i .released } := by
  have hs := (setRoute_route (n := n) (fun x => { x with progress := x.progress.set i .released }) n e).trans
    (if_pos ⟨rfl, hn⟩)
  unfold Ev.releasePathBlock
  dsimp only
  split
  · exact (route_of_agree (freeBlock_goes.keeps .routes (by decide)) n).trans hs
  · exact hs

theorem releaseOverlap_frees :
    Ev.Frees v n r (fun k => (e.u.route n).overlapHeld = true ∧ r.overlap = some k) e (e.releaseOverlap v n r) := by
  have hs := frees_of_goes (v := v) (n := n) (r := r) (gone := fun _ => False)
    (setRoute_goes n (fun x => { x with overlapHeld := false }) e) fun _ => id
  unfold Ev.releaseOverlap
  split
  next ho =>
    dsimp only
    split
    next i hi => exact (hs.trans (freeBlock_frees (i := i))).congr fun k => by simp [ho, hi, eq_comm]
    next hi => exact hs.congr fun k => by simp [hi]
  next ho => exact (Ev.Frees.refl v n r e).congr fun k => by simp [ho]

theorem releaseOverlap_route (hn : n < e.u.ilk.routes.length) :
    (e.releaseOverlap v n r).u.route n = { e.u.route n with overlapHeld := false } := by
  have hs := (setRoute_route (n := n) (fun x => { x with overlapHeld := false }) n e).trans (if_pos ⟨rfl, hn⟩)
  unfold Ev.releaseOverlap
  split
  · dsimp only
    split
    · exact (route_of_agree (freeBlock_goes.keeps .routes (by decide)) n).trans hs
    · exact hs
  next ho =>
    have hf : (e.u.route n).overlapHeld = false := Bool.not_eq_true _ ▸ ho
    rw [← hf]

/-! ## The end of a route (R66) -/

/-- R73: a report to the destination of a route, if it has one. -/
def Ev.tell (v : Env) (d : Option ReportTo) (n : Nat) (o : RouteOutcome) (e : Ev) : Ev := match d with
  | some d => e.report v d n o
  | none => e

theorem tell_goes (d : Option ReportTo) (o : RouteOutcome) :
    Ev.Goes [.counters, .slots, .transmitter] e (e.tell v d n o) := by
  unfold Ev.tell
  split
  · exact report_goes ..
  · exact .refl ..

/-- R66: a route that holds no block ends. -/
def Ev.routeEnded (v : Env) (n : Nat) (r : RouteCfg) (e : Ev) : Ev :=
  ((e.releaseTurnouts n r).closedIdle v n r).tell v (e.u.route n).reportTo n .released

/-- R66: a route holds no block. -/
def Route.spent (x : Route) : Prop := (∀ q ∈ x.progress, q = .released) ∧ x.overlapHeld = false

theorem routeEndIfDone_of_spent (h : (e.u.route n).spent) : e.routeEndIfDone v n r = e.routeEnded v n r := by
  obtain ⟨hp, ho⟩ := h
  exact if_pos (by simpa [ho] using hp)

theorem routeEndIfDone_of_holding (h : ¬ (e.u.route n).spent) : e.routeEndIfDone v n r = e :=
  if_neg fun hc => h (by simpa [Route.spent] using hc)

theorem routeEndIfDone_goes_holds : Ev.Goes [.turnouts, .routes, .claims, .control, .counters, .slots, .transmitter] e
    (e.routeEndIfDone v n r) := routeEndIfDone_goes v n r e

theorem routeEnded_route (hn : n < e.u.ilk.routes.length) (k : Nat) :
    (e.routeEnded v n r).u.route k = if k = n then .idleOf r else e.u.route k := by
  have hr : (e.releaseTurnouts n r).u.ilk.routes = e.u.ilk.routes := (releaseTurnouts_goes n r e).keeps .routes (by decide)
  rw [Ev.routeEnded, route_of_agree ((tell_goes ..).keeps .routes (by decide)), closedIdle_route (hr ▸ hn), route_of_agree hr]

theorem routeEnded_evaluated (k : Nat) : ((e.routeEnded v n r).u.signal k).route
    = if k = r.entry ∧ (e.u.signal k).route = some n then none else (e.u.signal k).route := by
  rw [Ev.routeEnded, evaluated_of_agree ((tell_goes ..).keeps .control (by decide)), closedIdle_evaluated,
    evaluated_of_agree ((releaseTurnouts_goes n r e).keeps .control (by decide))]

theorem routeEnded_turnout (k : Nat) : (e.routeEnded v n r).u.turnout k = (e.u.turnout k).givenBack n k r := by
  rw [Ev.routeEnded, turnout_of_agree ((tell_goes ..).keeps .turnouts (by decide)),
    turnout_of_agree (closedIdle_goes.keeps .turnouts (by decide)), releaseTurnouts_turnout]

theorem routeEnded_claim (hf : r.foreign.isSome = true) (hn : n < e.u.clu.claims.length) :
    (e.routeEnded v n r).u.claim n = (e.u.claim n).closed := by
  have hc : (e.releaseTurnouts n r).u.clu.claims = e.u.clu.claims := (releaseTurnouts_goes n r e).keeps .claims (by decide)
  rw [Ev.routeEnded, claim_of_agree ((tell_goes ..).keeps .claims (by decide)), closedIdle_claim hf (hc ▸ hn),
    claim_of_agree hc]

theorem routeEnded_carries {d : ReportTo} (hnum : v.sys.number = some m) (hq : e.u.lnk.ordinary.length < 16)
    (hd : (e.u.route n).reportTo = some d) : (e.routeEnded v n r).u.lnk.carries
      ⟨d.dest v, m, .routeReport, routeReportPayload n .released 0 .none 0⟩ := by
  rw [Ev.routeEnded, hd]
  refine report_carries hnum ?_
  rw [closedIdle_ordinary, ordinary_of_agree ((releaseTurnouts_goes n r e).keeps .transmitter (by decide))]
  exact hq

end

end Sys2Proof.Machine


/-! ROUTE CANCEL and the approach release timer (O28). -/

namespace Sys2Proof.Machine

set_option Elab.async false

section
variable {v : Env} {e a b w : Ev} {u : Units} {n k i m : Nat} {r : RouteCfg} {d : ReportTo}

/-! ## Queued throws withdrawn (R40) -/

theorem withdrawThrow_holds (t k : Nat) (e : Ev) : ((e.withdrawThrow v t).u.turnout k).pathHolder = (e.u.turnout k).pathHolder := by
  unfold Ev.withdrawThrow
  dsimp only
  split
  · split
    · rw [turnoutReaches_u, setTurnout_turnout]
      split
      next hk => rw [hk.1]; rfl
      · rfl
    · rfl
  · rfl

theorem withdrawThrows_holds (k : Nat) : ((e.withdrawThrows v r).u.turnout k).pathHolder = (e.u.turnout k).pathHolder :=
  List.foldlRecOn (motive := fun b : Ev => (b.u.turnout k).pathHolder = (e.u.turnout k).pathHolder) _ _ rfl fun b hb x _ =>
    (withdrawThrow_holds x.1 k b).trans hb

theorem withdrawn_heldBack : e.u.HeldBack n r ((e.releaseHolds v n r).withdrawThrows v r).u := by
  have h : e.u.HeldBack n r (e.releaseHolds v n r).u := releaseHolds_heldBack
  exact ⟨fun b => (holder_of_agree ((withdrawThrows_goes v r _).keeps .holders (by decide)) b).trans (h.holder b),
    fun k => (withdrawThrows_holds k).trans (h.path k)⟩

/-! ## A route given up (R70, R71) -/

/-- R70: from `e` to `b` a route went, and no frame but one of the urgent class was sent for. -/
structure Ev.GivenUp (n : Nat) (r : RouteCfg) (ps : List Part) (e b : Ev) : Prop where
  goes     : Ev.Goes (ps ++ [.holders, .turnouts, .routes, .claims, .control, .counters, .slots, .transmitter]) e b
  gone     : e.u.routeGone n r b.u
  ordinary : b.u.lnk.ordinary = e.u.lnk.ordinary

theorem routeGivenUp_givenUp (hn : n < e.u.ilk.routes.length) (hk : n < e.u.clu.claims.length) :
    Ev.GivenUp n r [] e (e.routeGivenUp v n r) := by
  have hg : Ev.Goes [.holders, .turnouts] e (e.releaseHolds v n r) := releaseHolds_goes_holds
  have hr : (e.releaseHolds v n r).u.ilk.routes = e.u.ilk.routes := hg.keeps .routes (by decide)
  have hc : (e.releaseHolds v n r).u.clu.claims = e.u.clu.claims := hg.keeps .claims (by decide)
  exact ⟨(hg.mono (by decide)).after closedIdle_goes (by decide),
    closedIdle_routeGone releaseHolds_heldBack (hr ▸ hn) (hc ▸ hk) hc (hg.keeps .control (by decide)),
    closedIdle_ordinary.trans (ordinary_of_agree (hg.keeps .transmitter (by decide)))⟩

/-- R62, R70: a route that is given up before SET withdraws its queued throws. -/
theorem withdrawn_givenUp (hn : n < e.u.ilk.routes.length) (hk : n < e.u.clu.claims.length) :
    Ev.GivenUp n r [.throws] e (((e.releaseHolds v n r).withdrawThrows v r).closedIdle v n r) := by
  have hg : Ev.Goes [.holders, .turnouts, .throws] e ((e.releaseHolds v n r).withdrawThrows v r) :=
    (releaseHolds_goes_holds.mono (by decide)).after (withdrawThrows_goes v r _) (by decide)
  have hr : ((e.releaseHolds v n r).withdrawThrows v r).u.ilk.routes = e.u.ilk.routes := hg.keeps .routes (by decide)
  have hc : ((e.releaseHolds v n r).withdrawThrows v r).u.clu.claims = e.u.clu.claims := hg.keeps .claims (by decide)
  exact ⟨(hg.mono (by decide)).after closedIdle_goes (by decide),
    closedIdle_routeGone withdrawn_heldBack (hr ▸ hn) (hc ▸ hk) hc (hg.keeps .control (by decide)),
    closedIdle_ordinary.trans (ordinary_of_agree (hg.keeps .transmitter (by decide)))⟩

/-! ## Forced release (R72) -/

/-- R72: path block `i` is released if it is held and CLEAR. -/
def Ev.freeIfClear (v : Env) (n : Nat) (r : RouteCfg) (i : Nat) (e : Ev) : Ev :=
  let clear := match r.path[i]? with
    | some b => !(e.u.block b).occupied
    | none => false
  if clear && (e.u.route n).progress.getD i .released != .released then e.releasePathBlock v n r i else e

/-- R72: the overlap block is released if it is CLEAR. -/
def Ev.freeOverlapIfClear (v : Env) (n : Nat) (r : RouteCfg) (e : Ev) : Ev := match r.overlap with
  | some b => if (e.u.block b).occupied then e else e.releaseOverlap v n r
  | none => e

/-- R72: the held CLEAR blocks of the first `m` path blocks are released. -/
def Ev.freePath (v : Env) (n : Nat) (r : RouteCfg) (m : Nat) (e : Ev) : Ev :=
  (List.range m).foldl (fun e i => e.freeIfClear v n r i) e

theorem forceRelease_eq (v : Env) (n : Nat) (r : RouteCfg) (e : Ev) : e.forceRelease v n r
    = (((e.setRoute n fun x => { x with forced := true }).freePath v n r r.path.length).freeOverlapIfClear v n r).routeEndIfDone
      v n r := rfl

/-- Path block `i` of a route is CLEAR. -/
def Units.pathClear (u : Units) (r : RouteCfg) (i : Nat) : Bool := (r.path[i]?).any fun b => !(u.block b).occupied

theorem pathClear_of_agree {u' : Units} (h : Part.agree u u' .occupancy) (i : Nat) : u'.pathClear r i = u.pathClear r i := by
  simp only [Units.pathClear, occupied_of_agree h]

/-- R72: the progress of a path of which the CLEAR ones of the first `m` blocks are RELEASED. -/
def freedProgress (u : Units) (r : RouteCfg) (m : Nat) (ps : List Progress) : List Progress :=
  ps.mapIdx fun i q => if i < m ∧ u.pathClear r i = true then .released else q

theorem freedProgress_zero (ps : List Progress) : freedProgress u r 0 ps = ps := by
  apply List.ext_getElem?
  intro i
  simp [freedProgress]

theorem freedProgress_getElem? (ps : List Progress) (i : Nat) : (freedProgress u r m ps)[i]?
    = (ps[i]?).map fun q => if i < m ∧ u.pathClear r i = true then .released else q := by
  simp [freedProgress]

theorem freedProgress_succ (ps : List Progress) : freedProgress u r (m + 1) ps
    = if u.pathClear r m = true then (freedProgress u r m ps).set m .released else freedProgress u r m ps := by
  apply List.ext_getElem?
  intro i
  split
  next hc =>
    rw [List.getElem?_set, freedProgress_getElem?, freedProgress_getElem?]
    by_cases hi : m = i
    · subst hi
      by_cases hl : m < ps.length <;> simp [freedProgress, hc, hl]
    · simp [hi, show i < m + 1 ↔ i < m by omega]
  next hc =>
    rw [freedProgress_getElem?, freedProgress_getElem?]
    by_cases hi : i = m
    · subst hi
      simp [hc]
    · simp [show i < m + 1 ↔ i < m by omega]

/-- The whole path: every CLEAR block is RELEASED. -/
theorem freedProgress_all {ps : List Progress} (hl : ps.length = r.path.length) : freedProgress u r r.path.length ps
    = (r.path.zip ps).map fun z => if (u.block z.1).occupied then z.2 else .released := by
  apply List.ext_getElem
  · simp [freedProgress, hl]
  · intro i hi _
    have hp : i < r.path.length := by simpa [freedProgress, hl] using hi
    simp only [freedProgress, List.getElem_mapIdx, List.getElem_map, List.getElem_zip, Units.pathClear, hp,
      List.getElem?_eq_getElem, Option.any_some, true_and]
    cases (u.block r.path[i]).occupied <;> rfl

/-- The blocks that `freePath` gives back of the first `m`. -/
def Units.heldClear (u : Units) (n : Nat) (r : RouteCfg) (m k : Nat) : Prop :=
  ∃ i < m, r.path[i]? = some k ∧ (u.block k).occupied = false ∧ (u.route n).progress.getD i .released ≠ .released

theorem freeIfClear_eq (v : Env) (n : Nat) (r : RouteCfg) (i : Nat) (e : Ev) : e.freeIfClear v n r i
    = if e.u.pathClear r i = true ∧ (e.u.route n).progress.getD i .released ≠ .released then e.releasePathBlock v n r i
      else e := by
  have hclear : (match r.path[i]? with
    | some b => !(e.u.block b).occupied
    | none => false) = e.u.pathClear r i := by
    unfold Units.pathClear
    cases r.path[i]? <;> rfl
  unfold Ev.freeIfClear
  simp only [hclear, Bool.and_eq_true, bne_iff_ne]

/-- R72: from `e` to `b` the CLEAR ones of the first `m` path blocks are given back. -/
structure Ev.PathFreed (v : Env) (n : Nat) (r : RouteCfg) (m : Nat) (e b : Ev) : Prop where
  frees : Ev.Frees v n r (e.u.heldClear n r m) e b
  route : b.u.route n = { e.u.route n with progress := freedProgress e.u r m (e.u.route n).progress }

theorem set_released {ps : List Progress} (h : ps.getD i .released = .released) : ps.set i .released = ps := by
  apply List.ext_getElem?
  intro j
  rw [List.getElem?_set]
  split
  next hj =>
    subst hj
    by_cases hl : i < ps.length
    · simpa [hl, List.getD_eq_getElem?_getD] using h.symm
    · simp [hl]
  · rfl

theorem freedProgress_getD (ps : List Progress) : (freedProgress u r m ps).getD m .released = ps.getD m .released := by
  rw [List.getD_eq_getElem?_getD, List.getD_eq_getElem?_getD, freedProgress_getElem?]
  simp

theorem freeIfClear_pathFreed (hs : (e.u.route n).state ≠ .idle) (h : Ev.PathFreed v n r m e b) :
    Ev.PathFreed v n r (m + 1) e (b.freeIfClear v n r m) := by
  obtain ⟨hfrees, hroute⟩ := h
  have hclear : b.u.pathClear r m = e.u.pathClear r m := pathClear_of_agree (hfrees.goes.keeps .occupancy (by decide)) m
  have hn : n < b.u.ilk.routes.length := lt_of_route (by rw [hroute]; exact hs)
  have hgot : (b.u.route n).progress.getD m .released = (e.u.route n).progress.getD m .released := by
    rw [hroute]
    exact freedProgress_getD _
  rw [freeIfClear_eq, hclear, hgot]
  split
  next hc =>
    obtain ⟨hc, hp⟩ := hc
    obtain ⟨k, hk, hko⟩ := (Option.any_eq_true ..).1 hc
    refine ⟨(hfrees.trans (releasePathBlock_frees hk)).congr fun j => ⟨?_, ?_⟩, ?_⟩
    · rintro (⟨i, hi, hx⟩ | rfl)
      · exact ⟨i, by omega, hx⟩
      · exact ⟨m, by omega, hk, by simpa using hko, hp⟩
    · rintro ⟨i, hi, hij, hx⟩
      obtain hlt | rfl : i < m ∨ i = m := by omega
      · exact .inl ⟨i, hlt, hij, hx⟩
      · exact .inr (Option.some.inj (hij.symm.trans hk))
    · rw [releasePathBlock_route hn, hroute, freedProgress_succ, if_pos hc]
  next hc =>
    refine ⟨hfrees.congr fun j => ⟨fun ⟨i, hi, hx⟩ => ⟨i, by omega, hx⟩, ?_⟩, ?_⟩
    · rintro ⟨i, hi, hij, ho, hp⟩
      obtain hlt | rfl : i < m ∨ i = m := by omega
      · exact ⟨i, hlt, hij, ho, hp⟩
      · exact absurd ⟨by simp [Units.pathClear, hij, ho], hp⟩ hc
    · rw [hroute, freedProgress_succ]
      split
      next hpc =>
        rw [set_released]
        rw [freedProgress_getD]
        exact not_not.1 fun hp => hc ⟨hpc, hp⟩
      · rfl

theorem freePath_pathFreed (hs : (e.u.route n).state ≠ .idle) (m : Nat) :
    Ev.PathFreed v n r m e (e.freePath v n r m) := by
  induction m with
  | zero =>
    refine ⟨(Ev.Frees.refl v n r e).congr fun k => ⟨False.elim, fun ⟨i, hi, _⟩ => absurd hi (by omega)⟩, ?_⟩
    rw [freedProgress_zero]
    rfl
  | succ m ih =>
    have hstep : e.freePath v n r (m + 1) = (e.freePath v n r m).freeIfClear v n r m := by
      rw [Ev.freePath, List.range_succ, List.foldl_append]
      rfl
    rw [hstep]
    exact freeIfClear_pathFreed hs ih

/-- R72: the overlap block of a route under forced release, before its first action. -/
def Units.overlapFree (u : Units) (n : Nat) (r : RouteCfg) (k : Nat) : Prop :=
  (u.route n).overlapHeld = true ∧ r.overlap = some k ∧ (u.block k).occupied = false

theorem freeOverlapIfClear_frees : Ev.Frees v n r (e.u.overlapFree n r) e (e.freeOverlapIfClear v n r) := by
  have hnone (h : ∀ k, ¬ e.u.overlapFree n r k) : Ev.Frees v n r (e.u.overlapFree n r) e e :=
    (Ev.Frees.refl v n r e).congr fun k => ⟨False.elim, h k⟩
  unfold Ev.freeOverlapIfClear
  split
  next i hi =>
    split
    next ho =>
      refine hnone fun k ⟨_, hk, hc⟩ => ?_
      rw [Option.some.inj (hi.symm.trans hk), hc] at ho
      exact absurd ho nofun
    next ho =>
      refine releaseOverlap_frees.congr fun k => ⟨fun ⟨hh, hk⟩ => ⟨hh, hk, ?_⟩, fun ⟨hh, hk, _⟩ => ⟨hh, hk⟩⟩
      rw [← Option.some.inj (hi.symm.trans hk)]
      exact Bool.not_eq_true _ ▸ ho
  next hi => exact hnone fun k ⟨_, hk, _⟩ => nomatch hi.symm.trans hk

theorem freeOverlapIfClear_route (hn : n < e.u.ilk.routes.length) : (e.freeOverlapIfClear v n r).u.route n
    = { e.u.route n with
        overlapHeld := (e.u.route n).overlapHeld && r.overlap.all fun b => (e.u.block b).occupied } := by
  unfold Ev.freeOverlapIfClear
  split
  next i hi =>
    split
    next ho => simp [hi, ho]
    next ho => simp [hi, ho, releaseOverlap_route hn]
  next hi => simp [hi]

/-! ## The whole of a forced release (R72) -/

/-- R72: the route record after forced release, before the route's end is looked at. -/
def Units.forcedRoute (u : Units) (n : Nat) (r : RouteCfg) : Route := { u.route n with
  forced := true
  progress := freedProgress u r r.path.length (u.route n).progress
  overlapHeld := (u.route n).overlapHeld && r.overlap.all fun b => (u.block b).occupied }

/-- R72: the blocks that forced release gives back. -/
def Units.forcedFree (u : Units) (n : Nat) (r : RouteCfg) (k : Nat) : Prop :=
  u.heldClear n r r.path.length k ∨ u.overlapFree n r k

/-- R72: all that forced release does before the route's end is looked at. -/
def Ev.forceFree (v : Env) (n : Nat) (r : RouteCfg) (e : Ev) : Ev :=
  ((e.setRoute n fun x => { x with forced := true }).freePath v n r r.path.length).freeOverlapIfClear v n r

theorem forceFree_frees (hs : (e.u.route n).state ≠ .idle) :
    Ev.Frees v n r (e.u.forcedFree n r) e (e.forceFree v n r) ∧ (e.forceFree v n r).u.route n = e.u.forcedRoute n r := by
  let a := e.setRoute n fun x => { x with forced := true }
  let b := a.freePath v n r r.path.length
  have hga : Ev.Goes [.routes] e a := setRoute_goes ..
  have ha : a.u.route n = { e.u.route n with forced := true } :=
    (setRoute_route (n := n) (fun x => { x with forced := true }) n e).trans (if_pos ⟨rfl, lt_of_route hs⟩)
  have has : (a.u.route n).state ≠ .idle := by
    rw [ha]
    exact hs
  have hea : Ev.Frees v n r (fun _ => False) e a := frees_of_goes hga fun _ => id
  obtain ⟨hab, hb⟩ : Ev.PathFreed v n r r.path.length a b := freePath_pathFreed has _
  have hocc (k : Nat) : (a.u.block k).occupied = (e.u.block k).occupied := hea.occupied k
  have hoccb (k : Nat) : (b.u.block k).occupied = (e.u.block k).occupied := (hab.occupied k).trans (hocc k)
  have hclear (i : Nat) : a.u.pathClear r i = e.u.pathClear r i := pathClear_of_agree (hga.keeps .occupancy (by decide)) i
  refine ⟨((hea.trans hab).trans freeOverlapIfClear_frees).congr fun k => ?_, ?_⟩
  · simp only [false_or, Units.heldClear, Units.overlapFree, Units.forcedFree, hb, ha, hocc, hoccb]
  · have hn : n < b.u.ilk.routes.length := lt_of_route (by rw [hb]; exact has)
    have hf : freedProgress a.u r r.path.length (e.u.route n).progress
        = freedProgress e.u r r.path.length (e.u.route n).progress := by
      simp only [freedProgress, hclear]
    refine (freeOverlapIfClear_route hn).trans ?_
    simp only [hb, ha, hoccb, hf]
    rfl

theorem forceRelease_goes_holds (hs : (e.u.route n).state ≠ .idle) :
    Ev.Goes [.holders, .turnouts, .routes, .claims, .control, .counters, .slots, .transmitter] e (e.forceRelease v n r) := by
  obtain ⟨hf, -⟩ := forceFree_frees (v := v) (r := r) hs
  rw [forceRelease_eq]
  exact (hf.goes.mono (by decide)).after (routeEndIfDone_goes v n r _) (by decide)

theorem forceRelease_freed (hs : (e.u.route n).state ≠ .idle) (hf : e.u.forcedFree n r k)
    (hh : (e.u.block k).holder = .route n) : ((e.forceRelease v n r).u.block k).holder = .free := by
  obtain ⟨hfrees, -⟩ := forceFree_frees (v := v) (r := r) hs
  rw [forceRelease_eq, holder_of_agree ((routeEndIfDone_goes v n r _).keeps .holders (by decide))]
  exact hfrees.freed k hf hh

theorem forceRelease_kept (hs : (e.u.route n).state ≠ .idle)
    (hf : e.u.forcedFree n r k → (e.u.block k).holder ≠ .route n) :
    ((e.forceRelease v n r).u.block k).holder = (e.u.block k).holder := by
  obtain ⟨hfrees, -⟩ := forceFree_frees (v := v) (r := r) hs
  rw [forceRelease_eq, holder_of_agree ((routeEndIfDone_goes v n r _).keeps .holders (by decide))]
  exact hfrees.kept k hf

theorem forceRelease_route_of_spent (hs : (e.u.route n).state ≠ .idle) (hd : (e.u.forcedRoute n r).spent) :
    (e.forceRelease v n r).u.route n = .idleOf r := by
  obtain ⟨-, hr⟩ := forceFree_frees (v := v) (r := r) hs
  have hn : n < (e.forceFree v n r).u.ilk.routes.length := lt_of_route (by rw [hr]; exact hs)
  rw [← hr] at hd
  exact (congrArg (fun b : Ev => b.u.route n) (routeEndIfDone_of_spent hd)).trans ((routeEnded_route hn n).trans (if_pos rfl))

theorem forceRelease_route_of_holding (hs : (e.u.route n).state ≠ .idle) (hd : ¬ (e.u.forcedRoute n r).spent) :
    (e.forceRelease v n r).u.route n = e.u.forcedRoute n r := by
  obtain ⟨-, hr⟩ := forceFree_frees (v := v) (r := r) hs
  rw [← hr] at hd
  exact (congrArg (fun b : Ev => b.u.route n) (routeEndIfDone_of_holding hd)).trans hr

/-- R72: forced release reads the route's record and which blocks are OCCUPIED. -/
theorem forcedRoute_of_agree {u' : Units} (hr : Part.agree u u' .routes) (ho : Part.agree u u' .occupancy) :
    u'.forcedRoute n r = u.forcedRoute n r := by
  simp only [Units.forcedRoute, freedProgress, route_of_agree hr, pathClear_of_agree ho, occupied_of_agree ho]

theorem forcedFree_of_agree {u' : Units} (hr : Part.agree u u' .routes) (ho : Part.agree u u' .occupancy) :
    u'.forcedFree n r k ↔ u.forcedFree n r k := by
  simp only [Units.forcedFree, Units.heldClear, Units.overlapFree, route_of_agree hr, occupied_of_agree ho]

/-- R72: the blocks that forced release gives back, by the pairs of path block and progress. -/
theorem forcedFree_iff (hl : (u.route n).progress.length = r.path.length) : u.forcedFree n r k
    ↔ (u.block k).occupied = false ∧ ((∃ z ∈ r.path.zip (u.route n).progress, z.1 = k ∧ z.2 ≠ .released)
      ∨ (u.route n).overlapHeld = true ∧ r.overlap = some k) := by
  have hpath : u.heldClear n r r.path.length k ↔ (u.block k).occupied = false
      ∧ ∃ z ∈ r.path.zip (u.route n).progress, z.1 = k ∧ z.2 ≠ .released := by
    constructor
    · rintro ⟨i, hi, hk, ho, hp⟩
      obtain ⟨_, hik⟩ := List.getElem?_eq_some_iff.1 hk
      have hq : i < (u.route n).progress.length := hl ▸ hi
      rw [List.getD_eq_getElem _ _ hq] at hp
      exact ⟨ho, ⟨r.path[i], (u.route n).progress[i]⟩, List.mem_iff_getElem.2 ⟨i, by simp [hl, hi], by simp⟩, hik, hp⟩
    · rintro ⟨ho, z, hz, rfl, hp⟩
      obtain ⟨i, hi, rfl⟩ := List.mem_iff_getElem.1 hz
      have hi' : i < r.path.length := by simpa [hl] using hi
      refine ⟨i, hi', by simp [hi'], ho, ?_⟩
      rw [List.getD_eq_getElem _ _ (hl ▸ hi')]
      simpa using hp
  rw [Units.forcedFree, hpath, Units.overlapFree]
  exact ⟨fun h => h.elim (fun ⟨ho, hx⟩ => ⟨ho, .inl hx⟩) fun ⟨hh, hk, ho⟩ => ⟨ho, .inr ⟨hh, hk⟩⟩,
    fun ⟨ho, h⟩ => h.imp (fun hx => ⟨ho, hx⟩) fun ⟨hh, hk⟩ => ⟨hh, hk, ho⟩⟩

/-! ## What a cancel does, by the route's state (R70 to R73) -/

theorem reportCancelled_carries {src : Nat} {dest : Option ReportTo} (hnum : v.sys.number = some m)
    (hq : e.u.lnk.ordinary.length < 16) : (e.reportCancelled v src n dest).u.lnk.carries
      ⟨src, m, .routeReport, routeReportPayload n .cancelled 0 .none 0⟩ := by
  have h : (e.report v (.station src) n .cancelled).u.lnk.carries
      ⟨src, m, .routeReport, routeReportPayload n .cancelled 0 .none 0⟩ := report_carries hnum hq
  unfold Ev.reportCancelled
  dsimp only
  split
  · split
    · exact h
    · exact (report_goes ..).onward.frames _ h
  · exact h

theorem cancelRoute_told {src : Nat} (h : (e.u.route n).state = .idle ∨ (e.u.route n).state = .approachHeld) :
    e.cancelRoute v src n r = e.report v (.station src) n .cancelled := by
  unfold Ev.cancelRoute
  obtain h | h := h <;> simp only [h]

theorem cancelRoute_forced {src : Nat} (h : (e.u.route n).state = .inUse) (hf : (e.u.route n).forced = true) :
    e.cancelRoute v src n r = e.report v (.station src) n .cancelled := by
  unfold Ev.cancelRoute
  simp only [h, hf, if_true]

theorem cancelRoute_inUse {src : Nat} (h : (e.u.route n).state = .inUse) (hf : (e.u.route n).forced = false) :
    e.cancelRoute v src n r = (e.report v (.station src) n .cancelled).forceRelease v n r := by
  unfold Ev.cancelRoute
  simp only [h, hf, Bool.false_eq_true, if_false]

/-- R70: the route is held for the train that approaches. -/
def Ev.heldForApproach (v : Env) (n : Nat) (r : RouteCfg) (e : Ev) : Ev :=
  (e.setRoute n fun x => { x with approach := some 0 }).setRouteState v n r .approachHeld

theorem cancelRoute_approach {src : Nat} (h : (e.u.route n).state = .set) (ha : e.u.approachOccupied v.cfg r.entry = true) :
    e.cancelRoute v src n r = (e.heldForApproach v n r).report v (.station src) n .cancelled := by
  unfold Ev.cancelRoute
  simp only [h, ha, if_true]
  rfl

theorem cancelRoute_set {src : Nat} (h : (e.u.route n).state = .set) (ha : e.u.approachOccupied v.cfg r.entry = false) :
    e.cancelRoute v src n r = (e.routeGivenUp v n r).reportCancelled v src n (e.u.route n).reportTo := by
  unfold Ev.cancelRoute
  simp only [h, ha, Bool.false_eq_true, if_false]

theorem cancelRoute_before {src : Nat} (h : (e.u.route n).state = .claiming ∨ (e.u.route n).state = .throwing)
    (ha : (e.u.route n).attached = none) : e.cancelRoute v src n r
      = ((((e.releaseHolds v n r).withdrawThrows v r).closedIdle v n r).callScan).reportCancelled v src n
        (e.u.route n).reportTo := by
  unfold Ev.cancelRoute
  obtain h | h := h <;> simp only [h, ha] <;> rfl

theorem heldForApproach_goes : Ev.Goes [.routes, .control] e (e.heldForApproach v n r) :=
  ((setRoute_goes n _ e).mono (by decide)).after (setRouteState_goes v n r _ _) (by decide)

theorem heldForApproach_route (hn : n < e.u.ilk.routes.length) : (e.heldForApproach v n r).u.route n
    = { e.u.route n with state := .approachHeld, approach := some 0 } := by
  have hs := (setRoute_route (n := n) (fun x => { x with approach := some 0 }) n e).trans (if_pos ⟨rfl, hn⟩)
  rw [Ev.heldForApproach, setRouteState_route (by simpa [Ev.setRoute] using hn), if_pos rfl, hs]

end

/-! ## The command and the timer (R69, R71) -/

section
variable {s : State} {x : RxFrame} {rest : List RxFrame} {m n : Nat} {r : RouteCfg} {ps : List Part}

theorem mirrors_of_station (h : s.sys.station = .running) : s.env.mirrors = true := by
  show s.sys.mirrors = true
  simp [Sys.mirrors, h]

/-- The station once the oldest frame is taken (R186). -/
def State.afterTake (s : State) (rest : List RxFrame) : State := { s with units := s.taken rest }

theorem routeCancel_exec (hx : s.receives .routeCancel x rest) :
    exec .routeCancel s = .next ((s.afterTake rest).event fun v e => e.routeCancel v x.frame) := by
  obtain ⟨hr, hrx, hk⟩ := hx
  exact congrArg Host.Outcome.next (takeStarted_of_takes (g := fun x v e => e.routeCancel v x.frame) (mirrors_of_station hr)
    hrx (by simp [ofKind, hk]))

theorem routeCancel_of_configured {v : Env} {e : Ev} {f : Frame} (hr : v.running = true) (hn : payloadAt f.payload 0 < 64)
    (hc : v.cfg.route (payloadAt f.payload 0) = some r) :
    e.routeCancel v f = e.cancelRoute v f.src (payloadAt f.payload 0) r := by
  simp only [Ev.routeCancel, hr, Bool.not_true, Bool.false_eq_true, if_false, Nat.not_le.2 hn, hc]

theorem approachExpiry_of_running {v : Env} {e : Ev} (hc : v.cfg.route n = some r) (ha : (e.u.route n).approach.isSome = true) :
    e.approachExpiry v n = (e.routeGivenUp v n r).tell v (e.u.route n).reportTo n .released := by
  simp only [Ev.approachExpiry, hc, ha, if_true]
  rfl

section
variable (hx : s.receives .routeCancel x rest) (hp : payloadAt x.frame.payload 0 = n) (hn : n < 64)
  (hc : s.sys.cfg.route n = some r)
include hx hp hn hc

theorem routeCancel_makes : (Ev.start (s.taken rest)).routeCancel s.env x.frame
    = (Ev.start (s.taken rest)).cancelRoute s.env x.frame.src n r := by
  subst hp
  obtain ⟨hr, -⟩ := hx
  exact routeCancel_of_configured (running_env hr) hn hc

/-- R73: a cancel that is only told. -/
theorem routeCancel_only_told (hs : s.canSend m) (h : (Ev.start (s.taken rest)).cancelRoute s.env x.frame.src n r
      = (Ev.start (s.taken rest)).report s.env (.station x.frame.src) n .cancelled) :
    ∃ t, exec .routeCancel s = .next t
      ∧ t.units.lnk.carries ⟨x.frame.src, m, .routeReport, routeReportPayload n .cancelled 0 .none 0⟩
      ∧ (s.taken rest).keepsBut Part.ofEnd t.units :=
  ⟨_, routeCancel_exec hx, event_of_send (s := s.afterTake rest) hs rfl ((routeCancel_makes hx hp hn hc).trans h)⟩

/-- R70, R72: a cancel that makes `w` of the units. -/
theorem routeCancel_made {w : Ev} (hw : s.units.nothingWaits)
    (h : (Ev.start (s.taken rest)).cancelRoute s.env x.frame.src n r = w)
    (hg : Ev.Goes ps (.start (s.taken rest)) w) (hps : Part.waiting ∉ ps ∧ Part.table ∉ ps := by decide)
    (hcalm : ∀ p ∈ Part.ofCalm, p ∈ ps := by decide) :
    ∃ t, exec .routeCancel s = .next t ∧ Goes Part.ofCalm w.u t.units ∧ (s.taken rest).keepsBut ps t.units := by
  obtain ⟨hs, hkeep⟩ := event_of_nothingWaits (s := s.afterTake rest) (g := fun v e => e.routeCancel v x.frame) hw
    (congrArg Ev.u ((routeCancel_makes hx hp hn hc).trans h)) hg hps hcalm
  exact ⟨_, routeCancel_exec hx, hs, hkeep⟩

end

end

/-! ## The cases of a cancel (R70, R72) -/

section
variable {s : State} {x : RxFrame} {rest : List RxFrame} {m n : Nat} {r : RouteCfg}
variable (hx : s.receives .routeCancel x rest) (hs : s.canSend m) (hw : s.units.nothingWaits)
  (hp : payloadAt x.frame.payload 0 = n) (hn : n < 64) (hc : s.sys.cfg.route n = some r)
include hx hs hw hp hn hc

/-- R70, R73: a cancel that gives the route up, and tells of it. -/
theorem routeCancel_givenUp {w : Ev} {ps qs : List Part} {dest : Option ReportTo}
    (hg : Ev.GivenUp n r ps (.start (s.taken rest)) w)
    (hm : (Ev.start (s.taken rest)).cancelRoute s.env x.frame.src n r = w.reportCancelled s.env x.frame.src n dest)
    (hps : ∀ p ∈ ps ++ [.holders, .turnouts, .routes, .claims, .control, .counters, .slots, .transmitter], p ∈ qs)
    (hq : Part.waiting ∉ qs ∧ Part.table ∉ qs) (hqs : ∀ p ∈ Part.ofCalm, p ∈ qs) :
    ∃ t, exec .routeCancel s = .next t
      ∧ t.units.lnk.carries ⟨x.frame.src, m, .routeReport, routeReportPayload n .cancelled 0 .none 0⟩
      ∧ s.units.routeGone n r t.units ∧ (s.taken rest).keepsBut qs t.units := by
  obtain ⟨hnum, hroom⟩ := hs
  have hr : Ev.Goes _ w (w.reportCancelled s.env x.frame.src n dest) := reportCancelled_goes ..
  obtain ⟨t, ht, hcalm, hkeep⟩ := routeCancel_made hx hp hn hc hw hm
    ((hg.goes.mono hps).after hr fun p hp => hqs p (by revert p; decide)) hq hqs
  refine ⟨t, ht, hcalm.onward.frames _ (reportCancelled_carries hnum ?_), ?_, hkeep⟩
  · exact lt_of_eq_of_lt (congrArg List.length hg.ordinary) hroom
  · exact routeGone_of_goes (routeGone_of_goes hg.gone hr) hcalm

theorem routeCancel_before (hz : s.units.sized) (ha : (s.units.route n).attached = none)
    (hb : (s.units.route n).state = .claiming ∨ (s.units.route n).state = .throwing) :
    ∃ t, exec .routeCancel s = .next t
      ∧ t.units.lnk.carries ⟨x.frame.src, m, .routeReport, routeReportPayload n .cancelled 0 .none 0⟩
      ∧ s.units.routeGone n r t.units
      ∧ (s.taken rest).keepsBut ([.holders, .turnouts, .throws, .routes, .claims, .control] ++ Part.ofCalm) t.units := by
  have hg : Ev.GivenUp n r [.throws] (.start (s.taken rest)) _ :=
    withdrawn_givenUp (v := s.env) ((routes_of_sized hz).symm ▸ hn) ((claims_of_sized hz).symm ▸ hn)
  obtain ⟨hgoes, hgone, hordinary⟩ := hg
  exact routeCancel_givenUp hx hs hw hp hn hc
    (w := (((Ev.start (s.taken rest)).releaseHolds s.env n r).withdrawThrows s.env r |>.closedIdle s.env n r).callScan)
    ⟨hgoes, hgone, hordinary⟩ (cancelRoute_before hb ha)
    (by decide) (by decide) (by decide)

theorem routeCancel_set (hz : s.units.sized) (hb : (s.units.route n).state = .set) (ha : s.units.approachOccupied s.sys.cfg r.entry = false) :
    ∃ t, exec .routeCancel s = .next t
      ∧ t.units.lnk.carries ⟨x.frame.src, m, .routeReport, routeReportPayload n .cancelled 0 .none 0⟩
      ∧ s.units.routeGone n r t.units
      ∧ (s.taken rest).keepsBut ([.holders, .turnouts, .routes, .claims, .control] ++ Part.ofCalm) t.units :=
  routeCancel_givenUp hx hs hw hp hn hc
    (routeGivenUp_givenUp (v := s.env) ((routes_of_sized hz).symm ▸ hn) ((claims_of_sized hz).symm ▸ hn))
    (cancelRoute_set hb ha) (by decide) (by decide) (by decide)

theorem routeCancel_approach (hz : s.units.sized) (hb : (s.units.route n).state = .set)
    (ha : s.units.approachOccupied s.sys.cfg r.entry = true) : ∃ t, exec .routeCancel s = .next t
      ∧ t.units.lnk.carries ⟨x.frame.src, m, .routeReport, routeReportPayload n .cancelled 0 .none 0⟩
      ∧ t.units.route n = { s.units.route n with state := .approachHeld, approach := some 0 }
      ∧ (s.taken rest).keepsBut ([.routes, .control] ++ Part.ofCalm) t.units := by
  obtain ⟨hnum, hq⟩ := hs
  have hg : Ev.Goes [.routes, .control] (.start (s.taken rest)) _ := heldForApproach_goes (v := s.env) (n := n) (r := r)
  have hr : Ev.Goes [.counters, .slots, .transmitter] _ (((Ev.start (s.taken rest)).heldForApproach s.env n r).report s.env
      (.station x.frame.src) n .cancelled) := report_goes ..
  obtain ⟨t, ht, hcalm, hkeep⟩ := routeCancel_made hx hp hn hc hw (cancelRoute_approach hb ha)
    (ps := [.routes, .control] ++ Part.ofCalm) ((hg.mono (by decide)).after hr (by decide))
  refine ⟨t, ht, hcalm.onward.frames _ (report_carries hnum ?_), ?_, hkeep⟩
  · exact lt_of_eq_of_lt (congrArg List.length (ordinary_of_agree (hg.keeps .transmitter (by decide)))) hq
  · rw [route_of_agree (hcalm.keeps .routes (by decide)), route_of_agree (hr.keeps .routes (by decide)),
      heldForApproach_route ((routes_of_sized hz).symm ▸ hn)]
    rfl

theorem routeCancel_force (hb : (s.units.route n).state = .inUse) (hf : (s.units.route n).forced = false) :
    ∃ t, exec .routeCancel s = .next t
      ∧ t.units.lnk.carries ⟨x.frame.src, m, .routeReport, routeReportPayload n .cancelled 0 .none 0⟩
      ∧ ((s.units.forcedRoute n r).spent → t.units.route n = .idleOf r)
      ∧ (¬ (s.units.forcedRoute n r).spent → t.units.route n = s.units.forcedRoute n r)
      ∧ (∀ k, s.units.forcedFree n r k → (s.units.block k).holder = .route n → (t.units.block k).holder = .free)
      ∧ (∀ k, (s.units.forcedFree n r k → (s.units.block k).holder ≠ .route n) →
          (t.units.block k).holder = (s.units.block k).holder)
      ∧ (s.taken rest).keepsBut ([.holders, .turnouts, .routes, .claims, .control] ++ Part.ofCalm) t.units := by
  obtain ⟨hnum, hq⟩ := hs
  let e : Ev := (Ev.start (s.taken rest)).report s.env (.station x.frame.src) n .cancelled
  have hg : Ev.Goes [.counters, .slots, .transmitter] (.start (s.taken rest)) e := report_goes ..
  have hroutes : Part.agree s.units e.u .routes := hg.keeps .routes (by decide)
  have hocc : Part.agree s.units e.u .occupancy := hg.keeps .occupancy (by decide)
  have hholder := holder_of_agree (hg.keeps .holders (by decide))
  have hidle : (e.u.route n).state ≠ .idle := by
    rw [route_of_agree hroutes, hb]
    nofun
  have hmade : Ev.Goes _ e (e.forceRelease s.env n r) := forceRelease_goes_holds hidle
  obtain ⟨t, ht, hcalm, hkeep⟩ := routeCancel_made hx hp hn hc hw (cancelRoute_inUse hb hf)
    (ps := [.holders, .turnouts, .routes, .claims, .control] ++ Part.ofCalm) ((hg.mono (by decide)).after hmade (by decide))
  have hroute := route_of_agree (hcalm.keeps .routes (by decide)) n
  have hend := holder_of_agree (hcalm.keeps .holders (by decide))
  refine ⟨t, ht, hcalm.onward.frames _ (hmade.onward.frames _ (report_carries hnum hq)), fun hd => ?_, fun hd => ?_,
    fun k hk hh => ?_, fun k hk => ?_, hkeep⟩
  · exact hroute.trans (forceRelease_route_of_spent hidle (by rw [forcedRoute_of_agree hroutes hocc]; exact hd))
  · rw [← forcedRoute_of_agree hroutes hocc] at hd ⊢
    exact hroute.trans (forceRelease_route_of_holding hidle hd)
  · exact (hend k).trans (forceRelease_freed hidle ((forcedFree_of_agree hroutes hocc).2 hk) ((hholder k).trans hh))
  · refine (hend k).trans ((forceRelease_kept hidle fun hx hh => ?_).trans (hholder k))
    exact hk ((forcedFree_of_agree hroutes hocc).1 hx) ((hholder k).symm.trans hh)

end

/-- R71: the approach release timer gives the route up. -/
theorem approachReleaseExpiry_gone {s : State} {n : Nat} {r : RouteCfg} (hr : s.sys.station = .running)
    (hw : s.units.nothingWaits) (hz : s.units.sized) (hc : s.sys.cfg.route n = some r)
    (ha : (s.units.route n).approach.isSome = true) :
    ∃ t, exec (.approachReleaseExpiry n) s = .next t ∧ s.units.routeGone n r t.units
      ∧ (∀ d m, (s.units.route n).reportTo = some d → s.canSend m →
          t.units.lnk.carries ⟨d.dest s.env, m, .routeReport, routeReportPayload n .released 0 .none 0⟩)
      ∧ s.units.keepsBut ([.holders, .turnouts, .routes, .claims, .control] ++ Part.ofCalm) t.units := by
  let e : Ev := .start s.units
  have hn : n < s.units.ilk.routes.length := by
    by_contra hn
    rw [Units.route, List.getD_eq_default _ _ (Nat.le_of_not_lt hn)] at ha
    exact nomatch ha
  have hg : Ev.GivenUp n r [] e (e.routeGivenUp s.env n r) :=
    routeGivenUp_givenUp hn ((claims_of_sized hz).trans (routes_of_sized hz).symm ▸ hn)
  have ht : Ev.Goes [.counters, .slots, .transmitter] _ _ := tell_goes (v := s.env) (n := n)
    (e := e.routeGivenUp s.env n r) (s.units.route n).reportTo .released
  obtain ⟨hcalm, hkeep⟩ := event_of_nothingWaits (s := s) (g := fun v e => e.approachExpiry v n) hw
    (congrArg Ev.u (approachExpiry_of_running (v := s.env) (e := e) hc ha))
    (ps := [.holders, .turnouts, .routes, .claims, .control] ++ Part.ofCalm)
    ((hg.goes.mono (by decide)).after ht (by decide))
  refine ⟨_, congrArg Host.Outcome.next (whenRunning_of_running hr _), routeGone_of_goes (routeGone_of_goes hg.gone ht) hcalm,
    fun d m hd ⟨hnum, hq⟩ => hcalm.onward.frames _ ?_, hkeep⟩
  have hd' : (e.u.route n).reportTo = some d := hd
  rw [hd']
  exact report_carries hnum (lt_of_eq_of_lt (congrArg List.length hg.ordinary) hq)

/-- Settles O28: a cancel is followed by the state of its route; the timer gives the route up. -/
theorem routeCancelledOrHeldForApproach : Obligations.RouteCancelledOrHeldForApproach := by
  refine ⟨?_, fun s n m r hr hw hz hc ha => ?_⟩
  · intro s x rest m r hx hs hz hw n y hn hc ha
    cases hy : y.state with
    | idle =>
      obtain ⟨t, ht, hsent, hkeep⟩ := routeCancel_only_told hx rfl hn hc hs (cancelRoute_told (.inl hy))
      exact ⟨t, ht, hsent, hkeep⟩
    | approachHeld =>
      obtain ⟨t, ht, hsent, hkeep⟩ := routeCancel_only_told hx rfl hn hc hs (cancelRoute_told (.inr hy))
      exact ⟨t, ht, hsent, hkeep⟩
    | claiming =>
      obtain ⟨t, ht, hsent, hgone⟩ := routeCancel_before hx hs hw rfl hn hc hz ha (.inl hy)
      exact ⟨t, ht, hsent, hgone⟩
    | throwing =>
      obtain ⟨t, ht, hsent, hgone⟩ := routeCancel_before hx hs hw rfl hn hc hz ha (.inr hy)
      exact ⟨t, ht, hsent, hgone⟩
    | set =>
      by_cases hocc : s.units.approachOccupied s.sys.cfg r.entry = true
      · obtain ⟨t, ht, hsent, hheld⟩ := routeCancel_approach hx hs hw rfl hn hc hz hy hocc
        exact ⟨t, ht, hsent, (if_pos hocc).mpr hheld⟩
      · obtain ⟨t, ht, hsent, hgone⟩ := routeCancel_set hx hs hw rfl hn hc hz hy (Bool.not_eq_true _ ▸ hocc)
        exact ⟨t, ht, hsent, (if_neg hocc).mpr hgone⟩
    | inUse =>
      cases hf : y.forced with
      | true =>
        obtain ⟨t, ht, hsent, hkeep⟩ := routeCancel_only_told hx rfl hn hc hs (cancelRoute_forced hy hf)
        exact ⟨t, ht, hsent, ⟨fun _ => hkeep, nofun⟩⟩
      | false =>
        obtain ⟨t, ht, hsent, hspent, hholding, hfreed, hkept, hkeep⟩ := routeCancel_force hx hs hw rfl hn hc hy hf
        refine ⟨t, ht, hsent, ?_⟩
        refine ⟨nofun, fun _ hl => ⟨?_, fun b => ?_, hkeep⟩⟩
        · have hforced : s.units.forcedRoute n r = { y with
              forced := true
              progress := (r.path.zip y.progress).map fun z => if (s.units.block z.1).occupied then z.2 else .released
              overlapHeld := y.overlapHeld && r.overlap.all fun b => (s.units.block b).occupied } := by
            rw [Units.forcedRoute, freedProgress_all hl]
          rw [hforced] at hspent hholding
          split
          next hd => exact hspent hd
          next hd => exact (hholding hd).trans (by rw [hy])
        · split
          next hb => exact hfreed b ((forcedFree_iff hl).2 ⟨hb.2.1, hb.2.2⟩) hb.1
          next hb => exact hkept b fun hfree hh => hb ⟨hh, (forcedFree_iff hl).1 hfree⟩
  · obtain ⟨t, ht, hgone, htold, hkeep⟩ := approachReleaseExpiry_gone hr hw hz hc ha
    exact ⟨t, ht, hgone, fun d hd hs => htold d m hd hs, hkeep⟩

end Sys2Proof.Machine


/-! Turnouts and the route that awaits them (O29): what a change of a turnout does while one route alone may react. -/

namespace Sys2Proof.Machine

set_option Elab.async false

section
variable {v : Env} {e a b : Ev} {u u' : Units} {n t k m i : Nat} {r : RouteCfg} {d : ReportTo} {st : RouteState}

/-! ## One route that may react (R50, R60, R61) -/

/-- No route but `n` is CLAIMING or THROWING with a need of turnout `t`. -/
def Units.onlyAwaits (k : Config) (t n : Nat) (u : Units) : Prop :=
  ∀ i r, i ≠ n → k.route i = some r → (r.turnouts ++ r.flank).any (fun x => x.1 == t) = true →
    (u.route i).state ≠ .claiming ∧ (u.route i).state ≠ .throwing

theorem onlyAwaits_of_routes {k : Config} (h : u.onlyAwaits k t n) (hr : ∀ i, i ≠ n → u'.route i = u.route i) :
    u'.onlyAwaits k t n := fun i r hi hc ht => by
  rw [hr i hi]
  exact h i r hi hc ht

theorem routeMeetsTurnout_of_onlyAwaits (h : e.u.onlyAwaits v.cfg t n) (hi : i ≠ n) : e.routeMeetsTurnout v t i = e := by
  unfold Ev.routeMeetsTurnout
  split
  · rfl
  next r hr =>
    split
    next ht =>
      obtain ⟨hc, hs⟩ := h i r hi hr ht
      split
      next hx => exact absurd hx hc
      next hx => exact absurd hx hs
      all_goals rfl
    · rfl

/-- A fold of which one step alone does anything. -/
theorem foldl_range_of_one {g : Ev → Nat → Ev} {N : Nat} (hn : n < N) (hb : ∀ i, i ≠ n → g e i = e)
    (ha : ∀ i, i ≠ n → g (g e n) i = g e n) : (List.range N).foldl g e = g e n := by
  have h : ∀ N, (List.range N).foldl g e = if n < N then g e n else e := by
    intro N
    induction N with
    | zero => rfl
    | succ N ih =>
      rw [List.range_succ, List.foldl_append, ih, List.foldl_cons, List.foldl_nil]
      obtain hlt | rfl | hgt : n < N ∨ n = N ∨ N < n := by omega
      · rw [if_pos hlt, if_pos (by omega), ha N (by omega)]
      · rw [if_neg (by omega), if_pos (by omega)]
      · rw [if_neg (by omega), if_neg (by omega), hb N (by omega)]
  rw [h, if_pos hn]

/-- R50: a change of turnout `t` reaches route `n` alone, after the signals. -/
theorem turnoutChanged_of_onlyAwaits (hn : n < 64) (h : e.u.onlyAwaits v.cfg t n)
    (hr : ∀ i, i ≠ n → ((e.turnoutReaches v t).routeMeetsTurnout v t n).u.route i = e.u.route i) :
    e.turnoutChanged v t = (e.turnoutReaches v t).routeMeetsTurnout v t n :=
  foldl_range_of_one hn
    (fun i hi => routeMeetsTurnout_of_onlyAwaits (by rw [turnoutReaches_u]; exact h) hi)
    fun i hi => routeMeetsTurnout_of_onlyAwaits (onlyAwaits_of_routes h hr) hi

/-- R60, R61: a turnout that has not failed sets the THROWING route that it was the last to be proven for. -/
theorem routeMeetsTurnout_unfailed (hc : v.cfg.route n = some r)
    (ht : (r.turnouts ++ r.flank).any (fun x => x.1 == t) = true) (hf : (e.u.turnout t).state ≠ .failed) :
    e.routeMeetsTurnout v t n
      = if (e.u.route n).state = .throwing ∧ e.u.allProven r = true then e.routeSet v n r else e := by
  unfold Ev.routeMeetsTurnout
  simp only [hc, ht, hf, if_true, if_false]
  cases (e.u.route n).state <;> simp

/-- R62: a failed turnout fails the route that awaits it. -/
theorem routeMeetsTurnout_failed (hc : v.cfg.route n = some r)
    (ht : (r.turnouts ++ r.flank).any (fun x => x.1 == t) = true) (hf : (e.u.turnout t).state = .failed)
    (hs : (e.u.route n).state = .claiming ∨ (e.u.route n).state = .throwing) :
    e.routeMeetsTurnout v t n = e.routeFail v n r .throwFailed (.turnout t) 0 := by
  unfold Ev.routeMeetsTurnout
  obtain hs | hs := hs <;> simp only [hc, ht, hf, hs, if_true]

/-! ## SET (R61, R77, R163) -/

/-- R163: READY is no outcome, so that no button is told of it. -/
theorem setStatus_ready_goes : Ev.Goes [.entries] e (e.setStatus v i .ready) := by
  unfold Ev.setStatus
  split
  · exact .refl ..
  next x _ =>
    have hc : Ev.Goes [.entries] e (if x.status = .ready then e else e.callCompose) :=
      .ite (.refl ..) ((callCompose_goes e).mono (by decide))
    exact hc.after (setEntry_goes ..) (by decide)

theorem tellSet_goes_entries : Ev.Goes [.entries] e (e.tellSet v i) := by
  unfold Ev.tellSet
  split
  · exact .ite setStatus_ready_goes (.refl ..)
  · exact .refl ..

theorem tellSet_entry {z : Entry} (h : e.u.entry i = some z) (hz : z.status = .due) :
    (e.tellSet v i).u.entry i = some { z with status := .ready } := by
  have ht : e.tellSet v i = e.setStatus v i .ready := by
    simp only [Ev.tellSet, h, hz, if_true]
  rw [ht, setStatus_entry h, if_pos rfl]
  simp [Entry.take, EntryStatus.outcome]

/-- R61, R77: what a route in SET tells its report destination and the source of its request. -/
def Ev.toldSet (v : Env) (n : Nat) (x : Route) (e : Ev) : Ev :=
  let e := e.tell v x.reportTo n .set
  match x.attached with
  | some a => (e.setRoute n fun x => { x with attached := none }).tellSet v a.source.entry
  | none => e

theorem routeSet_eq (v : Env) (n : Nat) (r : RouteCfg) (e : Ev) :
    e.routeSet v n r = (e.setRouteState v n r .set).toldSet v n (e.u.route n) := rfl

theorem toldSet_goes {x : Route} : Ev.Goes [.routes, .entries, .counters, .slots, .transmitter] e (e.toldSet v n x) := by
  have ht : Ev.Goes [.routes, .entries, .counters, .slots, .transmitter] e (e.tell v x.reportTo n .set) :=
    (tell_goes ..).mono (by decide)
  unfold Ev.toldSet
  dsimp only
  split
  · exact (ht.after (setRoute_goes n _ _) (by decide)).after tellSet_goes_entries (by decide)
  · exact ht

theorem routeSet_goes_entries :
    Ev.Goes [.routes, .control, .entries, .counters, .slots, .transmitter] e (e.routeSet v n r) := by
  rw [routeSet_eq]
  exact ((setRouteState_goes v n r .set e).mono (by decide)).after toldSet_goes (by decide)

theorem toldSet_route {x : Route} (hn : n < e.u.ilk.routes.length) (hx : (e.u.route n).attached = x.attached) (k : Nat) :
    (e.toldSet v n x).u.route k = if k = n then { e.u.route n with attached := none } else e.u.route k := by
  have htell : Ev.Goes [.counters, .slots, .transmitter] e (e.tell v x.reportTo n .set) := tell_goes ..
  have hlen : (e.tell v x.reportTo n .set).u.ilk.routes = e.u.ilk.routes := htell.keeps .routes (by decide)
  have hr := route_of_agree hlen
  unfold Ev.toldSet
  dsimp only
  split
  · rw [route_of_agree (tellSet_goes_entries.keeps .routes (by decide)), setRoute_route, hlen, hr, hr]
    simp only [hn, and_true]
  next ha =>
    rw [hr]
    split
    next hk => rw [hk, ← ha, ← hx]
    · rfl

theorem routeSet_route (hn : n < e.u.ilk.routes.length) (k : Nat) : (e.routeSet v n r).u.route k
    = if k = n then { e.u.route n with state := .set, attached := none } else e.u.route k := by
  have hset := setRouteState_route (v := v) (r := r) (st := .set) hn
  have hlen : n < (e.setRouteState v n r .set).u.ilk.routes.length := lt_of_route (by rw [hset, if_pos rfl]; nofun)
  rw [routeSet_eq, toldSet_route hlen (by rw [hset, if_pos rfl]), hset, if_pos rfl]
  split
  · rfl
  next hk => rw [hset, if_neg hk]

theorem toldSet_entry {x : Route} {q : Request} {z : Entry} (hx : x.attached = some q)
    (h : e.u.entry q.source.entry = some z) (hz : z.status = .due) :
    (e.toldSet v n x).u.entry q.source.entry = some { z with status := .ready } := by
  have htell : Ev.Goes [.counters, .slots, .transmitter] e (e.tell v x.reportTo n .set) := tell_goes ..
  unfold Ev.toldSet
  simp only [hx]
  refine tellSet_entry ?_ hz
  rw [entry_of_agree ((setRoute_goes n _ _).keeps .entries (by decide)), entry_of_agree (htell.keeps .entries (by decide))]
  exact h

theorem routeSet_entry {q : Request} {z : Entry} (hx : (e.u.route n).attached = some q)
    (h : e.u.entry q.source.entry = some z) (hz : z.status = .due) :
    (e.routeSet v n r).u.entry q.source.entry = some { z with status := .ready } := by
  rw [routeSet_eq]
  refine toldSet_entry hx ?_ hz
  rw [entry_of_agree ((setRouteState_goes v n r .set e).keeps .entries (by decide))]
  exact h

theorem toldSet_carries {x : Route} (hnum : v.sys.number = some m) (hq : e.u.lnk.ordinary.length < 16)
    (hd : x.reportTo = some d) : (e.toldSet v n x).u.lnk.carries
      ⟨d.dest v, m, .routeReport, routeReportPayload n .set 0 .none 0⟩ := by
  have hsent : (e.tell v x.reportTo n .set).u.lnk.carries ⟨d.dest v, m, .routeReport, routeReportPayload n .set 0 .none 0⟩ := by
    rw [hd]
    exact report_carries hnum hq
  unfold Ev.toldSet
  dsimp only
  split
  · exact ((setRoute_goes n _ _).onward.trans tellSet_goes_entries.onward).frames _ hsent
  · exact hsent

theorem routeSet_carries (hnum : v.sys.number = some m) (hq : e.u.lnk.ordinary.length < 16)
    (hd : (e.u.route n).reportTo = some d) : (e.routeSet v n r).u.lnk.carries
      ⟨d.dest v, m, .routeReport, routeReportPayload n .set 0 .none 0⟩ := by
  rw [routeSet_eq]
  refine toldSet_carries hnum ?_ hd
  rw [ordinary_of_agree ((setRouteState_goes v n r .set e).keeps .transmitter (by decide))]
  exact hq

/-! ## The queued throws of a route that fails (R40, R62) -/

theorem withdrawThrow_turnout_ne (hk : k ≠ t) : (e.withdrawThrow v t).u.turnout k = e.u.turnout k := by
  unfold Ev.withdrawThrow
  dsimp only
  split
  · split
    · rw [turnoutReaches_u, setTurnout_turnout_ne hk]
      rfl
    · rfl
  · rfl

theorem withdrawThrow_queue {q : Nat × Pos} (hq : q ∈ (e.withdrawThrow v t).u.tdu.queue) : q ∈ e.u.tdu.queue := by
  unfold Ev.withdrawThrow at hq
  dsimp only at hq
  split at hq
  · split at hq
    · rw [turnoutReaches_u] at hq
      exact List.mem_of_mem_filter hq
    · exact hq
  · exact hq

/-- R40: from `u` to `w` the queued throw of turnout `t` was withdrawn. -/
structure Units.Withdrawn (c : TurnoutCfg) (t : Nat) (u w : Units) : Prop where
  queue     : ∀ q ∈ w.tdu.queue, q.1 ≠ t
  commanded : (w.turnout t).commanded = (u.proven c.feedback t).getD (u.turnout t).commanded
  state     : (w.turnout t).state = restingState (u.proven c.feedback t)

variable {c : TurnoutCfg}

theorem withdrawThrow_withdrawn (hc : v.cfg.turnout t = some c) (ht : t < e.u.tdu.turnouts.length)
    (hs : (e.u.turnout t).state = .queued) (hh : (e.u.turnout t).held = false) :
    e.u.Withdrawn c t (e.withdrawThrow v t).u := by
  have hw : (e.withdrawThrow v t).u = ((e.setThrows fun q => q.filter fun y => y.1 != t).setTurnout t fun x => { x with
      state := restingState (e.u.proven c.feedback t)
      commanded := (e.u.proven c.feedback t).getD x.commanded, requester := none }).u := by
    unfold Ev.withdrawThrow
    simp only [hc, hs, hh, and_self, if_true, turnoutReaches_u]
  rw [hw]
  refine ⟨fun q hq => ?_, ?_, ?_⟩
  · simpa using (List.mem_filter.1 hq).2
  · rw [setTurnout_turnout_self (e := e.setThrows _) ht]
    rfl
  · rw [setTurnout_turnout_self (e := e.setThrows _) ht]

theorem withdrawThrow_length : (e.withdrawThrow v t).u.tdu.turnouts.length = e.u.tdu.turnouts.length := by
  unfold Ev.withdrawThrow
  dsimp only
  split
  · split
    · rw [turnoutReaches_u, setTurnout_u_tdu_turnouts, List.length_modify]
      rfl
    · rfl
  · rfl

/-- The withdrawals of other turnouts leave turnout `t` and its place in the queue as they are. -/
theorem withdraws_ne {xs : List (Nat × Pos)} (hx : t ∉ xs.map Prod.fst) (e : Ev) :
    (xs.foldl (fun e x => e.withdrawThrow v x.1) e).u.turnout t = e.u.turnout t
      ∧ (∀ q ∈ (xs.foldl (fun e x => e.withdrawThrow v x.1) e).u.tdu.queue, q ∈ e.u.tdu.queue)
      ∧ (xs.foldl (fun e x => e.withdrawThrow v x.1) e).u.tdu.turnouts.length = e.u.tdu.turnouts.length := by
  induction xs generalizing e with
  | nil => exact ⟨rfl, fun _ => id, rfl⟩
  | cons x xs ih =>
    rw [List.map_cons, List.mem_cons, not_or] at hx
    obtain ⟨ht, hq, hl⟩ := ih hx.2 (e.withdrawThrow v x.1)
    exact ⟨ht.trans (withdrawThrow_turnout_ne hx.1), fun q hm => withdrawThrow_queue (hq q hm), hl.trans withdrawThrow_length⟩

theorem withdraws_withdrawn {xs : List (Nat × Pos)} {z : Nat × Pos} (hd : (xs.map Prod.fst).Nodup) (hz : z ∈ xs)
    (hc : v.cfg.turnout z.1 = some c) (ht : z.1 < e.u.tdu.turnouts.length) (hs : (e.u.turnout z.1).state = .queued)
    (hh : (e.u.turnout z.1).held = false) :
    e.u.Withdrawn c z.1 (xs.foldl (fun e x => e.withdrawThrow v x.1) e).u := by
  obtain ⟨before, after, rfl⟩ := List.append_of_mem hz
  rw [List.map_append, List.map_cons, List.nodup_append] at hd
  obtain ⟨-, hafter, hne⟩ := hd
  have hb : z.1 ∉ before.map Prod.fst := fun hm => hne _ hm _ List.mem_cons_self rfl
  have ha : z.1 ∉ after.map Prod.fst := (List.nodup_cons.1 hafter).1
  obtain ⟨hbt, -, hbl⟩ := withdraws_ne (v := v) hb e
  rw [List.foldl_append, List.foldl_cons]
  have hw := withdrawThrow_withdrawn (v := v) (e := before.foldl (fun e x => e.withdrawThrow v x.1) e) hc (hbl.symm ▸ ht)
    (by rw [hbt]; exact hs) (by rw [hbt]; exact hh)
  obtain ⟨hat, haq, -⟩ := withdraws_ne (v := v) ha
    ((before.foldl (fun e x => e.withdrawThrow v x.1) e).withdrawThrow v z.1)
  have hp : (before.foldl (fun e x => e.withdrawThrow v x.1) e).u.proven c.feedback z.1 = e.u.proven c.feedback z.1 := by
    rw [Units.proven, hbt, Units.proven]
  refine ⟨fun q hq => hw.queue q (haq q hq), ?_, ?_⟩
  · rw [hat, hw.commanded, hp, hbt]
  · rw [hat, hw.state, hp]

end

end Sys2Proof.Machine


/-! A proof sets a THROWING route, and a failed turnout fails the route that awaits it (O29). -/

namespace Sys2Proof.Machine

set_option Elab.async false

section
variable {v : Env} {e a b : Ev} {u u' w t' : Units} {n t k m i o : Nat} {r : RouteCfg} {d : ReportTo} {c : Code} {item : Item}

/-! ## A route that fails (R62) -/

/-- R62, R73: FAILED is told to the report destination of a route, if it has one. -/
def Ev.tellFailed (v : Env) (d : Option ReportTo) (n : Nat) (c : Code) (item : Item) (o : Nat) (e : Ev) : Ev := match d with
  | some d => e.reportCode v d n .failed c item o
  | none => e

theorem tellFailed_goes {d : Option ReportTo} :
    Ev.Goes [.counters, .slots, .transmitter] e (e.tellFailed v d n c item o) := by
  unfold Ev.tellFailed
  split
  · exact reportCode_goes ..
  · exact .refl ..

/-- R62: what a route that fails gives up. -/
def Ev.failedRoute (v : Env) (n : Nat) (r : RouteCfg) (e : Ev) : Ev :=
  ((e.releaseHolds v n r).withdrawThrows v r).closedIdle v n r

theorem routeFail_of_detached (ha : (e.u.route n).attached = none) : e.routeFail v n r c item o
    = ((e.failedRoute v n r).tellFailed v (e.u.route n).reportTo n c item o).callScan := by
  unfold Ev.routeFail
  simp only [ha]
  rfl

theorem withdraws_failed {xs : List (Nat × Pos)} (h : (e.u.turnout t).state = .failed) :
    ((xs.foldl (fun e x => e.withdrawThrow v x.1) e).u.turnout t).state = .failed :=
  List.foldlRecOn (motive := fun b : Ev => (b.u.turnout t).state = .failed) _ _ h fun b hb x _ => by
    by_cases hx : t = x.1
    · have hsame : b.withdrawThrow v x.1 = b := by
        unfold Ev.withdrawThrow
        dsimp only
        split
        · exact if_neg fun hq => by
            rw [← hx, hb] at hq
            exact absurd hq.1 nofun
        · rfl
      rw [hsame]
      exact hb
    · rw [withdrawThrow_turnout_ne hx]
      exact hb

/-- R40, R62: route `n` alone holds the turnout of `z`, in its path or as a flank. -/
def Units.heldAlone (n : Nat) (r : RouteCfg) (u : Units) (z : Nat × Pos) : Prop :=
  (u.turnout z.1).pathHolder = some n ∧ (u.turnout z.1).flankCount = 0 ∧ z ∈ r.turnouts
    ∨ (u.turnout z.1).pathHolder = none ∧ (u.turnout z.1).flankCount = 1 ∧ z ∈ r.flank

theorem givenBack_unheld {z : Nat × Pos} (h : u.heldAlone n r z) : ((u.turnout z.1).givenBack n z.1 r).held = false := by
  obtain ⟨hp, hc, hz⟩ | ⟨hp, hc, hz⟩ := h
  · have hm : z.1 ∈ r.turnouts.map Prod.fst := List.mem_map_of_mem hz
    simp [Turnout.held, Turnout.givenBack, hp, hc, hm]
  · have hm : 1 ≤ (r.flank.map Prod.fst).count z.1 := List.count_pos_iff.2 (List.mem_map_of_mem hz)
    simp [Turnout.held, Turnout.givenBack, hp, hc]
    omega

/-- R40, R62, R73: from `e` to `b` route `n` failed. -/
structure Ev.RouteFails (v : Env) (n : Nat) (r : RouteCfg) (c : Code) (item : Item) (o : Nat) (e b : Ev) : Prop where
  goes      : Ev.Goes [.holders, .turnouts, .throws, .routes, .claims, .control, .counters, .slots, .transmitter] e b
  gone      : e.u.routeGone n r b.u
  others    : ∀ i, i ≠ n → b.u.route i = e.u.route i
  told      : ∀ m d, v.sys.number = some m → e.u.lnk.ordinary.length < 16 → (e.u.route n).reportTo = some d →
    b.u.lnk.carries ⟨d.dest v, m, .routeReport, routeReportPayload n .failed c.value item o⟩
  withdrawn : ∀ z ∈ r.turnouts ++ r.flank, (e.u.turnout z.1).state = .queued → ∀ g, v.cfg.turnout z.1 = some g →
    e.u.heldAlone n r z → e.u.Withdrawn g z.1 b.u
  failed    : ∀ t, (e.u.turnout t).state = .failed → (b.u.turnout t).state = .failed

/-- A turnout that was withdrawn keeps what it has while turnouts and queue stay. -/
theorem withdrawn_of_agree {g : TurnoutCfg} (h : u.Withdrawn g t w) (ht : Part.agree w u' .turnouts)
    (hq : Part.agree w u' .throws) : u.Withdrawn g t u' := by
  have hqueue : u'.tdu.queue = w.tdu.queue := hq
  refine ⟨fun q hm => h.queue q (hqueue ▸ hm), ?_, ?_⟩
  · rw [turnout_of_agree ht, h.commanded]
  · rw [turnout_of_agree ht, h.state]

theorem lt_of_turnout_state (h : (u.turnout t).state ≠ .unknown) : t < u.tdu.turnouts.length := by
  by_contra ht
  rw [turnout_eq_initial ht] at h
  exact h rfl

theorem failedRoute_fails (hn : n < e.u.ilk.routes.length) (hk : n < e.u.clu.claims.length)
    (hd : ((r.turnouts ++ r.flank).map Prod.fst).Nodup) (ha : (e.u.route n).attached = none) :
    Ev.RouteFails v n r c item o e (e.routeFail v n r c item o) := by
  have hg : Ev.GivenUp n r [.throws] e (e.failedRoute v n r) := withdrawn_givenUp hn hk
  have ht : Ev.Goes _ (e.failedRoute v n r) ((e.failedRoute v n r).tellFailed v (e.u.route n).reportTo n c item o) :=
    tellFailed_goes
  have hclosed : Ev.Goes _ ((e.releaseHolds v n r).withdrawThrows v r) (e.failedRoute v n r) := closedIdle_goes
  have hboth : Ev.Goes [.routes, .claims, .control, .counters, .slots, .transmitter]
      ((e.releaseHolds v n r).withdrawThrows v r) ((e.failedRoute v n r).tellFailed v (e.u.route n).reportTo n c item o) :=
    hclosed.after ht (by decide)
  have hheld : Ev.Goes [.holders, .turnouts, .throws] e ((e.releaseHolds v n r).withdrawThrows v r) :=
    (releaseHolds_goes_holds.mono (by decide)).after (withdrawThrows_goes v r _) (by decide)
  have hroutes : ((e.releaseHolds v n r).withdrawThrows v r).u.ilk.routes = e.u.ilk.routes := hheld.keeps .routes (by decide)
  have hrecord (k : Nat) : (e.releaseHolds v n r).u.turnout k = (e.u.turnout k).givenBack n k r := releaseHolds_turnout k
  rw [routeFail_of_detached ha]
  refine ⟨(hg.goes.mono (by decide)).after ht (by decide), routeGone_of_goes hg.gone ht, fun i hi => ?_,
    fun m d hnum hq hr => ?_, fun z hz hs g hc hh => ?_, fun t hf => ?_⟩
  · refine (route_of_agree (ht.keeps .routes (by decide)) i).trans ?_
    rw [Ev.failedRoute, closedIdle_route (hroutes ▸ hn), if_neg hi, route_of_agree hroutes]
  · have hsent : ((e.failedRoute v n r).tellFailed v (e.u.route n).reportTo n c item o).u.lnk.carries
        ⟨d.dest v, m, .routeReport, routeReportPayload n .failed c.value item o⟩ := by
      rw [hr]
      exact send_ordinary_carries hnum rfl (lt_of_eq_of_lt (congrArg List.length hg.ordinary) hq)
    exact hsent
  · have hx : (e.releaseHolds v n r).u.Withdrawn g z.1 ((e.releaseHolds v n r).withdrawThrows v r).u :=
      withdraws_withdrawn (e := e.releaseHolds v n r) hd hz hc
        (lt_of_turnout_state (by rw [hrecord]; exact fun hx => nomatch hs.symm.trans hx)) (by rw [hrecord]; exact hs)
        (by rw [hrecord]; exact givenBack_unheld hh)
    have hproven : (e.releaseHolds v n r).u.proven g.feedback z.1 = e.u.proven g.feedback z.1 :=
      proven_congr (by rw [hrecord]; rfl) (by rw [hrecord]; rfl) (by rw [hrecord]; rfl)
    have hfrom : e.u.Withdrawn g z.1 ((e.releaseHolds v n r).withdrawThrows v r).u := by
      obtain ⟨hqueue, hcommanded, hstate⟩ := hx
      rw [hproven] at hcommanded hstate
      rw [hrecord] at hcommanded
      exact ⟨hqueue, hcommanded, hstate⟩
    exact withdrawn_of_agree hfrom (hboth.keeps .turnouts (by decide)) (hboth.keeps .throws (by decide))
  · refine (congrArg Turnout.state (turnout_of_agree (hboth.keeps .turnouts (by decide)) t)).trans ?_
    refine withdraws_failed (e := e.releaseHolds v n r) ?_
    rw [hrecord]
    exact hf

/-! ## A turnout that fails, and the route with it (R46, R50, R62) -/

variable {j : FaultKind}

/-- R46, R50: what the entry of turnout `t` into FAILED makes of the units before a route meets it. -/
def Ev.failedShown (v : Env) (t : Nat) (j : FaultKind) (e : Ev) : Ev :=
  ((e.failed v t j).raiseTurnout v t).turnoutReaches v t

theorem failedShown_u : (e.failedShown v t j).u = (e.failed v t j).u := by
  rw [Ev.failedShown, turnoutReaches_u, raiseTurnout_u]

section
variable (hn : n < 64) (hl : n < e.u.ilk.routes.length) (hk : n < e.u.clu.claims.length)
  (ht : t < e.u.tdu.turnouts.length) (h : e.u.onlyAwaits v.cfg t n) (hc : v.cfg.route n = some r)
  (hneeds : t ∈ (r.turnouts ++ r.flank).map Prod.fst) (hd : ((r.turnouts ++ r.flank).map Prod.fst).Nodup)
  (hs : (e.u.route n).state = .claiming ∨ (e.u.route n).state = .throwing) (ha : (e.u.route n).attached = none)
  (hm : (e.u.turnout t).state = .moving → v.isMotor t = false)
include hn hl hk ht h hc hneeds hd hs ha hm

theorem enterFailed_routeFails :
    Ev.RouteFails v n r .throwFailed (.turnout t) 0 (e.failedShown v t j) (e.enterFailed v t j) := by
  let z := e.failedShown v t j
  have hz : z.u = (e.failed v t j).u := failedShown_u
  have hg : Ev.Goes [.turnouts, .throws, .record, .counters, .slots, .transmitter] e z := by
    unfold Ev.Goes
    rw [hz]
    exact failed_goes
  have hroutes : z.u.ilk.routes = e.u.ilk.routes := hg.keeps .routes (by decide)
  have hclaims : z.u.clu.claims = e.u.clu.claims := hg.keeps .claims (by decide)
  have hroute := route_of_agree hroutes
  have hany : (r.turnouts ++ r.flank).any (fun x => x.1 == t) = true := by
    obtain ⟨x, hx, rfl⟩ := List.mem_map.1 hneeds
    exact List.any_eq_true.2 ⟨x, hx, beq_self_eq_true _⟩
  have hfails : Ev.RouteFails v n r .throwFailed (.turnout t) 0 z (z.routeFail v n r .throwFailed (.turnout t) 0) :=
    failedRoute_fails (by rw [hroutes]; exact hl) (by rw [hclaims]; exact hk) hd (by rw [hroute]; exact ha)
  have hmeets : z.routeMeetsTurnout v t n = z.routeFail v n r .throwFailed (.turnout t) 0 :=
    routeMeetsTurnout_failed hc hany (by rw [hz, failed_turnout ht]) (by rw [hroute]; exact hs)
  have hraised : ((e.failed v t j).raiseTurnout v t).u = z.u := by rw [hz, raiseTurnout_u]
  have hchanged : ((e.failed v t j).raiseTurnout v t).turnoutChanged v t = z.routeFail v n r .throwFailed (.turnout t) 0 := by
    refine (turnoutChanged_of_onlyAwaits hn ?_ fun i hi => ?_).trans hmeets
    · rw [hraised]
      exact onlyAwaits_of_routes h fun i _ => hroute i
    · rw [hraised]
      exact (congrArg (fun b : Ev => b.u.route i) hmeets).trans (hfails.others i hi)
  have hend : e.enterFailed v t j = z.routeFail v n r .throwFailed (.turnout t) 0 := by
    show (if _ then _ else _ : Ev) = _
    rw [if_neg fun hx => by
      rw [hm hx.1] at hx
      exact absurd hx.2 nofun]
    exact hchanged
  rw [hend]
  exact hfails

end

/-- The units before a route fails may be read where only the state of turnouts differs. -/
theorem routeGone_of_before (h : u'.routeGone n r w) (hh : Part.agree u u' .holders) (hs : Part.agree u u' .control)
    (hc : Part.agree u u' .claims) (hp : ∀ k, (u'.turnout k).pathHolder = (u.turnout k).pathHolder) : u.routeGone n r w := by
  obtain ⟨hroute, hsignal, hholder, hpath, hclaim⟩ := h
  refine ⟨hroute, ?_, fun b => ?_, fun k => ?_, fun hf => ?_⟩
  · rw [hsignal, evaluated_of_agree hs]
  · rw [hholder, holder_of_agree hh]
  · rw [hpath, hp]
  · rw [hclaim hf, claim_of_agree hc]

end

end Sys2Proof.Machine


/-! The events of a turnout that a route awaits (O29). -/

namespace Sys2Proof.Machine

set_option Elab.async false

section
variable {v : Env} {e a b : Ev} {t m : Nat} {f : Turnout → Turnout} {k : Code} {j : FaultKind}

/-- R49, R190: the answer to a requester is one frame. -/
theorem settleRequester_queue_length (hnum : v.sys.number = some m) (hq : e.u.lnk.ordinary.length < 16) :
    (e.settleRequester v t k).u.lnk.ordinary.length ≤ e.u.lnk.ordinary.length + 1 := by
  unfold Ev.settleRequester
  split
  · rw [answer_of_room (e := e.setTurnout t _) hnum hq]
    exact le_of_eq List.length_append
  · exact Nat.le_succ _

theorem failed_queue_length (hnum : v.sys.number = some m) (hq : e.u.lnk.ordinary.length < 16) :
    (e.failed v t j).u.lnk.ordinary.length ≤ e.u.lnk.ordinary.length + 1 := by
  let z := (e.setThrows fun q => q.filter fun x => x.1 != t).settledBy v t (fun x => { x with state := .failed, drive := none })
    .throwFailed
  have hz : Ev.Goes [.slots] z (z.link (Link.addFailedTurnout t)) := link_addFailedTurnout_goes t z
  have hw : Ev.Goes [.record] (z.link (Link.addFailedTurnout t)) (e.failed v t j) := writeFault_goes ..
  rw [ordinary_of_agree (hw.keeps .transmitter (by decide)), ordinary_of_agree (hz.keeps .transmitter (by decide))]
  exact settleRequester_queue_length hnum hq

end

section
variable {s t : State} {v : Env} {e : Ev} {n k m : Nat} {r : RouteCfg} {d : ReportTo} {j : FaultKind}

/-- What O29 says of a route that a failed turnout `k` fails. -/
structure State.ShowsFailure (s : State) (n k : Nat) (r : RouteCfg) (u : Units) : Prop where
  gone      : s.units.routeGone n r u
  failed    : (u.turnout k).state = .failed
  told      : ∀ m d, s.sys.number = some m → s.units.lnk.ordinary.length < 15 → (s.units.route n).reportTo = some d →
    u.lnk.carries ⟨d.dest s.env, m, .routeReport, routeReportPayload n .failed Code.throwFailed.value (.turnout k) 0⟩
  withdrawn : ∀ z ∈ r.turnouts ++ r.flank, z.1 ≠ k → (s.units.turnout z.1).state = .queued →
    ∀ g, s.sys.cfg.turnout z.1 = some g → s.units.heldAlone n r z → s.units.Withdrawn g z.1 u

/-- What O29 asks of the station and of route `n`, whose record is `r`, for turnout `k`. -/
structure State.Awaited (s : State) (n k : Nat) (r : RouteCfg) : Prop where
  sound  : s.sound
  waits  : s.units.nothingWaits
  lt     : n < 64
  record : s.sys.cfg.route n = some r
  once   : ((r.turnouts ++ r.flank).map Prod.fst).Nodup
  needed : k ∈ (r.turnouts ++ r.flank).map Prod.fst
  only   : s.units.onlyAwaits s.sys.cfg k n

/-- The units in which a reading has changed at most the state of turnout `k`, or none. -/
structure State.ReadsAs (s : State) (k : Nat) (v : Env) (e : Ev) : Prop where
  env    : v.sys = s.sys
  goes   : Ev.Goes [.turnouts] (.start s.units) e
  others : ∀ i, i ≠ k → e.u.turnout i = s.units.turnout i
  path   : (e.u.turnout k).pathHolder = (s.units.turnout k).pathHolder
  known  : k < e.u.tdu.turnouts.length

/-- R46, R50, R62: a turnout that fails, and with it the route that awaits it. -/
theorem enterFailed_shows (h : s.Awaited n k r) (hr : s.ReadsAs k v e)
    (hs : (s.units.route n).state = .claiming ∨ (s.units.route n).state = .throwing)
    (ha : (s.units.route n).attached = none) (hm : (e.u.turnout k).state = .moving → v.isMotor k = false) :
    Ev.Goes ([.holders, .turnouts, .throws, .routes, .claims, .control, .record] ++ Part.ofCalm) e (e.enterFailed v k j)
      ∧ ∀ u, Goes Part.ofCalm (e.enterFailed v k j).u u → s.ShowsFailure n k r u := by
  obtain ⟨hsound, hw, hn, hc, hd, hneeds, honly⟩ := h
  obtain ⟨hv, hgoes, hothers, hpath, hknown⟩ := hr
  have hroutes : e.u.ilk.routes = s.units.ilk.routes := hgoes.keeps .routes (by decide)
  have hclaims : e.u.clu.claims = s.units.clu.claims := hgoes.keeps .claims (by decide)
  have hroute := route_of_agree hroutes
  have hcfg : v.cfg = s.sys.cfg := congrArg Sys.cfg hv
  have hfails : Ev.RouteFails v n r .throwFailed (.turnout k) 0 (e.failedShown v k j) (e.enterFailed v k j) :=
    enterFailed_routeFails hn (hroutes.symm ▸ (routes_of_sound hsound.units).symm ▸ hn)
      (hclaims.symm ▸ (claims_of_sound hsound.units).symm ▸ hn) hknown
      (by rw [hcfg]; exact onlyAwaits_of_routes honly fun i _ => hroute i) (by rw [hcfg]; exact hc) hneeds hd
      (by rw [hroute]; exact hs) (by rw [hroute]; exact ha) hm
  have hshown : (e.failedShown v k j).u = (e.failed v k j).u := failedShown_u
  have hfailed : Ev.Goes [.turnouts, .throws, .record, .counters, .slots, .transmitter] e (e.failedShown v k j) := by
    unfold Ev.Goes
    rw [hshown]
    exact failed_goes
  have hboth : Ev.Goes [.turnouts, .throws, .record, .counters, .slots, .transmitter] (.start s.units) (e.failedShown v k j) :=
    (hgoes.mono (by decide)).trans hfailed
  have hrecord (i : Nat) (hi : i ≠ k) : (e.failedShown v k j).u.turnout i = s.units.turnout i := by
    rw [hshown, failed_turnout_ne hi, hothers i hi]
  have hself : (e.failedShown v k j).u.turnout k
      = { e.u.turnout k with state := .failed, drive := none, requester := none } := by
    rw [hshown, failed_turnout hknown]
  have hholder (i : Nat) : ((e.failedShown v k j).u.turnout i).pathHolder = (s.units.turnout i).pathHolder := by
    by_cases hi : i = k
    · rw [hi, hself]
      exact hpath
    · rw [hrecord i hi]
  refine ⟨(hfailed.mono (by decide)).after hfails.goes (by decide), fun u hu => ⟨?_, ?_, fun m d hnum hq hrep => ?_,
    fun z hz hzk hqueued g hg hheld => ?_⟩⟩
  · exact routeGone_of_before (routeGone_of_goes hfails.gone hu) (hboth.keeps .holders (by decide))
      (hboth.keeps .control (by decide)) (hboth.keeps .claims (by decide)) hholder
  · rw [turnout_of_agree (hu.keeps .turnouts (by decide))]
    exact hfails.failed k (by rw [hself])
  · have hnum' : v.sys.number = some m := by rw [hv]; exact hnum
    have hq' : e.u.lnk.ordinary.length < 15 := by
      rw [ordinary_of_agree (hgoes.keeps .transmitter (by decide))]
      exact hq
    have hroom : (e.failedShown v k j).u.lnk.ordinary.length < 16 := by
      rw [hshown]
      exact lt_of_le_of_lt (failed_queue_length hnum' (by omega)) (by omega)
    have hdest : d.dest v = d.dest s.env := by
      cases d with
      | station => rfl
      | noticeGroup => exact congrArg (fun c : Config => 64 + c.station.noticeGroup) hcfg
    have htold := hfails.told m d hnum' hroom (by rw [route_of_agree (hboth.keeps .routes (by decide))]; exact hrep)
    rw [hdest] at htold
    exact hu.onward.frames _ htold
  · have hsame := hrecord z.1 hzk
    have hwas : s.units.Withdrawn g z.1 (e.enterFailed v k j).u := by
      obtain ⟨hqueue, hcommanded, hstate⟩ := hfails.withdrawn z hz (by rw [hsame]; exact hqueued) g (by rw [hcfg]; exact hg)
        (by unfold Units.heldAlone; rw [hsame]; exact hheld)
      rw [Units.proven, hsame] at hcommanded hstate
      exact ⟨hqueue, hcommanded, hstate⟩
    exact withdrawn_of_agree hwas (hu.keeps .turnouts (by decide)) (hu.keeps .throws (by decide))

end

end Sys2Proof.Machine


/-! The proof that sets a route, and what fails one (O29). -/

namespace Sys2Proof.Machine

set_option Elab.async false

section
variable {s t : State} {v : Env} {e : Ev} {n k m j : Nat} {r : RouteCfg} {c : TurnoutCfg} {d : Drive} {x : Turnout} {pos : Pos}
  {normal reverse : Bool}

/-! ## The turnout fails (R46, R50, R62) -/

section
variable (h : s.Awaited n k r) (hr : s.sys.station = .running) (hc : s.sys.cfg.turnout k = some c)
  (hx : s.units.tdu.turnouts[k]? = some x)
  (hs : (s.units.route n).state = .claiming ∨ (s.units.route n).state = .throwing)
  (ha : (s.units.route n).attached = none)
include h hr hc hx hs ha

/-- R46: both contacts shown. -/
theorem bothContacts_failRoute (hk : c.feedback = .twoContact)
    (hreads : readingChanges c.feedback (x.normalIn.level, x.reverseIn.level) (true, true) = true)
    (hm : x.state = .moving → c.drive = .solenoid) :
    ∃ t, exec (.turnoutFeedbackChange k true true) s = .next t ∧ s.ShowsFailure n k r t.units
      ∧ s.units.keepsBut ([.holders, .turnouts, .throws, .routes, .claims, .control, .record] ++ Part.ofCalm) t.units := by
  have hl := lt_of_turnout hx
  have hread : (s.reading c.feedback k true true).u.turnout k = _ := reading_turnout hl
  have hreads' : s.ReadsAs k (s.contacts k true true).env (s.reading c.feedback k true true) :=
    ⟨rfl, reading_goes, fun i hi => reading_turnout_ne hi, by rw [hread]; rfl, reading_records.symm ▸ hl⟩
  obtain ⟨hgoes, hshows⟩ := enterFailed_shows (j := .contactsBoth) h hreads' hs ha fun hmov => by
    rw [hread] at hmov
    have hcfg : (s.contacts k true true).env.cfg.turnout k = some c := hc
    simp [Env.isMotor, hcfg, hm (turnout_of hx ▸ hmov)]
  obtain ⟨t, ht, hcalm, hkeep⟩ := feedback_event hr hc hx h.waits hreads (by rw [hk]; rfl) hgoes (by decide)
  exact ⟨t, ht, hshows t.units hcalm, hkeep⟩

/-- R43, R46: the confirm window that runs out. -/
theorem confirmWindow_failsRoute (hd : c.drive = .solenoid) (hw : x.drive = some ⟨pos, .window j⟩) (hp : x.commanded = pos) :
    ∃ t, exec (.confirmWindowExpiry k) s = .next t ∧ s.ShowsFailure n k r t.units
      ∧ s.units.keepsBut ([.holders, .turnouts, .throws, .routes, .claims, .control, .record] ++ Part.ofCalm) t.units := by
  have hreads : s.ReadsAs k s.env (.start s.units) :=
    ⟨rfl, .refl .., fun _ _ => rfl, rfl, lt_of_turnout hx⟩
  obtain ⟨hgoes, hshows⟩ := enterFailed_shows (j := .throwTimeout) h hreads hs ha fun _ => by
    have hcfg : s.env.cfg.turnout k = some c := hc
    simp [Env.isMotor, hcfg, hd]
  have hturnout : (Ev.start s.units).u.turnout k = x := turnout_of hx
  have hend : (Ev.start s.units).driveEnd s.env k false = (Ev.start s.units).enterFailed s.env k .throwTimeout :=
    driveEnd_unproven (by rw [hturnout]; exact hw) (by rw [hturnout]; exact hp)
  obtain ⟨g, hexec, hg⟩ := confirmWindowExpiry_endsDrive hr hx hw
  rw [timed_same hx, hend] at hg
  obtain ⟨hcalm, hkeep⟩ := event_of_nothingWaits (s := s) (g := g) h.waits (congrArg Ev.u hg) hgoes
  exact ⟨_, hexec, hshows _ hcalm, hkeep⟩

end

end

end Sys2Proof.Machine


/-! The proof that sets a route (O29). -/

namespace Sys2Proof.Machine

set_option Elab.async false

section
variable {v : Env} {e : Ev} {n i t m : Nat} {r : RouteCfg} {d : Drive} {p : Pos}

/-- R43, R44: turnout `t` has come to rest at `p`, its requester is answered and the signals see it. -/
def Ev.atRest (v : Env) (t : Nat) (p : Pos) (e : Ev) : Ev :=
  (e.settledBy v t (fun x => { x with state := .at p, drive := none }) .done).turnoutReaches v t

theorem atRest_u : (e.atRest v t p).u = (e.settledBy v t (fun x => { x with state := .at p, drive := none }) .done).u :=
  turnoutReaches_u ..

theorem atRest_goes : Ev.Goes [.turnouts, .counters, .slots, .transmitter] e (e.atRest v t p) := by
  unfold Ev.Goes
  rw [atRest_u]
  exact settledBy_goes

theorem atRest_state (ht : t < e.u.tdu.turnouts.length) : ((e.atRest v t p).u.turnout t).state = .at p := by
  rw [atRest_u, settledBy_turnout ht]

theorem atRest_turnout_ne (hi : i ≠ t) : (e.atRest v t p).u.turnout i = e.u.turnout i := by
  rw [atRest_u, settledBy_turnout_ne hi]

theorem atRest_queue_length (hnum : v.sys.number = some m) (hq : e.u.lnk.ordinary.length < 16) :
    (e.atRest v t p).u.lnk.ordinary.length ≤ e.u.lnk.ordinary.length + 1 := by
  rw [atRest_u]
  exact settleRequester_queue_length (e := e.setTurnout t _) hnum hq

/-- R61: with turnout `t` at rest in `p`, a route that needs it is proven if it needs it in `p` and the others are. -/
theorem atRest_allProven (ht : t < e.u.tdu.turnouts.length) : (e.atRest v t p).u.allProven r = true
    ↔ ∀ z ∈ r.turnouts ++ r.flank, if z.1 = t then z.2 = p else (e.u.turnout z.1).state = .at z.2 := by
  rw [allProven_iff]
  refine forall₂_congr fun z _ => ?_
  split
  next hz =>
    rw [hz, atRest_state ht]
    cases p <;> cases z.2 <;> simp [TurnoutState.at]
  next hz => rw [atRest_turnout_ne hz]

/-- R60, R61: the route that awaits turnout `t` is set, if with `t` at rest all its turnouts are proven. -/
def Ev.provenFor (v : Env) (t : Nat) (p : Pos) (n : Nat) (r : RouteCfg) (e : Ev) : Ev :=
  let a := e.atRest v t p
  if (e.u.route n).state = .throwing ∧ a.u.allProven r = true then a.routeSet v n r else a

theorem provenFor_goes : Ev.Goes [.turnouts, .routes, .control, .entries, .counters, .slots, .transmitter] e
    (e.provenFor v t p n r) :=
  have hg : Ev.Goes [.turnouts, .routes, .control, .entries, .counters, .slots, .transmitter] e (e.atRest v t p) :=
    atRest_goes.mono (by decide)
  .ite (hg.after routeSet_goes_entries (by decide)) hg

/-- R43, R44, R50: the drive that ends proven reaches the one route that awaits its turnout. -/
theorem driveEnd_provenFor (hn : n < 64) (hl : n < e.u.ilk.routes.length) (ht : t < e.u.tdu.turnouts.length)
    (h : e.u.onlyAwaits v.cfg t n) (hc : v.cfg.route n = some r) (hneeds : t ∈ (r.turnouts ++ r.flank).map Prod.fst)
    (hd : (e.u.turnout t).drive = some d) (hp : (e.u.turnout t).commanded = d.pos) (hq : e.u.tdu.queue = []) :
    e.driveEnd v t true = e.provenFor v t d.pos n r := by
  let a := e.settledBy v t (fun x => { x with state := .at d.pos, drive := none }) .done
  have ha : (a.turnoutReaches v t) = e.atRest v t d.pos := rfl
  have hroutes : (e.atRest v t d.pos).u.ilk.routes = e.u.ilk.routes := atRest_goes.keeps .routes (by decide)
  have hany : (r.turnouts ++ r.flank).any (fun x => x.1 == t) = true := by
    obtain ⟨x, hx, rfl⟩ := List.mem_map.1 hneeds
    exact List.any_eq_true.2 ⟨x, hx, beq_self_eq_true _⟩
  have hunfailed : ((e.atRest v t d.pos).u.turnout t).state ≠ .failed := by
    rw [atRest_state ht]
    cases d.pos <;> nofun
  have hmeets : (a.turnoutReaches v t).routeMeetsTurnout v t n = e.provenFor v t d.pos n r := by
    rw [ha, routeMeetsTurnout_unfailed hc hany hunfailed, route_of_agree hroutes]
    rfl
  have hothers (i : Nat) (hi : i ≠ n) : (e.provenFor v t d.pos n r).u.route i = e.u.route i := by
    unfold Ev.provenFor
    dsimp only
    split
    · rw [routeSet_route (by rw [hroutes]; exact hl), if_neg hi, route_of_agree hroutes]
    · rw [route_of_agree hroutes]
  have hsame : a.u.ilk.routes = e.u.ilk.routes := settledBy_goes.keeps .routes (by decide)
  have hchanged : a.turnoutChanged v t = e.provenFor v t d.pos n r := by
    refine (turnoutChanged_of_onlyAwaits hn (onlyAwaits_of_routes h fun i _ => route_of_agree hsame i) fun i hi => ?_).trans hmeets
    rw [hmeets, hothers i hi, route_of_agree hsame]
  have hempty : (e.provenFor v t d.pos n r).u.tdu.queue = [] := (provenFor_goes.keeps .throws (by decide)).trans hq
  simp only [Ev.driveEnd, hd, hp, ne_eq, not_true_eq_false, if_false, if_true]
  show (if _ then (a.turnoutChanged v t).arbiter v else a.turnoutChanged v t : Ev) = _
  rw [hchanged, arbiter_of_empty hempty, ite_self]

end

section
variable {s : State} {v : Env} {n k : Nat} {r : RouteCfg} {c : TurnoutCfg} {d : Drive} {x : Turnout} {p : Option Pos}
  {normal reverse : Bool}

/-- What O29 says of route `n` once turnout `k` has come to rest at `pos`. -/
structure State.ShowsProof (s : State) (n k : Nat) (r : RouteCfg) (pos : Pos) (u : Units) : Prop where
  rests    : (u.turnout k).state = .at pos
  claiming : (s.units.route n).state = .claiming → u.route n = s.units.route n
  unproven : (s.units.route n).state = .throwing →
    (∃ z ∈ r.turnouts ++ r.flank, z.1 ≠ k ∧ (s.units.turnout z.1).state ≠ .at z.2) → u.route n = s.units.route n
  set      : (s.units.route n).state = .throwing →
    (∀ z ∈ r.turnouts ++ r.flank, if z.1 = k then z.2 = pos else (s.units.turnout z.1).state = .at z.2) →
    u.route n = { s.units.route n with state := .set, attached := none }
    ∧ (∀ m d, s.sys.number = some m → s.units.lnk.ordinary.length < 15 → (s.units.route n).reportTo = some d →
        u.lnk.carries ⟨d.dest s.env, m, .routeReport, routeReportPayload n .set 0 .none 0⟩)
    ∧ ∀ a z, (s.units.route n).attached = some a → s.units.entry a.source.entry = some z → z.status = .due →
        u.entry a.source.entry = some { z with status := .ready }

/-- R60, R61: what the route shows at the end of the event in which the last proof may have come. -/
theorem provenFor_shows {e : Ev} {pos : Pos} {u : Units} (h : s.Awaited n k r) (hr : s.ReadsAs k v e)
    (hu : Goes Part.ofCalm (e.provenFor v k pos n r).u u) : s.ShowsProof n k r pos u := by
  obtain ⟨hsound, hw, hn, hc, hd, hneeds, honly⟩ := h
  obtain ⟨hv, hgoes, hothers, hpath, hknown⟩ := hr
  have hroutes : e.u.ilk.routes = s.units.ilk.routes := hgoes.keeps .routes (by decide)
  have hlen : n < e.u.ilk.routes.length := by rw [hroutes, routes_of_sound hsound.units]; exact hn
  have hrest : Ev.Goes [.turnouts, .counters, .slots, .transmitter] e (e.atRest v k pos) := atRest_goes
  have hboth : Ev.Goes [.turnouts, .counters, .slots, .transmitter] (.start s.units) (e.atRest v k pos) :=
    (hgoes.mono (by decide)).trans hrest
  have hsame : (e.atRest v k pos).u.ilk.routes = s.units.ilk.routes := hboth.keeps .routes (by decide)
  have hproven : (e.atRest v k pos).u.allProven r = true ↔ ∀ z ∈ r.turnouts ++ r.flank,
      if z.1 = k then z.2 = pos else (s.units.turnout z.1).state = .at z.2 := by
    rw [atRest_allProven hknown]
    refine forall₂_congr fun z _ => ?_
    split
    · rfl
    next hz => rw [hothers _ hz]
  have hstay (hx : ¬ ((s.units.route n).state = .throwing ∧ (e.atRest v k pos).u.allProven r = true)) :
      u.route n = s.units.route n := by
    rw [route_of_agree (hu.keeps .routes (by decide)), Ev.provenFor, route_of_agree hroutes]
    rw [if_neg hx, route_of_agree hsame]
  refine ⟨?_, fun hs => hstay fun hx => ?_, fun hs ⟨z, hz, hzk, hza⟩ => hstay fun hx => ?_, fun hs hall => ?_⟩
  · rw [turnout_of_agree (hu.keeps .turnouts (by decide)), Ev.provenFor]
    split
    · rw [turnout_of_agree (routeSet_goes_entries.keeps .turnouts (by decide)), atRest_state hknown]
    · exact atRest_state hknown
  · rw [hs] at hx
    exact nomatch hx.1
  · have hz' := hproven.1 hx.2 z hz
    rw [if_neg hzk] at hz'
    exact hza hz'
  · have hset : e.provenFor v k pos n r = (e.atRest v k pos).routeSet v n r := by
      unfold Ev.provenFor
      dsimp only
      rw [route_of_agree hroutes]
      exact if_pos ⟨hs, hproven.2 hall⟩
    rw [hset] at hu
    refine ⟨?_, fun m d hnum hq hrep => ?_, fun a z ha hz hdue => ?_⟩
    · rw [route_of_agree (hu.keeps .routes (by decide)), routeSet_route (by rw [hsame, ← hroutes]; exact hlen), if_pos rfl,
        route_of_agree hsame]
    · have hnum' : v.sys.number = some m := by rw [hv]; exact hnum
      have hq' : e.u.lnk.ordinary.length < 15 := by
        rw [ordinary_of_agree (hgoes.keeps .transmitter (by decide))]
        exact hq
      have hroom : (e.atRest v k pos).u.lnk.ordinary.length < 16 :=
        lt_of_le_of_lt (atRest_queue_length hnum' (by omega)) (by omega)
      have hdest : d.dest v = d.dest s.env := by
        cases d with
        | station => rfl
        | noticeGroup => exact congrArg (fun g : Sys => 64 + g.cfg.station.noticeGroup) hv
      have htold := routeSet_carries (r := r) hnum' hroom (by rw [route_of_agree hsame]; exact hrep)
      rw [hdest] at htold
      exact hu.onward.frames _ htold
    · rw [entry_of_agree (hu.keeps .entries (by decide))]
      exact routeSet_entry (by rw [route_of_agree hsame]; exact ha)
        (by rw [entry_of_agree (hboth.keeps .entries (by decide))]; exact hz) hdue

/-- R43, R44, R60, R61: the reading that proves the drive of a turnout that a route awaits. -/
theorem State.Reads.provesForRoute (h : s.Reads k c normal reverse x p) (ha : s.Awaited n k r) (hs : x.state = .moving)
    (hd : x.drive = some d) (hg : d.stage ≠ .pulse) (hp : p = some d.pos) (hc : x.commanded = d.pos)
    (hq : s.units.tdu.queue = []) :
    ∃ t, exec (.turnoutFeedbackChange k normal reverse) s = .next t ∧ s.ShowsProof n k r d.pos t.units
      ∧ s.units.keepsBut ([.turnouts, .routes, .control, .entries] ++ Part.ofCalm) t.units := by
  have hread := h.turnout
  have hreads : s.ReadsAs k (s.contacts k normal reverse).env (s.reading c.feedback k normal reverse) :=
    ⟨rfl, reading_goes, fun i hi => reading_turnout_ne hi, by rw [hread, ← turnout_of h.record]; rfl, h.lt⟩
  have hroutes : (s.reading c.feedback k normal reverse).u.ilk.routes = s.units.ilk.routes :=
    reading_goes.keeps .routes (by decide)
  have hend := driveEnd_provenFor (v := (s.contacts k normal reverse).env) (d := d) ha.lt
    (by rw [hroutes, routes_of_sound ha.sound.units]; exact ha.lt) h.lt
    (onlyAwaits_of_routes ha.only fun i _ => route_of_agree hroutes i) ha.record ha.needed
    (by rw [hread]; exact hd) (by rw [hread]; exact hc) hq
  obtain ⟨t, ht, hcalm, hkeep⟩ := h.reacts ha.waits ((h.moving_ends hs hd hg hp).trans hend)
    (ps := [.turnouts, .routes, .control, .entries] ++ Part.ofCalm) (provenFor_goes.mono (by decide)) (by decide)
  exact ⟨t, ht, provenFor_shows ha hreads hcalm, hkeep⟩

end

/-- Settles O29: one route alone may react, so that the proof of a turnout sets it, and its failure fails it. -/
theorem turnoutChangesReachRoutes : Obligations.TurnoutChangesReachRoutes := by
  intro s n k r c normal reverse x hr hsound hw hn hc needs hd hneeds hk hkind hx hlevel honly y
  have h : s.Awaited n k r := ⟨hsound, hw, hn, hc, hd, hneeds, honly⟩
  have hreads : readingChanges c.feedback (x.normalIn.level, x.reverseIn.level) (normal, reverse) = true := by
    rw [readingChanges_eq, hkind]
    simpa using hlevel
  refine ⟨fun d pos hs hdrive hg hpos hcmd hnormal hreverse hq => ?_, fun hs ha => ?_⟩
  · subst hpos
    have hread : s.Reads k c normal reverse x (some d.pos) := by
      refine reads_of_kind hr hk hx (.inl ⟨hkind, hlevel, ?_, ?_⟩)
      all_goals
        rw [hnormal, hreverse]
        cases d.pos <;> rfl
    obtain ⟨t, ht, ⟨hrests, hclaiming, hunproven, hset⟩, hkeep⟩ := hread.provesForRoute h hs hdrive hg rfl hcmd hq
    exact ⟨t, ht, hrests, hclaiming, hunproven, hset, hkeep⟩
  · intro failed
    have fails (t : State) (hshows : s.ShowsFailure n k r t.units)
        (hkeep : s.units.keepsBut ([.holders, .turnouts, .throws, .routes, .claims, .control, .record] ++ Part.ofCalm)
          t.units) : failed t := by
      refine ⟨hshows.gone, hshows.failed, hshows.told, fun z hz hzk hqueued g hg hheld => ?_, hkeep⟩
      obtain ⟨hqueue, hcommanded, hstate⟩ := hshows.withdrawn z hz hzk hqueued g hg hheld
      refine ⟨hqueue, hcommanded, hstate.trans ?_⟩
      rcases s.units.proven g.feedback z.1 with _ | _ | _ <;> rfl
    refine ⟨fun hnormal hreverse hm => ?_, fun pos j hdrive hwindow hcmd => ?_⟩
    · subst hnormal hreverse
      obtain ⟨t, ht, hshows, hkeep⟩ := bothContacts_failRoute h hr hk hx hs ha hkind hreads hm
      exact ⟨t, ht, fails t hshows hkeep⟩
    · obtain ⟨t, ht, hshows, hkeep⟩ := confirmWindow_failsRoute h hr hk hx hs ha hdrive hwindow hcmd
      exact ⟨t, ht, fails t hshows hkeep⟩

end Sys2Proof.Machine


/-! The signal of a route that is not SET goes to red (R97, R98, R102; O30). -/

namespace Sys2Proof.Machine

set_option Elab.async false

section
variable {v : Env} {e : Ev} {u u' : Units} {n m i : Nat} {r : RouteCfg}

/-! ## A signal that waits for its evaluation (R102) -/

/-- R102: signal `m` waits for re-evaluation. -/
def Ev.awaits (m : Nat) (e : Ev) : Prop := m ∈ e.signals

theorem reevaluate_awaits_self : (e.reevaluate m).awaits m := mem_setInsert.2 (.inl rfl)

theorem reevaluate_awaits (h : e.awaits m) : (e.reevaluate i).awaits m := mem_setInsert.2 (.inr h)

theorem approachControl_awaits (h : e.awaits m) : (e.approachControl v i).awaits m := by
  have hstep (x : Control) : (if x = (e.u.signal i).control then e else
      if (e.u.signal i).control = .released then (e.setSignal i fun g => { g with control := x }).reevaluate i
      else e.setSignal i fun g => { g with control := x } : Ev).awaits m := by
    split
    · exact h
    · split
      · exact reevaluate_awaits h
      · exact h
  exact hstep _

theorem routeReachesTable_awaits (h : e.awaits m) : (e.routeReachesTable r).awaits m := by
  unfold Ev.routeReachesTable
  split <;> exact h

/-- R54: a change of its route's state reaches the entry signal. -/
theorem setRouteState_awaits_entry {st : RouteState} : (e.setRouteState v n r st).awaits r.entry :=
  routeReachesTable_awaits reevaluate_awaits_self

theorem setRouteState_awaits {st : RouteState} (h : e.awaits m) : (e.setRouteState v n r st).awaits m :=
  routeReachesTable_awaits (reevaluate_awaits (approachControl_awaits h))

theorem routeMeetsOccupied_awaits (h : e.awaits m) : (e.routeMeetsOccupied v n r i).awaits m := by
  unfold Ev.routeMeetsOccupied
  dsimp only
  split
  any_goals exact h
  · split
    · exact setRouteState_awaits h
    · exact h
  · split
    · exact setRouteState_awaits h
    · exact h
  · split <;> exact h

theorem approachChanged_awaits {b : BlockRef} (h : e.awaits m) : (e.approachChanged v b).awaits m :=
  List.foldlRecOn (motive := Ev.awaits m) _ _ h fun e h k _ => by
    split
    · exact approachControl_awaits h
    · exact h

theorem occupancyReaches_awaits {b : Nat} (h : e.awaits m) : (e.occupancyReaches v b).awaits m :=
  List.foldlRecOn (motive := Ev.awaits m) _ _ h fun e h k _ => by
    split
    · split
      · exact reevaluate_awaits h
      · exact h
    · exact h

theorem testPossessions_awaits (h : e.awaits m) : e.testPossessions.awaits m :=
  List.foldlRecOn (motive := Ev.awaits m) _ _ h fun e h k _ => by
    split
    · split <;> exact h
    · exact h

theorem reachBehind_awaits {x : SignalRef} (h : e.awaits m) : (e.reachBehind v x).awaits m :=
  List.foldlRecOn (motive := Ev.awaits m) _ _ h fun e h k _ => by
    split
    · split
      · exact reevaluate_awaits h
      · exact h
    · exact h

theorem signalChanged_awaits (h : e.awaits m) : (e.signalChanged v i).awaits m := by
  refine reachBehind_awaits ?_
  have hp : (e.publishSignal v i).awaits m := by
    unfold Ev.publishSignal
    split <;> exact h
  unfold Ev.raiseAspect
  split <;> exact hp

theorem evaluate_awaits (h : e.awaits m) : (e.evaluate v i).awaits m := by
  unfold Ev.evaluate
  dsimp only
  split
  · exact h
  · split
    · exact h
    · exact signalChanged_awaits h

/-! ## Red (R97, R98) -/

/-- R97, R98: signal `m` is evaluated for route `n`, which is not SET. -/
structure Units.unset (m n : Nat) (u : Units) : Prop where
  state     : (u.route n).state ≠ .set
  evaluated : (u.signal m).route = some n

theorem unset_of_agree (h : u.unset m n) (hr : Part.agree u u' .routes) (hs : Part.agree u u' .control) : u'.unset m n := by
  obtain ⟨hstate, hroute⟩ := h
  exact ⟨by rw [route_of_agree hr]; exact hstate, by rw [evaluated_of_agree hs]; exact hroute⟩

theorem computedRank_of_unset (h : u.unset m n) : computedRank v u m = 0 := by
  obtain ⟨hstate, hroute⟩ := h
  unfold computedRank
  simp only [hroute]
  split
  next k c hk hc =>
    cases hk
    split
    next r _ => simp [Units.mayClear, hstate]
    · rfl
  · rfl

theorem rank_of_agree (h : Part.agree u u' .ranks) (k : Nat) : (u'.signal k).rank = (u.signal k).rank := by
  have hmap (w : Units) : (w.signal k).shown = (w.ase.signals.map Signal.shown).getD k Signal.initial.shown :=
    (List.getD_map ..).symm
  have hshown : (u'.signal k).shown = (u.signal k).shown := by rw [hmap, hmap, h]
  exact congrArg Prod.fst hshown

theorem signals_length_of_agree (h : Part.agree u u' .control) : u'.ase.signals.length = u.ase.signals.length := by
  have hlen := congrArg List.length (h : u'.ase.signals.map Signal.kept = u.ase.signals.map Signal.kept)
  rwa [List.length_map, List.length_map] at hlen

theorem evaluate_unset (h : e.u.unset m n) : (e.evaluate v i).u.unset m n :=
  have hg := evaluate_goes v i e
  unset_of_agree h (hg.keeps .routes (by decide)) (hg.keeps .control (by decide))

/-- R98: the rank that an evaluated signal shows is the computed one, and no other signal's rank changes. -/
theorem evaluate_rank (k : Nat) : ((e.evaluate v i).u.signal k).rank
    = if k = i ∧ i < e.u.ase.signals.length ∧ (v.cfg.signal i).isSome = true then computedRank v e.u i
      else (e.u.signal k).rank := by
  unfold Ev.evaluate
  dsimp only
  split
  next hc => simp [hc]
  next c hc =>
    split
    next hr =>
      split
      next hk => rw [hk.1, ← hr]
      · rfl
    · rw [rank_of_agree ((signalChanged_goes v i _).keeps .ranks (by decide)), setSignal_signal]
      by_cases hk : k = i ∧ i < e.u.ase.signals.length
      · simp [hk, hc]
      · rw [if_neg hk, if_neg fun hx => hk ⟨hx.1, hx.2.1⟩]

/-- R98: a signal at red stays there while its route is not SET. -/
theorem evaluate_red (h : e.u.unset m n) (hr : (e.u.signal m).rank = 0) : ((e.evaluate v i).u.signal m).rank = 0 := by
  rw [evaluate_rank]
  split
  next hk => rw [← hk.1, computedRank_of_unset h]
  · exact hr

section
variable (hm : (v.cfg.signal m).isSome = true)
include hm

theorem evaluate_red_self (h : e.u.unset m n) (hl : m < e.u.ase.signals.length) :
    ((e.evaluate v m).u.signal m).rank = 0 := by
  rw [evaluate_rank, if_pos ⟨rfl, hl, hm⟩, computedRank_of_unset h]

theorem evaluates_red (l : List Nat) (h : e.u.unset m n) (hl : m < e.u.ase.signals.length)
    (hr : m ∈ l ∨ (e.u.signal m).rank = 0) :
    ((l.foldl (fun e i => e.evaluate v i) e).u.signal m).rank = 0 := by
  induction l generalizing e with
  | nil => exact hr.resolve_left List.not_mem_nil
  | cons i l ih =>
    refine ih (evaluate_unset h) ?_ ?_
    · rw [signals_length_of_agree ((evaluate_goes v i e).keeps .control (by decide))]
      exact hl
    · obtain hmem | hred := hr
      · obtain rfl | hmem := List.mem_cons.1 hmem
        · exact .inr (evaluate_red_self hm h hl)
        · exact .inl hmem
      · exact .inr (evaluate_red h hred)

/-- R102: whether the chain of signals settles or comes to its bound, a signal that waits is evaluated. -/
theorem evaluateAll_red (k : Nat) (h : e.u.unset m n) (hl : m < e.u.ase.signals.length)
    (hr : e.awaits m ∨ (e.u.signal m).rank = 0) : ((Ev.evaluateAll v k e).u.signal m).rank = 0 := by
  induction k generalizing e with
  | zero => exact evaluates_red hm e.signals h hl hr
  | succ k ih =>
    unfold Ev.evaluateAll
    split
    next hs =>
      exact hr.resolve_left fun hx => by
        rw [Ev.awaits, hs] at hx
        exact absurd hx List.not_mem_nil
    next i rest hs =>
      let a : Ev := { e with signals := rest }
      refine ih (e := a.evaluate v i) (evaluate_unset (e := a) h) ?_ ?_
      · rw [signals_length_of_agree ((evaluate_goes v i a).keeps .control (by decide))]
        exact hl
      · obtain hwait | hred := hr
        · rw [Ev.awaits, hs] at hwait
          obtain rfl | hmem := List.mem_cons.1 hwait
          · exact .inr (evaluate_red_self (e := a) hm h hl)
          · exact .inl (evaluate_awaits (e := a) hmem)
        · exact .inr (evaluate_red (e := a) h hred)

/-- R97, R102: at the end of an event that starts nothing, a signal that waits and whose route is not SET is at red. -/
theorem settle_red (h : e.u.unset m n) (hl : m < e.u.ase.signals.length) (hr : e.awaits m)
    (hq : e.u.ttc.queue = []) (hw : e.u.ilk.waiting = []) : ((settle v e).signal m).rank = 0 := by
  unfold settle
  rw [settleMoves_calm (.inr hq), settleScan_calm (.inr hw)]
  have hp := testPossessions_goes e
  have hred : ((e.testPossessions.settleSignals v).u.signal m).rank = 0 :=
    evaluateAll_red hm 2304 (unset_of_agree h (hp.keeps .routes (by decide)) (hp.keeps .control (by decide)))
      (by rw [signals_length_of_agree (hp.keeps .control (by decide))]; exact hl) (.inl (testPossessions_awaits hr))
  let a := e.testPossessions.settleSignals v
  have hg : Ev.Goes [.lapse, .board, .counters, .marks, .slots, .transmitter] a
      ((((a.carryTimer v).notices v).settleBoard v).offerFrames v) :=
    ((((carryTimer_goes v a).mono (by decide)).after (notices_goes v _) (by decide)).after (settleBoard_goes v _)
      (by decide)).after (offerFrames_goes v _) (by decide)
  exact (rank_of_agree (hg.keeps .ranks (by decide)) m).trans hred

end

end

end Sys2Proof.Machine


/-! A train enters a route (R64; O30). -/

namespace Sys2Proof.Machine

set_option Elab.async false

section
variable {v : Env} {e : Ev} {u u' : Units} {n k i b : Nat} {r : RouteCfg} {x : Route}

/-! ## Steps over the routes -/

/-- A fold of which step `n` makes `B` from `A`, while the others keep both. -/
theorem foldl_range_through {g : Ev → Nat → Ev} {A B : Ev → Prop} {N : Nat} (hn : n < N)
    (before : ∀ e i, i ≠ n → A e → A (g e i)) (at_n : ∀ e, A e → B (g e n)) (after : ∀ e i, i ≠ n → B e → B (g e i))
    (h : A e) : B ((List.range N).foldl g e) := by
  have hboth : ∀ N, (N ≤ n → A ((List.range N).foldl g e)) ∧ (n < N → B ((List.range N).foldl g e)) := by
    intro N
    induction N with
    | zero => exact ⟨fun _ => h, fun hx => absurd hx (Nat.not_lt_zero n)⟩
    | succ N ih =>
      rw [List.range_succ, List.foldl_append, List.foldl_cons, List.foldl_nil]
      refine ⟨fun hx => before _ _ (by omega) (ih.1 (by omega)), fun hx => ?_⟩
      obtain rfl | hlt : n = N ∨ n < N := by omega
      · exact at_n _ (ih.1 le_rfl)
      · exact after _ _ (by omega) (ih.2 hlt)
  exact (hboth N).2 hn

/-- A path that has no block twice names the place of each. -/
theorem idxOf?_of_path (hd : r.path.Nodup) (hi : r.path[i]? = some b) : r.path.idxOf? b = some i := by
  obtain ⟨hlt, rfl⟩ := List.getElem?_eq_some_iff.1 hi
  rw [List.idxOf?, List.findIdx?_eq_some_iff_getElem]
  refine ⟨hlt, beq_self_eq_true _, fun j hj => ?_⟩
  rw [beq_iff_eq]
  exact fun hx => absurd ((hd.getElem_inj_iff).1 hx) (by omega)

/-! ## A block that becomes OCCUPIED (R64) -/

/-- R64: the route record once its path block `i` is OCCUPIED. -/
def Route.afterOccupied (u : Units) (r : RouteCfg) (i : Nat) (x : Route) : Route := match x.state with
  | .set | .approachHeld =>
    if i = 0 then { x with state := .inUse, approach := none, progress := enteredProgress u r x.progress } else x
  | .inUse => if x.progress.getD i .released = .notEntered then { x with progress := x.progress.set i .entered } else x
  | .idle | .claiming | .throwing => x

theorem enteredProgress_congr {ps : List Progress} (h : ∀ k, (u'.block k).occupied = (u.block k).occupied) :
    enteredProgress u' r ps = enteredProgress u r ps := by
  unfold enteredProgress
  simp only [h]

theorem afterOccupied_congr (h : ∀ k, (u'.block k).occupied = (u.block k).occupied) :
    x.afterOccupied u' r i = x.afterOccupied u r i := by
  unfold Route.afterOccupied
  rw [enteredProgress_congr h]

theorem setRoute_route_self (hn : n < e.u.ilk.routes.length) (f : Route → Route) :
    (e.setRoute n f).u.route n = f (e.u.route n) := by rw [setRoute_route, if_pos ⟨rfl, hn⟩]

theorem setRoute_route_ne (hk : k ≠ n) (f : Route → Route) : (e.setRoute n f).u.route k = e.u.route k := by
  rw [setRoute_route, if_neg fun hx => hk hx.1]

theorem setRouteState_of_setRoute {st : RouteState} :
    Ev.Goes [.control] (e.setRoute n fun x => { x with state := st }) (e.setRouteState v n r st) :=
  (routeStateChanged_goes v r.entry _).after (routeReachesTable_goes r _) (by decide)

theorem setRouteState_route_ne {st : RouteState} (hk : k ≠ n) :
    (e.setRouteState v n r st).u.route k = e.u.route k := by
  rw [route_of_agree (setRouteState_of_setRoute.keeps .routes (by decide)), setRoute_route_ne hk]

theorem setRoute_routes_length (f : Route → Route) : (e.setRoute n f).u.ilk.routes.length = e.u.ilk.routes.length :=
  List.length_modify ..

theorem setRouteState_routes_length {st : RouteState} :
    (e.setRouteState v n r st).u.ilk.routes.length = e.u.ilk.routes.length := by
  have hsame : (e.setRouteState v n r st).u.ilk.routes = (e.setRoute n fun x => { x with state := st }).u.ilk.routes :=
    setRouteState_of_setRoute.keeps .routes (by decide)
  rw [hsame, setRoute_routes_length]

theorem routeMeetsOccupied_route (hn : n < e.u.ilk.routes.length) :
    (e.routeMeetsOccupied v n r i).u.route n = (e.u.route n).afterOccupied e.u r i := by
  have entry : (if i = 0 then ((e.setRoute n fun x => { x with
        approach := none, progress := enteredProgress e.u r x.progress }).setRouteState v n r .inUse) else e).u.route n
      = if i = 0 then
          { e.u.route n with state := .inUse, approach := none, progress := enteredProgress e.u r (e.u.route n).progress }
        else e.u.route n := by
    split
    · rw [setRouteState_route (by simpa [Ev.setRoute] using hn), if_pos rfl, setRoute_route_self hn]
    · rfl
  have further : (if (e.u.route n).progress.getD i .released = .notEntered then
        e.setRoute n fun x => { x with progress := x.progress.set i .entered } else e).u.route n
      = if (e.u.route n).progress.getD i .released = .notEntered then
          { e.u.route n with progress := (e.u.route n).progress.set i .entered } else e.u.route n := by
    split
    · exact setRoute_route_self hn _
    · rfl
  cases hs : (e.u.route n).state
  case set | approachHeld =>
    simp only [Ev.routeMeetsOccupied, Route.afterOccupied, hs]
    exact entry
  case inUse =>
    simp only [Ev.routeMeetsOccupied, Route.afterOccupied, hs]
    rw [further, ← hs]
  all_goals simp only [Ev.routeMeetsOccupied, Route.afterOccupied, hs]

theorem routeMeetsOccupied_route_ne (hk : k ≠ n) :
    (e.routeMeetsOccupied v n r i).u.route k = e.u.route k := by
  have entry (f : Route → Route) : (if i = 0 then (e.setRoute n f).setRouteState v n r .inUse else e).u.route k
      = e.u.route k := by
    split
    · rw [setRouteState_route_ne hk, setRoute_route_ne hk]
    · rfl
  unfold Ev.routeMeetsOccupied
  dsimp only
  split
  · exact entry _
  · exact entry _
  · split
    · exact setRoute_route_ne hk _
    · rfl
  all_goals rfl

/-- R64, R97: the entry into use reaches the signal. -/
theorem routeMeetsOccupied_awaits_entry (hs : (e.u.route n).state = .set ∨ (e.u.route n).state = .approachHeld) :
    (e.routeMeetsOccupied v n r 0).awaits r.entry := by
  unfold Ev.routeMeetsOccupied
  obtain hs | hs := hs <;> simp only [hs, if_true] <;> exact setRouteState_awaits_entry

/-- R64: the reaction of route `n` to an OCCUPIED event of block `b`. -/
def Ev.seesOccupied (v : Env) (b n : Nat) (e : Ev) : Ev := match v.cfg.route n with
  | some r => match r.path.idxOf? b with
    | some i => e.routeMeetsOccupied v n r i
    | none => e
  | none => e

theorem routesOccupied_eq (v : Env) (b : Nat) (e : Ev) :
    e.routesOccupied v b = (List.range 64).foldl (fun e n => e.seesOccupied v b n) e := rfl

/-- The route that the event is for reacts, or nothing changes. -/
theorem seesOccupied_cases : (∃ r i, v.cfg.route n = some r ∧ e.seesOccupied v b n = e.routeMeetsOccupied v n r i)
    ∨ e.seesOccupied v b n = e := by
  unfold Ev.seesOccupied
  split
  next r hr =>
    split
    next i _ => exact .inl ⟨r, i, hr, rfl⟩
    · exact .inr rfl
  · exact .inr rfl

theorem seesOccupied_goes : Ev.Goes [.routes, .control] e (e.seesOccupied v b n) := by
  obtain ⟨r, i, -, h⟩ | h := seesOccupied_cases (v := v) (e := e) (n := n) (b := b)
  · rw [h]
    exact routeMeetsOccupied_goes ..
  · rw [h]
    exact .refl ..

theorem seesOccupied_route_ne (hk : k ≠ n) :
    (e.seesOccupied v b n).u.route k = e.u.route k := by
  obtain ⟨r, i, -, h⟩ | h := seesOccupied_cases (v := v) (e := e) (n := n) (b := b)
  · rw [h, routeMeetsOccupied_route_ne hk]
  · rw [h]

theorem seesOccupied_awaits {m : Nat} (h : e.awaits m) : (e.seesOccupied v b n).awaits m := by
  obtain ⟨r, i, -, hx⟩ | hx := seesOccupied_cases (v := v) (e := e) (n := n) (b := b)
  · rw [hx]
    exact routeMeetsOccupied_awaits h
  · rwa [hx]

theorem seesOccupied_routes_length : (e.seesOccupied v b n).u.ilk.routes.length = e.u.ilk.routes.length := by
  obtain ⟨r, i, -, hx⟩ | hx := seesOccupied_cases (v := v) (e := e) (n := n) (b := b)
  · rw [hx]
    unfold Ev.routeMeetsOccupied
    dsimp only
    split
    any_goals rfl
    · split
      · rw [setRouteState_routes_length, setRoute_routes_length]
      · rfl
    · split
      · rw [setRouteState_routes_length, setRoute_routes_length]
      · rfl
    · split
      · exact setRoute_routes_length _
      · rfl
  · rw [hx]

/-- R64: what an OCCUPIED event of its path block `i` makes of route `n`. -/
theorem routesOccupied_route (hn : n < 64) (hl : e.u.ilk.routes.length = 64) (hc : v.cfg.route n = some r)
    (hi : r.path.idxOf? b = some i) : (e.routesOccupied v b).u.route n = (e.u.route n).afterOccupied e.u r i
      ∧ ((e.u.route n).state = .set ∨ (e.u.route n).state = .approachHeld → i = 0 → (e.routesOccupied v b).awaits r.entry) := by
  have hself (a : Ev) : a.seesOccupied v b n = a.routeMeetsOccupied v n r i := by simp only [Ev.seesOccupied, hc, hi]
  rw [routesOccupied_eq]
  refine foldl_range_through (A := fun a => a.u.route n = e.u.route n ∧ a.u.ilk.routes.length = 64
      ∧ Ev.Goes [.routes, .control] e a)
    (B := fun a => a.u.route n = (e.u.route n).afterOccupied e.u r i
      ∧ ((e.u.route n).state = .set ∨ (e.u.route n).state = .approachHeld → i = 0 → a.awaits r.entry))
    hn ?before ?at_n ?after ⟨rfl, hl, .refl ..⟩
  case before =>
    rintro a k hk ⟨hr, hlen, hg⟩
    exact ⟨(seesOccupied_route_ne hk.symm).trans hr, seesOccupied_routes_length.trans hlen, hg.trans seesOccupied_goes⟩
  case at_n =>
    rintro a ⟨hr, hlen, hg⟩
    rw [hself]
    refine ⟨?_, fun hs hi0 => ?_⟩
    · rw [routeMeetsOccupied_route (hlen ▸ hn), hr, afterOccupied_congr (occupied_of_agree (hg.keeps .occupancy (by decide)))]
    · rw [hi0]
      exact routeMeetsOccupied_awaits_entry (by rw [hr]; exact hs)
  case after =>
    rintro a k hk ⟨hr, hwait⟩
    exact ⟨(seesOccupied_route_ne hk.symm).trans hr, fun hs hi0 => seesOccupied_awaits (hwait hs hi0)⟩

end

end Sys2Proof.Machine


/-! The OCCUPIED event of a route's block (R64; O30). -/

namespace Sys2Proof.Machine

set_option Elab.async false

section
variable {v : Env} {e : Ev} {s : State} {u : Units} {n k i b : Nat} {r : RouteCfg} {x : Route}

theorem occupiedTrain_goes : Ev.Goes [.occupancy, .carry, .marks, .slots] e (e.occupiedTrain v b) :=
  ((setOccupied_goes v b e).mono (by decide)).after (trackOccupied_goes v b _ (setOccupied_block v b e)) (by decide)

/-- R6: after an OCCUPIED event of block `b` it is OCCUPIED with those that were. -/
theorem occupiedTrain_occupied (hb : b < e.u.bkt.blocks.length) (ho : (e.u.block b).occupied = false) :
    ((e.occupiedTrain v b).u.block k).occupied = true ↔ k = b ∨ (e.u.block k).occupied = true := by
  by_cases hk : k = b
  · subst hk
    refine iff_of_true ?_ (.inl rfl)
    rcases occupiedTrain_cases (v := v) hb ho with ⟨_, _, _, _, ht, _⟩ | ⟨_, _, ⟨_, _, ht, _⟩ | ⟨_, ht, _⟩⟩
    all_goals exact occupied_of_train ht
  · rw [occupiedTrain_block hb ho hk, or_iff_right hk]

/-- R6, R92: the units as the Interlocking Engine finds them at an OCCUPIED event of block `b`. -/
def State.entered (s : State) (b : Nat) : Ev := ((s.risen b).occupiedTrain s.env b).claimsOccupied b

theorem entered_goes : Ev.Goes [.filters, .occupancy, .carry, .marks, .slots, .claimTable] (.start s.units) (s.entered b) :=
  (((setFilter_goes b _ _).mono (by decide)).after (occupiedTrain_goes (e := s.risen b)) (by decide)).after
    (claimsOccupied_goes b _) (by decide)

theorem occupied_eq : (s.risen b).occupied s.env b
    = (((s.entered b).routesOccupied s.env b).occupancyReaches s.env b).approachChanged s.env (.here b) := rfl

theorem routes_after_passage (a : Ev) :
    Ev.Goes [.control] a ((a.occupancyReaches v b).approachChanged v (.here b)) :=
  ((occupancyReaches_goes v b a).mono (by decide)).after (approachChanged_goes v _ _) (by decide)

theorem approachChanged_evaluated {p : BlockRef} : ((e.approachChanged v p).u.signal k).route = (e.u.signal k).route :=
  List.foldlRecOn (motive := fun a : Ev => (a.u.signal k).route = (e.u.signal k).route) _ _ rfl fun a ha i _ => by
    split
    · rw [approachControl_evaluated, ha]
    · exact ha

theorem setRoute_evaluated (f : Route → Route) : ((e.setRoute n f).u.signal k).route = (e.u.signal k).route := rfl

theorem seesOccupied_evaluated : ((e.seesOccupied v b n).u.signal k).route = (e.u.signal k).route := by
  obtain ⟨r, i, -, h⟩ | h := seesOccupied_cases (v := v) (e := e) (n := n) (b := b)
  · rw [h]
    unfold Ev.routeMeetsOccupied
    dsimp only
    split
    any_goals rfl
    · split
      · rw [setRouteState_evaluated, setRoute_evaluated]
      · rfl
    · split
      · rw [setRouteState_evaluated, setRoute_evaluated]
      · rfl
    · split <;> rfl
  · rw [h]

theorem routesOccupied_evaluated : ((e.routesOccupied v b).u.signal k).route = (e.u.signal k).route :=
  List.foldlRecOn (motive := fun a : Ev => (a.u.signal k).route = (e.u.signal k).route) _ _ rfl fun _ ha i _ =>
    (seesOccupied_evaluated (v := v) (b := b) (n := i)).trans ha

theorem signals_length_of_shown {u' : Units} (h : Part.agree u u' .ranks) :
    u'.ase.signals.length = u.ase.signals.length := by
  have hlen := congrArg List.length (h : u'.ase.signals.map Signal.shown = u.ase.signals.map Signal.shown)
  rwa [List.length_map, List.length_map] at hlen

theorem signals_of_sized (h : u.sized) : u.ase.signals.length = 24 := by
  obtain ⟨-, -, -, -, -, -, -, hl, -⟩ := h
  exact hl

/-- R64: the route that a train enters, or whose next block it enters. -/
theorem detectorRise_route (hr : s.sys.station = .running) (hz : s.units.sized) (hw : s.units.nothingWaits)
    (hn : n < 64) (hc : s.sys.cfg.route n = some r) (hi : r.path.idxOf? b = some i)
    (hx : (s.units.filter b).state = .rising) :
    ∃ t, exec (.detectorRiseExpiry b) s = .next t
      ∧ t.units.route n = (s.units.route n).afterOccupied (s.entered b).u r i
      ∧ ((s.units.route n).state = .set ∨ (s.units.route n).state = .approachHeld → i = 0 →
          (s.units.signal r.entry).route = some n → (s.sys.cfg.signal r.entry).isSome = true → r.entry < 24 →
          (t.units.signal r.entry).rank = 0) := by
  have hbefore : Ev.Goes _ (.start s.units) (s.entered b) := entered_goes
  have hroutes : (s.entered b).u.ilk.routes = s.units.ilk.routes := hbefore.keeps .routes (by decide)
  have hroute (k : Nat) : (s.entered b).u.route k = s.units.route k := route_of_agree hroutes k
  have hafter := routes_after_passage (v := s.env) (b := b) ((s.entered b).routesOccupied s.env b)
  obtain ⟨hmeets, hwait⟩ := routesOccupied_route (v := s.env) (e := s.entered b) hn
    (by rw [hroutes]; exact routes_of_sized hz) hc hi
  rw [hroute] at hmeets hwait
  have hshown : ((s.risen b).occupied s.env b).u.route n = (s.units.route n).afterOccupied (s.entered b).u r i := by
    rw [occupied_eq, route_of_agree (hafter.keeps .routes (by decide)), hmeets]
  refine ⟨s.event (riseEvent b), congrArg Host.Outcome.next (whenRunning_of_running hr _), ?_, fun hs hi0 hev hcfg hlt => ?_⟩
  · rw [route_of_agree ((riseEvent_after hx hw).keeps .routes (by decide)), hshown]
  · have hwhole : Ev.Goes _ (.start s.units) (riseEvent b s.env (.start s.units)) := riseExpiry_goes s.env b _
    rw [riseEvent_eq hx] at hwhole
    have hred : ((settle s.env ((s.risen b).occupied s.env b)).signal r.entry).rank = 0 := by
      refine settle_red (n := n) hcfg ⟨?_, ?_⟩ ?_ ?_ ?_ ?_
      · rw [hshown]
        unfold Route.afterOccupied
        obtain hs | hs := hs <;> simp only [hs, hi0, if_true] <;> nofun
      · rw [occupied_eq, approachChanged_evaluated,
          evaluated_of_agree ((occupancyReaches_goes s.env b _).keeps .control (by decide)), routesOccupied_evaluated,
          evaluated_of_agree (hbefore.keeps .control (by decide))]
        exact hev
      · rw [signals_length_of_shown (hwhole.keeps .ranks (by decide)), show (Ev.start s.units).u = s.units from rfl,
          signals_of_sized hz]
        exact hlt
      · exact approachChanged_awaits (occupancyReaches_awaits (hwait hs hi0))
      · exact (congrArg Turntable.queue (hwhole.keeps .table (by decide))).trans hw.2
      · exact (hwhole.keeps .waiting (by decide)).trans hw.1
    rw [← riseEvent_eq hx] at hred
    exact hred

end

end Sys2Proof.Machine


/-! A CLEAR event: the one route in use that it may reach (R65 to R68, R72; O30). -/

namespace Sys2Proof.Machine

set_option Elab.async false

section
variable {v : Env} {e a c z : Ev} {u w : Units} {n k i b t : Nat} {r : RouteCfg} {o : Bool} {p : List Progress} {gone : Nat → Prop}

/-! ## The steps over the routes -/

/-- R65, R66, R72: the reaction of route `n` to a CLEAR event of block `b` in its path. -/
def Ev.pathSeesClear (v : Env) (b n : Nat) (e : Ev) : Ev := match v.cfg.route n with
  | some r => match r.path.idxOf? b with
    | some i => e.routeMeetsClear v n r i
    | none => e
  | none => e

/-- R65 to R72: the reaction of route `n` to a CLEAR event of block `b`. -/
def Ev.seesClear (v : Env) (b n : Nat) (e : Ev) : Ev :=
  ((e.pathSeesClear v b n).overlapCleared v b n).approachCleared v (.here b) n

theorem routesClear_eq (v : Env) (b : Nat) (e : Ev) :
    e.routesClear v b = (List.range 64).foldl (fun e n => e.seesClear v b n) e := rfl

theorem approachCleared_of_state {x : BlockRef} (h : (e.u.route n).state ≠ .approachHeld) : e.approachCleared v x n = e := by
  unfold Ev.approachCleared
  split
  · exact if_neg fun hx => h hx.1
  · rfl

theorem overlapCleared_of_state (h : (e.u.route n).state ≠ .inUse) : e.overlapCleared v b n = e := by
  unfold Ev.overlapCleared
  split
  · exact if_neg fun hx => h hx.1
  · rfl

theorem routeMeetsClear_of_state (h : (e.u.route n).state ≠ .inUse) : e.routeMeetsClear v n r i = e := if_pos h

theorem pathSeesClear_of_state (h : (e.u.route n).state ≠ .inUse) : e.pathSeesClear v b n = e := by
  unfold Ev.pathSeesClear
  split
  · split
    · exact routeMeetsClear_of_state h
    · rfl
  · rfl

/-- A CLEAR event reaches only a route that is in use or held for its approach. -/
theorem seesClear_of_state (h : (e.u.route n).state ≠ .inUse) (ha : (e.u.route n).state ≠ .approachHeld) :
    e.seesClear v b n = e := by
  rw [Ev.seesClear, pathSeesClear_of_state h, overlapCleared_of_state h, approachCleared_of_state ha]

theorem routesClear_of_one (hn : n < 64)
    (h : ∀ k, k ≠ n → (e.u.route k).state ≠ .inUse ∧ (e.u.route k).state ≠ .approachHeld)
    (hr : ∀ k, k ≠ n → (e.seesClear v b n).u.route k = e.u.route k) : e.routesClear v b = e.seesClear v b n := by
  rw [routesClear_eq]
  refine foldl_range_of_one hn (fun k hk => ?_) fun k hk => ?_
  · obtain ⟨hi, ha⟩ := h k hk
    exact seesClear_of_state hi ha
  · obtain ⟨hi, ha⟩ := h k hk
    exact seesClear_of_state (by rw [hr k hk]; exact hi) (by rw [hr k hk]; exact ha)

/-! ## What of a route's end stays (R66) -/

/-- R66: route `n`, which has given blocks back, ends if it holds none. -/
theorem routeEndIfDone_cases : ((e.u.route n).spent ∧ e.routeEndIfDone v n r = e.routeEnded v n r)
    ∨ (¬ (e.u.route n).spent ∧ e.routeEndIfDone v n r = e) := by
  by_cases h : (e.u.route n).spent
  · exact .inl ⟨h, routeEndIfDone_of_spent h⟩
  · exact .inr ⟨h, routeEndIfDone_of_holding h⟩

theorem routeEndIfDone_holder : ((e.routeEndIfDone v n r).u.block k).holder = (e.u.block k).holder :=
  holder_of_agree (routeEndIfDone_goes_holds.keeps .holders (by decide)) k

theorem routeEndIfDone_path (h : ((e.routeEndIfDone v n r).u.turnout k).pathHolder = some n) :
    (e.u.turnout k).pathHolder = some n := by
  obtain ⟨-, hx⟩ | ⟨-, hx⟩ := routeEndIfDone_cases (v := v) (e := e) (n := n) (r := r)
  · rw [hx, routeEnded_turnout] at h
    unfold Turnout.givenBack at h
    dsimp only at h
    split at h
    · exact nomatch h
    · exact h
  · rwa [hx] at h

theorem routeEndIfDone_route_ne (hn : n < e.u.ilk.routes.length) (hk : k ≠ n) :
    (e.routeEndIfDone v n r).u.route k = e.u.route k := by
  obtain ⟨-, hx⟩ | ⟨-, hx⟩ := routeEndIfDone_cases (v := v) (e := e) (n := n) (r := r)
  · rw [hx, routeEnded_route hn, if_neg hk]
  · rw [hx]

theorem routeEndIfDone_state (hn : n < e.u.ilk.routes.length) (h : (e.u.route n).state = .inUse) :
    ((e.routeEndIfDone v n r).u.route n).state ≠ .approachHeld := by
  obtain ⟨-, hx⟩ | ⟨-, hx⟩ := routeEndIfDone_cases (v := v) (e := e) (n := n) (r := r)
  · rw [hx, routeEnded_route hn, if_pos rfl]
    nofun
  · rw [hx, h]
    nofun

/-! ## Turnouts that start (R42) -/

/-- The holds on turnout `k` are as they were. -/
def Ev.sameHolds (k : Nat) (e a : Ev) : Prop :=
  (a.u.turnout k).pathHolder = (e.u.turnout k).pathHolder ∧ (a.u.turnout k).flankCount = (e.u.turnout k).flankCount

theorem setTurnout_sameHolds {f : Turnout → Turnout} (hp : ∀ x, (f x).pathHolder = x.pathHolder)
    (hf : ∀ x, (f x).flankCount = x.flankCount) : e.sameHolds k (e.setTurnout t f) := by
  have h : (e.setTurnout t f).u.turnout k = if k = t ∧ t < e.u.tdu.turnouts.length then f (e.u.turnout t) else e.u.turnout k :=
    getD_modify ..
  unfold Ev.sameHolds
  rw [h]
  split
  next hk => rw [hk.1, hp, hf]; exact ⟨rfl, rfl⟩
  · exact ⟨rfl, rfl⟩

theorem startEntry_sameHolds : e.sameHolds k (e.startEntry v t) := by
  unfold Ev.startEntry
  dsimp only
  split
  · exact setTurnout_sameHolds (e := (e.setThrows _).setCdu _) (fun _ => rfl) fun _ => rfl
  · exact setTurnout_sameHolds (e := e.setThrows _) (fun _ => rfl) fun _ => rfl
  · exact ⟨rfl, rfl⟩

theorem arbiterAtClear_sameHolds : e.sameHolds k (e.arbiterAtClear v b) := by
  have hall : e.sameHolds k (e.arbiter v) :=
    List.foldlRecOn (motive := e.sameHolds k) _ _ ⟨rfl, rfl⟩ fun a ha x _ => by
      split
      · obtain ⟨hp, hf⟩ := startEntry_sameHolds (v := v) (e := a) (k := k) (t := x.1)
        exact ⟨hp.trans ha.1, hf.trans ha.2⟩
      · exact ha
  unfold Ev.arbiterAtClear
  split
  · exact hall
  · exact ⟨rfl, rfl⟩

/-! ## What the event's other units leave of the routes -/

/-- From `u` to `w` the routes and what they hold are as they were, and no frame is lost. -/
structure Units.SameRoutes (u w : Units) : Prop where
  route     : ∀ k, w.route k = u.route k
  holder    : ∀ k, (w.block k).holder = (u.block k).holder
  claim     : ∀ k, w.claim k = u.claim k
  path      : ∀ k, (w.turnout k).pathHolder = (u.turnout k).pathHolder
  flank     : ∀ k, (w.turnout k).flankCount = (u.turnout k).flankCount
  evaluated : ∀ k, (w.signal k).route = (u.signal k).route
  frames    : ∀ f, u.lnk.carries f → w.lnk.carries f

theorem Units.SameRoutes.trans {x : Units} (h : u.SameRoutes w) (g : w.SameRoutes x) : u.SameRoutes x :=
  ⟨fun k => (g.route k).trans (h.route k), fun k => (g.holder k).trans (h.holder k), fun k => (g.claim k).trans (h.claim k),
    fun k => (g.path k).trans (h.path k), fun k => (g.flank k).trans (h.flank k),
    fun k => (g.evaluated k).trans (h.evaluated k), fun f hf => g.frames f (h.frames f hf)⟩

theorem sameRoutes_of_goes {ps : List Part} (h : Goes ps u w)
    (hp : ∀ p ∈ [Part.routes, .holders, .claims, .turnouts, .control], p ∉ ps := by decide) : u.SameRoutes w := by
  have hturnout := turnout_of_agree (h.keeps .turnouts (hp _ (by decide)))
  exact ⟨route_of_agree (h.keeps .routes (hp _ (by decide))), holder_of_agree (h.keeps .holders (hp _ (by decide))),
    claim_of_agree (h.keeps .claims (hp _ (by decide))), fun k => by rw [hturnout], fun k => by rw [hturnout],
    evaluated_of_agree (h.keeps .control (hp _ (by decide))), h.onward.frames⟩

/-- R6, R42, R101, R103, R163: what follows the routes at a CLEAR event. -/
def Ev.afterRoutes (v : Env) (b : Nat) (dropped : Tag) (e : Ev) : Ev :=
  (((e.arbiterAtClear v b).departures v b dropped).occupancyReaches v b).approachChanged v (.here b)

theorem afterRoutes_sameRoutes {d : Tag} : e.u.SameRoutes (e.afterRoutes v b d).u := by
  have ha := arbiterAtClear_goes v b e
  have harb : e.u.SameRoutes (e.arbiterAtClear v b).u :=
    ⟨route_of_agree (ha.keeps .routes (by decide)), holder_of_agree (ha.keeps .holders (by decide)),
      claim_of_agree (ha.keeps .claims (by decide)), fun _ => arbiterAtClear_sameHolds.1, fun _ => arbiterAtClear_sameHolds.2,
      evaluated_of_agree (ha.keeps .control (by decide)), ha.onward.frames⟩
  have hdep : (e.arbiterAtClear v b).u.SameRoutes (((e.arbiterAtClear v b).departures v b d).occupancyReaches v b).u :=
    sameRoutes_of_goes (((departures_goes v b d _).after (occupancyReaches_goes v b _) (by decide)) : Ev.Goes [.entries, .buttons] _ _)
  let y := ((e.arbiterAtClear v b).departures v b d).occupancyReaches v b
  have hc : Ev.Goes [.control] y (y.approachChanged v (.here b)) := approachChanged_goes ..
  have hturnout := turnout_of_agree (hc.keeps .turnouts (by decide))
  have happ : y.u.SameRoutes (y.approachChanged v (.here b)).u :=
    ⟨route_of_agree (hc.keeps .routes (by decide)), holder_of_agree (hc.keeps .holders (by decide)),
      claim_of_agree (hc.keeps .claims (by decide)), fun k => by rw [hturnout], fun k => by rw [hturnout],
      fun _ => approachChanged_evaluated, hc.onward.frames⟩
  exact (harb.trans hdep).trans happ

end

end Sys2Proof.Machine


/-! The CLEAR event of a route in use (R65 to R68, R72; O30). -/

namespace Sys2Proof.Machine

set_option Elab.async false

section
variable {v : Env} {e : Ev} {s : State} {n k b : Nat} {r : RouteCfg}

/-! ## Before the routes (R6, R25, R92) -/

theorem freeOfClaim_route {x : ClaimRecord} {i : Nat} (h : (e.u.block k).holder = .route n) :
    ((e.freeOfClaim v x i).u.block k).holder = .route n := by
  unfold Ev.freeOfClaim
  split
  next hc =>
    rw [setHolder_holder]
    split
    next hk =>
      rw [hk.1, hc] at h
      exact absurd h nofun
    · exact h
  · exact h

/-- R92: a CLEAR event takes no block from a route by a claim. -/
theorem claimsClear_route (h : (e.u.block k).holder = .route n) : ((e.claimsClear v b).u.block k).holder = .route n :=
  List.foldlRecOn (motive := fun a : Ev => (a.u.block k).holder = .route n) _ _ h fun _ ha _ _ => freeOfClaim_route ha

/-- R6, R25, R92: the units as the Interlocking Engine finds them at a CLEAR event of block `b`. -/
def State.vacated (s : State) (b : Nat) : Ev := ((s.fallen b).clearedTrain s.env b).claimsClear s.env b

theorem vacated_goes : Ev.Goes [.filters, .occupancy, .holders, .carry, .claimTable, .marks, .slots] (.start s.units)
    (s.vacated b) :=
  (((setFilter_goes b _ _).mono (by decide)).after (clearedTrain_goes s.env b (s.fallen b)) (by decide)).after
    (claimsClear_goes s.env b _) (by decide)

theorem vacated_holder (h : (s.units.block k).holder = .route n) : ((s.vacated b).u.block k).holder = .route n := by
  refine claimsClear_route ?_
  rw [holder_of_agree ((clearedTrain_goes s.env b (s.fallen b)).keeps .holders (by decide))]
  exact h

theorem vacated_occupied (hz : s.units.sized) (hb : b < 48) (ho : (s.units.block b).occupied = true) :
    ((s.vacated b).u.block k).occupied = if k = b then false else (s.units.block k).occupied := by
  have hclaims : Ev.Goes _ ((s.fallen b).clearedTrain s.env b) (s.vacated b) := claimsClear_goes s.env b _
  have htrain := clearedTrain_block (v := s.env) (e := s.fallen b) (lt_of_lt_of_eq hb hz.2.1.symm) ho k
  have hocc := congrArg Prod.fst htrain
  rw [occupied_of_agree (hclaims.keeps .occupancy (by decide))]
  refine hocc.trans ?_
  split <;> rfl

theorem vacated_route : (s.vacated b).u.route k = s.units.route k := route_of_agree (vacated_goes.keeps .routes (by decide)) k

theorem vacated_turnout : (s.vacated b).u.turnout k = s.units.turnout k :=
  turnout_of_agree (vacated_goes.keeps .turnouts (by decide)) k

/-! ## The event -/

/-- What O30 asks of a CLEAR event of block `b` while route `n` alone is in use. -/
structure State.Vacates (s : State) (b n : Nat) (r : RouteCfg) : Prop where
  running  : s.sys.station = .running
  sized    : s.units.sized
  waits    : s.units.nothingWaits
  block    : b < 48
  route    : n < 64
  record   : s.sys.cfg.route n = some r
  falling  : (s.units.filter b).state = .falling
  occupied : (s.units.block b).occupied = true
  inUse    : (s.units.route n).state = .inUse
  alone    : ∀ k, k ≠ n → (s.units.route k).state ≠ .inUse ∧ (s.units.route k).state ≠ .approachHeld

theorem cleared_eq : (s.fallen b).cleared s.env b
    = ((s.vacated b).routesClear s.env b).afterRoutes s.env b ((s.fallen b).u.block b).tag := rfl

theorem dropEvent_after (hx : (s.units.filter b).state = .falling) (hw : s.units.nothingWaits) :
    Goes Part.ofCalm ((s.fallen b).cleared s.env b).u (s.event (dropEvent b)).units := by
  have hwhole := dropExpiry_goes s.env b (.start s.units)
  have hq : (dropEvent b s.env (.start s.units)).u.ttc.queue = [] :=
    (congrArg Turntable.queue (hwhole.keeps .table (by decide))).trans hw.2
  have hl : (dropEvent b s.env (.start s.units)).u.ilk.waiting = [] :=
    (hwhole.keeps .waiting (by decide)).trans hw.1
  exact dropEvent_eq hx ▸ settle_calm (.inr hq) (.inr hl)

/-- The event leaves of the routes what the reaction of the one route in use makes of them. -/
theorem State.Vacates.shown {c : Ev} (h : s.Vacates b n r) (hc : (s.vacated b).seesClear s.env b n = c)
    (hr : ∀ k, k ≠ n → c.u.route k = (s.vacated b).u.route k) : c.u.SameRoutes (s.event (dropEvent b)).units := by
  have hone : (s.vacated b).routesClear s.env b = c := by
    rw [← hc]
    refine routesClear_of_one h.route (fun k hk => ?_) fun k hk => ?_
    · rw [vacated_route]
      exact h.alone k hk
    · rw [hc]
      exact hr k hk
  have hcleared : c.u.SameRoutes ((s.fallen b).cleared s.env b).u := by
    rw [cleared_eq, hone]
    exact afterRoutes_sameRoutes
  exact hcleared.trans (sameRoutes_of_goes (dropEvent_after h.falling h.waits))

end

/-! ## What is given back -/

section
variable {s : State} {z c : Ev} {t : State} {n b m : Nat} {r : RouteCfg} {o : Bool} {p : List Progress} {gone : Nat → Prop}
  {d : ReportTo}

/-- R65, R66: from `s` to `u` route `n` gave back the blocks for which `gone` holds, with their path turnouts, and no other. -/
structure State.GaveBack (s : State) (n : Nat) (r : RouteCfg) (gone : Nat → Prop) (u : Units) : Prop where
  free : ∀ a, gone a → (s.units.block a).holder = .route n → (u.block a).holder = .free
  kept : ∀ a, ¬ gone a → (s.units.block a).holder = .route n → (u.block a).holder = .route n
  path : ∀ k g, s.sys.cfg.turnout k = some g → k ∈ r.turnouts.map Prod.fst → gone g.owning →
    (u.turnout k).pathHolder ≠ some n

theorem gaveBack_of_frees (hf : Ev.Frees s.env n r gone (s.vacated b) z)
    (hh : ∀ k, (c.u.block k).holder = (z.u.block k).holder)
    (hp : ∀ k, (c.u.turnout k).pathHolder = some n → (z.u.turnout k).pathHolder = some n) (ht : c.u.SameRoutes t.units) :
    s.GaveBack n r gone t.units where
  free a ha hr := by rw [ht.holder, hh, hf.freed a ha (vacated_holder hr)]
  kept a ha hr := by rw [ht.holder, hh, hf.kept a fun hx => absurd hx ha, vacated_holder hr]
  path k g hg hk ha hx := hf.unheld k g hg hk ha (hp k (by rw [← ht.path]; exact hx))

/-- R66, R85, R97: from `s` to `u` route `n`, which held no other block, has ended. -/
structure State.Ended (s : State) (n : Nat) (r : RouteCfg) (u : Units) : Prop where
  route     : u.route n = .idleOf r
  evaluated : (u.signal r.entry).route
    = if (s.units.signal r.entry).route = some n then none else (s.units.signal r.entry).route
  path      : ∀ k ∈ r.turnouts.map Prod.fst, (u.turnout k).pathHolder ≠ some n
  flank     : (r.flank.map Prod.fst).Nodup → ∀ k ∈ r.flank.map Prod.fst,
    (u.turnout k).flankCount = (s.units.turnout k).flankCount - 1
  claim     : r.foreign.isSome = true → u.claim n = ⟨.none, none, none, (s.units.claim n).counter, none, none⟩
  told      : ∀ m d, s.canSend m → (s.units.route n).reportTo = some d →
    u.lnk.carries ⟨d.dest s.env, m, .routeReport, routeReportPayload n .released 0 .none 0⟩

/-- R65: from `s` to `u` route `n` goes on, with progress `p` and the overlap held if `o`. -/
structure State.GoesOn (s : State) (n : Nat) (r : RouteCfg) (p : List Progress) (o : Bool) (u : Units) : Prop where
  route : u.route n = { s.units.route n with progress := p, overlapHeld := o }
  flank : ∀ k, (u.turnout k).flankCount = (s.units.turnout k).flankCount
  claim : r.foreign.isSome = true → u.claim n = s.units.claim n

/-- R65, R66: route `n` has progress `p` and the overlap if `o`; it ends if it holds no block, and else goes on. -/
structure State.Leaves (s : State) (n : Nat) (r : RouteCfg) (p : List Progress) (o : Bool) (u : Units) : Prop where
  ended  : (∀ q ∈ p, q = .released) ∧ o = false → s.Ended n r u
  goesOn : ¬ ((∀ q ∈ p, q = .released) ∧ o = false) → s.GoesOn n r p o u

section
variable (hf : Ev.Frees s.env n r gone (s.vacated b) z)
  (hz : z.u.route n = { s.units.route n with progress := p, overlapHeld := o }) (hs : (s.units.route n).state = .inUse)
include hf hz hs

theorem ended_of_frees (hsize : s.units.sized) (hn : n < 64) (hd : (∀ q ∈ p, q = .released) ∧ o = false)
    (ht : (z.routeEndIfDone s.env n r).u.SameRoutes t.units) : s.Ended n r t.units := by
  have hall : Ev.Goes [.filters, .occupancy, .holders, .carry, .claimTable, .marks, .slots, .turnouts, .routes] (.start s.units) z :=
    (vacated_goes.mono (by decide)).after hf.goes (by decide)
  have hclaims : z.u.clu.claims = s.units.clu.claims := hall.keeps .claims (by decide)
  have hend : z.routeEndIfDone s.env n r = z.routeEnded s.env n r := routeEndIfDone_of_spent (by
    rw [hz]
    exact hd)
  have hlen : n < z.u.ilk.routes.length := lt_of_route (by
    rw [hz]
    exact fun hx => nomatch hs.symm.trans hx)
  rw [hend] at ht
  refine ⟨?_, ?_, fun k hk => ?_, fun hnodup k hk => ?_, fun hforeign => ?_, fun m d hm hrep => ?_⟩
  · rw [ht.route, routeEnded_route hlen, if_pos rfl]
  · rw [ht.evaluated, routeEnded_evaluated, evaluated_of_agree (hall.keeps .control (by decide))]
    exact ite_congr (by simp [Ev.start]) (fun _ => rfl) fun _ => rfl
  · rw [ht.path, routeEnded_turnout]
    unfold Turnout.givenBack
    dsimp only
    split
    · nofun
    next hx => exact fun hp => hx ⟨hk, hp⟩
  · have hcount : (r.flank.map Prod.fst).count k = 1 := List.count_eq_one_of_mem hnodup hk
    rw [ht.flank, routeEnded_turnout]
    unfold Turnout.givenBack
    dsimp only
    rw [hcount, hf.flank, vacated_turnout]
  · rw [ht.claim, routeEnded_claim hforeign (by rw [hclaims, claims_of_sized hsize]; exact hn), claim_of_agree hclaims]
    rfl
  · refine ht.frames _ (routeEnded_carries hm.1 ?_ (by rw [hz]; exact hrep))
    rw [ordinary_of_agree (hall.keeps .transmitter (by decide))]
    exact hm.2

omit hs in
theorem goesOn_of_frees (hd : ¬ ((∀ q ∈ p, q = .released) ∧ o = false))
    (ht : (z.routeEndIfDone s.env n r).u.SameRoutes t.units) : s.GoesOn n r p o t.units := by
  have hall : Ev.Goes [.filters, .occupancy, .holders, .carry, .claimTable, .marks, .slots, .turnouts, .routes] (.start s.units) z :=
    (vacated_goes.mono (by decide)).after hf.goes (by decide)
  have hend : z.routeEndIfDone s.env n r = z := routeEndIfDone_of_holding (by
    rw [hz]
    exact hd)
  rw [hend] at ht
  exact ⟨(ht.route n).trans hz, fun k => by rw [ht.flank, hf.flank, vacated_turnout],
    fun _ => (ht.claim n).trans (claim_of_agree (hall.keeps .claims (by decide)) n)⟩

theorem leaves_of_frees (hsize : s.units.sized) (hn : n < 64)
    (ht : (z.routeEndIfDone s.env n r).u.SameRoutes t.units) : s.Leaves n r p o t.units ∧ s.GaveBack n r gone t.units :=
  ⟨⟨fun hd => ended_of_frees hf hz hs hsize hn hd ht, fun hd => goesOn_of_frees hf hz hd ht⟩,
    gaveBack_of_frees hf (fun _ => routeEndIfDone_holder) (fun _ => routeEndIfDone_path) ht⟩

end

end

end Sys2Proof.Machine


/-! The cases of a CLEAR event of a route in use (R65 to R68, R72; O30). -/

namespace Sys2Proof.Machine

set_option Elab.async false

section
variable {v : Env} {e : Ev} {u : Units} {n k i b : Nat} {r : RouteCfg}

/-! ## The reaction of one route -/

theorem getD_entered_iff {l : List Progress} : l.getD i .released = .entered ↔ l[i]? = some .entered := by
  rw [List.getD_eq_getElem?_getD]
  cases l[i]? with
  | none => exact iff_of_false nofun nofun
  | some q => exact Option.some_inj.symm

theorem routeMeetsClear_forced {q : Progress} (hs : (e.u.route n).state = .inUse) (hf : (e.u.route n).forced = true)
    (hq : (e.u.route n).progress[i]? = some q) (hr : q ≠ .released) :
    e.routeMeetsClear v n r i = (e.releasePathBlock v n r i).routeEndIfDone v n r := by
  simp [Ev.routeMeetsClear, hs, hf, hq, hr]

theorem routeMeetsClear_unentered (hf : (e.u.route n).forced = false)
    (hq : (e.u.route n).progress[i]? ≠ some .entered) : e.routeMeetsClear v n r i = e := by
  have hx : (e.u.route n).progress.getD i .released ≠ .entered := fun hx => hq (getD_entered_iff.1 hx)
  simp only [Ev.routeMeetsClear, hf, hx, Bool.false_eq_true, if_false, ite_self]

theorem routeMeetsClear_stuck (hs : (e.u.route n).state = .inUse) (hf : (e.u.route n).forced = false)
    (hq : (e.u.route n).progress[i]? = some .entered) (hx : sequenceHolds e.u r i = false) :
    e.routeMeetsClear v n r i = e.setRoute n fun x => { x with progress := x.progress.set i .stuck } := by
  simp [Ev.routeMeetsClear, hs, hf, hq, hx]

/-- R65, R66: the path block `i` of route `n`, and with the last one the overlap, is given back. -/
def Ev.releaseBehind (v : Env) (n : Nat) (r : RouteCfg) (i : Nat) (e : Ev) : Ev :=
  let e := e.releasePathBlock v n r i
  if i + 1 = r.path.length then e.releaseOverlap v n r else e

theorem routeMeetsClear_follows (hs : (e.u.route n).state = .inUse) (hf : (e.u.route n).forced = false)
    (hq : (e.u.route n).progress[i]? = some .entered) (hx : sequenceHolds e.u r i = true) :
    e.routeMeetsClear v n r i = (e.releaseBehind v n r i).routeEndIfDone v n r := by
  simp [Ev.routeMeetsClear, Ev.releaseBehind, hs, hf, hq, hx]

theorem overlapCleared_of_ne (hc : v.cfg.route n = some r) (ho : r.overlap ≠ some b) : e.overlapCleared v b n = e := by
  simp [Ev.overlapCleared, hc, ho]

theorem overlapCleared_unforced (hc : v.cfg.route n = some r) (hf : (e.u.route n).forced = false) :
    e.overlapCleared v b n = e := by
  simp [Ev.overlapCleared, hc, hf]

theorem overlapCleared_forced (hc : v.cfg.route n = some r) (hs : (e.u.route n).state = .inUse)
    (hf : (e.u.route n).forced = true) (hh : (e.u.route n).overlapHeld = true) (ho : r.overlap = some b) :
    e.overlapCleared v b n = (e.releaseOverlap v n r).routeEndIfDone v n r := by
  simp [Ev.overlapCleared, hc, hs, hf, hh, ho]

/-- R65: a CLEAR event of a path block that is not the overlap. -/
theorem seesClear_of_path (hc : v.cfg.route n = some r) (hi : r.path.idxOf? b = some i) (ho : r.overlap ≠ some b)
    (hs : ((e.routeMeetsClear v n r i).u.route n).state ≠ .approachHeld) :
    e.seesClear v b n = e.routeMeetsClear v n r i := by
  have hp : e.pathSeesClear v b n = e.routeMeetsClear v n r i := by simp only [Ev.pathSeesClear, hc, hi]
  rw [Ev.seesClear, hp, overlapCleared_of_ne hc ho, approachCleared_of_state hs]

/-- R72: a CLEAR event of a block outside the path. -/
theorem seesClear_of_overlap (hc : v.cfg.route n = some r) (hi : r.path.idxOf? b = none)
    (hs : ((e.overlapCleared v b n).u.route n).state ≠ .approachHeld) : e.seesClear v b n = e.overlapCleared v b n := by
  have hp : e.pathSeesClear v b n = e := by simp only [Ev.pathSeesClear, hc, hi]
  rw [Ev.seesClear, hp, approachCleared_of_state hs]

/-! ## The other routes -/

theorem releasePathBlock_route_ne (hk : k ≠ n) : (e.releasePathBlock v n r i).u.route k = e.u.route k := by
  have hs := setRoute_route_ne (e := e) hk fun x => { x with progress := x.progress.set i .released }
  unfold Ev.releasePathBlock
  dsimp only
  split
  · exact (route_of_agree (freeBlock_goes.keeps .routes (by decide)) k).trans hs
  · exact hs

theorem releaseOverlap_route_ne (hk : k ≠ n) : (e.releaseOverlap v n r).u.route k = e.u.route k := by
  have hs := setRoute_route_ne (e := e) hk fun x => { x with overlapHeld := false }
  unfold Ev.releaseOverlap
  split
  · dsimp only
    split
    · exact (route_of_agree (freeBlock_goes.keeps .routes (by decide)) k).trans hs
    · exact hs
  · rfl

theorem releaseBehind_route_ne (hk : k ≠ n) : (e.releaseBehind v n r i).u.route k = e.u.route k := by
  unfold Ev.releaseBehind
  dsimp only
  split
  · rw [releaseOverlap_route_ne hk, releasePathBlock_route_ne hk]
  · exact releasePathBlock_route_ne hk

theorem releasePathBlock_routes_length : (e.releasePathBlock v n r i).u.ilk.routes.length = e.u.ilk.routes.length := by
  have hs := setRoute_routes_length (n := n) (e := e) fun x => { x with progress := x.progress.set i .released }
  unfold Ev.releasePathBlock
  dsimp only
  split
  · exact (congrArg List.length (freeBlock_goes.keeps .routes (by decide))).trans hs
  · exact hs

theorem releaseBehind_route (hn : n < e.u.ilk.routes.length) : (e.releaseBehind v n r i).u.route n
    = { e.u.route n with
        progress := (e.u.route n).progress.set i .released,
        overlapHeld := if i + 1 = r.path.length then false else (e.u.route n).overlapHeld } := by
  have hpath := releasePathBlock_route (v := v) (r := r) (i := i) hn
  unfold Ev.releaseBehind
  dsimp only
  split
  · have hlen : n < (e.releasePathBlock v n r i).u.ilk.routes.length := by
      rw [releasePathBlock_routes_length]
      exact hn
    rw [releaseOverlap_route hlen, hpath]
  · exact hpath

theorem releaseBehind_frees (hn : n < e.u.ilk.routes.length) (hi : r.path[i]? = some b) : Ev.Frees v n r
    (fun a => a = b ∨ i + 1 = r.path.length ∧ (e.u.route n).overlapHeld = true ∧ r.overlap = some a) e
    (e.releaseBehind v n r i) := by
  have hpath : Ev.Frees v n r (· = b) e (e.releasePathBlock v n r i) := releasePathBlock_frees hi
  unfold Ev.releaseBehind
  dsimp only
  split
  next hlast =>
    exact (hpath.trans releaseOverlap_frees).congr fun a => by simp [releasePathBlock_route hn, hlast]
  next hlast => exact hpath.congr fun a => by simp [hlast]

end

end Sys2Proof.Machine


/-! A train passes over a route (O30). -/

namespace Sys2Proof.Machine

set_option Elab.async false

section
variable {s : State} {z c : Ev} {n b i : Nat} {r : RouteCfg} {o : Bool} {p : List Progress} {q : Progress} {gone : Nat → Prop}

/-- The state that the CLEAR event of block `b` leaves. -/
def State.afterDrop (s : State) (b : Nat) : State := s.event (dropEvent b)

variable (h : s.Vacates b n r)
include h

theorem State.Vacates.exec : exec (.detectorDropExpiry b) s = .next (s.afterDrop b) :=
  congrArg Host.Outcome.next (whenRunning_of_running h.running _)

theorem State.Vacates.inUse' : ((s.vacated b).u.route n).state = .inUse := by
  rw [vacated_route]
  exact h.inUse

theorem State.Vacates.lt : n < (s.vacated b).u.ilk.routes.length :=
  lt_of_route (by
    rw [h.inUse']
    nofun)

/-- R65, R66: the route gives blocks back, and ends if it holds no other. -/
theorem State.Vacates.leaves (hsees : (s.vacated b).seesClear s.env b n = z.routeEndIfDone s.env n r)
    (hf : Ev.Frees s.env n r gone (s.vacated b) z)
    (hz : z.u.route n = { s.units.route n with progress := p, overlapHeld := o })
    (hne : ∀ k, k ≠ n → z.u.route k = (s.vacated b).u.route k) :
    s.Leaves n r p o (s.afterDrop b).units ∧ s.GaveBack n r gone (s.afterDrop b).units := by
  have hlen : n < z.u.ilk.routes.length := lt_of_route (by
    rw [hz]
    exact fun hx => nomatch h.inUse.symm.trans hx)
  exact leaves_of_frees hf hz h.inUse h.sized h.route (t := s.afterDrop b)
    (h.shown hsees fun k hk => (routeEndIfDone_route_ne hlen hk).trans (hne k hk))

/-- R65, R68: the route gives no block back. -/
theorem State.Vacates.keeps (hsees : (s.vacated b).seesClear s.env b n = c) (hg : Ev.Goes [.routes] (s.vacated b) c)
    (hne : ∀ k, k ≠ n → c.u.route k = (s.vacated b).u.route k) :
    (s.afterDrop b).units.route n = c.u.route n ∧ s.GaveBack n r (fun _ => False) (s.afterDrop b).units := by
  have ht := h.shown hsees hne
  exact ⟨ht.route n, gaveBack_of_frees (frees_of_goes hg fun _ => id) (fun _ => rfl) (fun _ => id) (t := s.afterDrop b) ht⟩

/-! ## A block of the path -/

/-- R65, R66: what lets path block `i` be given back: the block beyond it OCCUPIED, or behind the last one, CLEAR. -/
def State.follows (s : State) (r : RouteCfg) (i : Nat) : Prop :=
  if i + 1 < r.path.length then ∀ a, r.path[i + 1]? = some a → (s.units.block a).occupied = true
  else ∀ j a, i = j + 1 → r.path[j]? = some a → (s.units.block a).occupied = false

/-- The block in the path is in it once, and is not the overlap. -/
structure InPath (r : RouteCfg) (i b : Nat) : Prop where
  nodup   : r.path.Nodup
  at_i    : r.path[i]? = some b
  overlap : r.overlap ≠ some b

omit h in
theorem InPath.ne {j a : Nat} (hi : InPath r i b) (hj : r.path[j]? = some a) (hji : j ≠ i) : a ≠ b := fun hx => by
  have hsame := (idxOf?_of_path hi.nodup hj).symm.trans (hx ▸ idxOf?_of_path hi.nodup hi.at_i)
  exact hji (Option.some.inj hsame)

/-- R65, R66: the sequence is read off the other blocks, which the event leaves as they were. -/
theorem State.Vacates.sequenceHolds_iff (hi : InPath r i b) : sequenceHolds (s.vacated b).u r i = true ↔ s.follows r i := by
  have hocc (j a : Nat) (hj : r.path[j]? = some a) (hji : j ≠ i) :
      ((s.vacated b).u.block a).occupied = (s.units.block a).occupied := by
    rw [vacated_occupied h.sized h.block h.occupied, if_neg (hi.ne hj hji)]
  obtain ⟨hlt, -⟩ := List.getElem?_eq_some_iff.1 hi.at_i
  unfold sequenceHolds State.follows
  split
  next hnext =>
    have hget : r.path[i + 1]? = some r.path[i + 1] := List.getElem?_eq_getElem hnext
    simp only [hget, hocc _ _ hget (by omega), Option.some_inj, forall_eq']
  next hlast =>
    cases i with
    | zero => exact iff_of_true rfl fun j a hj => absurd hj (by omega)
    | succ j =>
      have hget : r.path[j]? = some (r.path[j]'(by omega)) := List.getElem?_eq_getElem (by omega)
      simp only [hget, hocc _ _ hget (by omega), Bool.not_eq_true']
      constructor
      · rintro hx k a hk ha
        obtain rfl : j = k := by omega
        rw [hget] at ha
        rw [← Option.some.inj ha]
        exact hx
      · exact fun hx => hx j _ rfl hget

section
variable (hi : InPath r i b)
include hi

theorem State.Vacates.seesClear_of_state (hs : (((s.vacated b).routeMeetsClear s.env n r i).u.route n).state ≠ .approachHeld) :
    (s.vacated b).seesClear s.env b n = (s.vacated b).routeMeetsClear s.env n r i :=
  seesClear_of_path h.record (idxOf?_of_path hi.nodup hi.at_i) hi.overlap hs

/-- R65: a block that was not entered. -/
theorem State.Vacates.unentered (hf : (s.units.route n).forced = false) (hq : (s.units.route n).progress[i]? ≠ some .entered) :
    (s.afterDrop b).units.route n = s.units.route n ∧ s.GaveBack n r (fun _ => False) (s.afterDrop b).units := by
  have hmeets : (s.vacated b).routeMeetsClear s.env n r i = s.vacated b :=
    routeMeetsClear_unentered (by rw [vacated_route]; exact hf) (by rw [vacated_route]; exact hq)
  have hsees := h.seesClear_of_state hi (by
    rw [hmeets, h.inUse']
    nofun)
  obtain ⟨hroute, hback⟩ := h.keeps (hsees.trans hmeets) (.refl ..) fun _ _ => rfl
  exact ⟨hroute.trans vacated_route, hback⟩

/-- R68: an entered block that clears out of sequence. -/
theorem State.Vacates.stuck (hf : (s.units.route n).forced = false) (hq : (s.units.route n).progress[i]? = some .entered)
    (hx : ¬ s.follows r i) :
    (s.afterDrop b).units.route n = { s.units.route n with progress := (s.units.route n).progress.set i .stuck }
      ∧ s.GaveBack n r (fun _ => False) (s.afterDrop b).units := by
  have hmeets := routeMeetsClear_stuck (v := s.env) (r := r) (i := i) h.inUse' (by rw [vacated_route]; exact hf)
    (by rw [vacated_route]; exact hq) (Bool.not_eq_true _ ▸ fun hy => hx ((h.sequenceHolds_iff hi).1 hy))
  have hself := setRoute_route_self h.lt fun x => { x with progress := x.progress.set i .stuck }
  have hsees := h.seesClear_of_state hi (by
    rw [hmeets, hself, h.inUse']
    nofun)
  obtain ⟨hroute, hback⟩ := h.keeps (hsees.trans hmeets) (setRoute_goes ..) fun k hk => setRoute_route_ne hk _
  refine ⟨hroute.trans ?_, hback⟩
  rw [hself, vacated_route]

/-- R65 to R67: an entered block that clears in sequence. -/
theorem State.Vacates.inSequence (hf : (s.units.route n).forced = false) (hq : (s.units.route n).progress[i]? = some .entered)
    (hx : s.follows r i) :
    s.Leaves n r ((s.units.route n).progress.set i .released)
        (if i + 1 = r.path.length then false else (s.units.route n).overlapHeld) (s.afterDrop b).units
      ∧ s.GaveBack n r (fun a => a = b ∨ i + 1 = r.path.length ∧ (s.units.route n).overlapHeld = true ∧ r.overlap = some a)
        (s.afterDrop b).units := by
  have hmeets := routeMeetsClear_follows (v := s.env) (r := r) (i := i) h.inUse' (by rw [vacated_route]; exact hf)
    (by rw [vacated_route]; exact hq) ((h.sequenceHolds_iff hi).2 hx)
  have hroute := releaseBehind_route (v := s.env) (r := r) (i := i) h.lt
  have hfrees := releaseBehind_frees (v := s.env) h.lt hi.at_i
  rw [vacated_route] at hroute hfrees
  have hlen : n < ((s.vacated b).releaseBehind s.env n r i).u.ilk.routes.length := lt_of_route (by
    rw [hroute]
    exact fun hx => nomatch h.inUse.symm.trans hx)
  have hsees := h.seesClear_of_state hi (by
    rw [hmeets]
    refine routeEndIfDone_state hlen ?_
    rw [hroute]
    exact h.inUse)
  exact h.leaves (hsees.trans hmeets) hfrees hroute fun k hk => releaseBehind_route_ne hk

/-- R72: a held path block that clears under forced release. -/
theorem State.Vacates.forcedPath (hf : (s.units.route n).forced = true) (hq : (s.units.route n).progress[i]? = some q)
    (hr : q ≠ .released) :
    s.Leaves n r ((s.units.route n).progress.set i .released) (s.units.route n).overlapHeld (s.afterDrop b).units
      ∧ s.GaveBack n r (· = b) (s.afterDrop b).units := by
  have hmeets := routeMeetsClear_forced (v := s.env) (r := r) (i := i) h.inUse' (by rw [vacated_route]; exact hf)
    (by rw [vacated_route]; exact hq) hr
  have hroute := releasePathBlock_route (v := s.env) (r := r) (i := i) h.lt
  rw [vacated_route] at hroute
  have hlen : n < ((s.vacated b).releasePathBlock s.env n r i).u.ilk.routes.length := lt_of_route (by
    rw [hroute]
    exact fun hx => nomatch h.inUse.symm.trans hx)
  have hsees := h.seesClear_of_state hi (by
    rw [hmeets]
    refine routeEndIfDone_state hlen ?_
    rw [hroute]
    exact h.inUse)
  exact h.leaves (hsees.trans hmeets) (releasePathBlock_frees hi.at_i) hroute fun k hk => releasePathBlock_route_ne hk

end

/-! ## The overlap -/

section
variable (ho : r.overlap = some b) (hp : r.path.idxOf? b = none)
include ho hp

/-- R72: the held overlap that clears under forced release. -/
theorem State.Vacates.forcedOverlap (hf : (s.units.route n).forced = true) (hh : (s.units.route n).overlapHeld = true) :
    s.Leaves n r (s.units.route n).progress false (s.afterDrop b).units ∧ s.GaveBack n r (· = b) (s.afterDrop b).units := by
  have hover := overlapCleared_forced (v := s.env) (b := b) h.record h.inUse' (by rw [vacated_route]; exact hf)
    (by rw [vacated_route]; exact hh) ho
  have hroute := releaseOverlap_route (v := s.env) (r := r) h.lt
  rw [vacated_route] at hroute
  have hlen : n < ((s.vacated b).releaseOverlap s.env n r).u.ilk.routes.length := lt_of_route (by
    rw [hroute]
    exact fun hx => nomatch h.inUse.symm.trans hx)
  have hsees := seesClear_of_overlap (v := s.env) (e := s.vacated b) h.record hp (by
    rw [hover]
    refine routeEndIfDone_state hlen ?_
    rw [hroute]
    exact h.inUse)
  exact h.leaves (hsees.trans hover) (releaseOverlap_frees.congr fun a => by simp [vacated_route, hh, ho, eq_comm]) hroute
    fun k hk => releaseOverlap_route_ne hk

omit ho in
/-- R72: the overlap that clears of a route that is not under forced release. -/
theorem State.Vacates.overlapStays (hf : (s.units.route n).forced = false) :
    (s.afterDrop b).units.route n = s.units.route n ∧ s.GaveBack n r (fun _ => False) (s.afterDrop b).units := by
  have hover : (s.vacated b).overlapCleared s.env b n = s.vacated b :=
    overlapCleared_unforced h.record (by rw [vacated_route]; exact hf)
  have hsees := seesClear_of_overlap (v := s.env) (e := s.vacated b) h.record hp (by
    rw [hover, h.inUse']
    nofun)
  obtain ⟨hroute, hback⟩ := h.keeps (hsees.trans hover) (.refl ..) fun _ _ => rfl
  exact ⟨hroute.trans vacated_route, hback⟩

end

end

end Sys2Proof.Machine


/-! The passage of a train over a route (O30). -/

namespace Sys2Proof.Machine

set_option Elab.async false

section
variable {s : State} {n b i : Nat} {r : RouteCfg} {x : Route}

/-- R64: the route record after the OCCUPIED event of block `b`, read off the blocks before it. -/
theorem afterOccupied_entered (hb : b < s.units.bkt.blocks.length) (ho : (s.units.block b).occupied = false) :
    x.afterOccupied (s.entered b).u r i = match x.state with
      | .set | .approachHeld => if i = 0 then { x with
            state := .inUse, approach := none
            progress := (r.path.zip x.progress).map fun z =>
              if z.1 = b ∨ (s.units.block z.1).occupied = true then .entered else z.2 }
          else x
      | .inUse => if x.progress[i]? = some .notEntered then { x with progress := x.progress.set i .entered } else x
      | .idle | .claiming | .throwing => x := by
  have hocc (k : Nat) : ((s.entered b).u.block k).occupied = true ↔ k = b ∨ (s.units.block k).occupied = true := by
    have hclaims : Ev.Goes [.claimTable] ((s.risen b).occupiedTrain s.env b) (s.entered b) := claimsOccupied_goes b _
    rw [occupied_of_agree (hclaims.keeps .occupancy (by decide))]
    exact occupiedTrain_occupied (v := s.env) (e := s.risen b) hb ho
  have hentered : enteredProgress (s.entered b).u r x.progress
      = (r.path.zip x.progress).map fun z => if z.1 = b ∨ (s.units.block z.1).occupied = true then .entered else z.2 := by
    unfold enteredProgress
    simp only [hocc]
  have hnot : x.progress.getD i .released = .notEntered ↔ x.progress[i]? = some .notEntered := by
    rw [List.getD_eq_getElem?_getD]
    cases x.progress[i]? with
    | none => exact iff_of_false nofun nofun
    | some q => exact Option.some_inj.symm
  unfold Route.afterOccupied
  simp only [hentered, hnot] <;> cases x.state <;> rfl

end

/-- Settles O30: at a rise each route looks at its own record; at a drop the one route in use gives back what is behind. -/
theorem routesFollowTheTrain : Obligations.RoutesFollowTheTrain := by
  intro s b n r hr hz hw hb hn hc hd hover y _
  refine ⟨fun hx ho i hi => ?rise, fun hx ho hs halone => ?drop⟩
  case rise =>
    obtain ⟨t, ht, hroute, hred⟩ := detectorRise_route hr hz hw hn hc (idxOf?_of_path hd hi) hx
    exact ⟨t, ht, hroute.trans (afterOccupied_entered (lt_of_lt_of_eq hb hz.2.1.symm) ho), hred⟩
  case drop =>
    intro left freed
    have h : s.Vacates b n r := ⟨hr, hz, hw, hb, hn, hc, hx, ho, hs, halone⟩
    have inPath (i : Nat) (hi : r.path[i]? = some b) : InPath r i b :=
      ⟨hd, hi, fun hx => hover b hx (List.mem_of_getElem? hi)⟩
    have notInPath (hx : r.overlap = some b) : r.path.idxOf? b = none := List.idxOf?_eq_none_iff.2 (hover b hx)
    have gave (goes : Nat → Prop) (t : State) (hg : s.GaveBack n r goes t.units) : freed goes t :=
      ⟨fun a => ⟨hg.free a, hg.kept a⟩, hg.path⟩
    have leaves (p : List Progress) (o : Bool) (t : State) (hl : s.Leaves n r p o t.units) : left p o t := by
      show if _ then _ else _
      split
      next hd =>
        obtain ⟨hroute, hev, hpath, hflank, hclaim, htold⟩ := hl.ended hd
        exact ⟨hroute, hev, hpath, hflank, hclaim, htold⟩
      next hd =>
        obtain ⟨hroute, hflank, hclaim⟩ := hl.goesOn hd
        exact ⟨hroute, hflank, hclaim⟩
    clear_value left freed
    refine ⟨s.afterDrop b, h.exec, ?path, fun i q hi hf hq hne => ?_, fun hx hf hh => ?_, fun hx hf => ?_⟩
    case path =>
      intro i hi hf follows last
      exact ⟨fun hq => (h.unentered (inPath i hi) hf hq).imp id (gave _ _),
        fun hq hx => (h.stuck (inPath i hi) hf hq hx).imp id (gave _ _),
        fun hq hx => (h.inSequence (inPath i hi) hf hq hx).imp (leaves _ _ _) (gave _ _)⟩
    · exact (h.forcedPath (inPath i hi) hf hq hne).imp (leaves _ _ _) (gave _ _)
    · exact (h.forcedOverlap hx (notInPath hx) hf hh).imp (leaves _ _ _) (gave _ _)
    · exact (h.overlapStays (notInPath hx) hf).imp id (gave _ _)

end Sys2Proof.Machine


/-! A scan that moves a request behind another that stays (O31). -/

namespace Sys2Proof.Machine

set_option Elab.async false

/-- Two routes of one block and one motor turnout each, entered at one signal. -/
def lostPlaceConfig : Config where
  station   := ⟨0, 0, 50, 0, 4, 1, true⟩
  blocks    := [⟨.plain, none, [], true, none, none⟩, ⟨.plain, none, [], true, none, none⟩]
  bmirrors  := []
  smirrors  := []
  turnouts  := [some ⟨.motor, .none, 0, 20, 2000⟩, some ⟨.motor, .none, 1, 20, 2000⟩]
  signals   := [some ⟨.three, 3, none, 30, 5, true⟩]
  routes    := [some ⟨0, .up, [0], [(0, .normal)], [], none, .full, none, none, none⟩,
    some ⟨0, .up, [1], [(1, .normal)], [], none, .full, none, none, none⟩]
  turntable := none
  timetable := []
  texts     := []
  buttons   := []

/-- A request for route 0, which passes. -/
def requestThatPasses : Request := ⟨0, ⟨2, none⟩, none⟩

/-- A request for route 1, which fails its checks while turnout 1 is FAILED. -/
def requestOfFailed : Request := ⟨1, ⟨0, none⟩, none⟩

/-- A request for a route that is not configured, which stays. -/
def requestThatStays : Request := ⟨63, ⟨1, none⟩, none⟩

/-- The WATCH CLEAR that ends the possession. -/
def lostPlaceFrame : RxFrame := ⟨⟨5, 9, .watchClear, [7]⟩, false, none⟩

/-- Station 5 as the possession of block 40 at entry 7 is about to end. Turnout 1 is FAILED and yet in the throw queue, which
`Units.drivesSound` excludes (R40), and the request that needs it waits twice, where a source waits once (R74). -/
def lostPlace : State := { State.reset with
  sys := { State.reset.sys with station := .running, number := some 5, cfg := lostPlaceConfig }
  units :=
    let u := Units.initial.configured lostPlaceConfig
    { u with
      ilk := { u.ilk with waiting := [requestOfFailed, requestThatStays, requestThatPasses, requestOfFailed] }
      tdu := { u.tdu with
        queue := [(1, .normal)]
        turnouts := u.tdu.turnouts.modify 1 fun x => { x with state := .failed } }
      watches := u.watches.set 7 (some ⟨9, .active, 40, 40, 0⟩)
      lnk := { u.lnk with rx := [lostPlaceFrame] } } }

/-- The units that the scan reads. -/
def lostPlaceUnits : Units :=
  { lostPlace.taken [] with watches := lostPlace.units.watches.set (payloadAt lostPlaceFrame.frame.payload 0) none }

theorem lostPlace_receives : lostPlace.receives .watchClear lostPlaceFrame [] := ⟨rfl, rfl, rfl⟩

theorem lostPlace_sized : lostPlace.units.sized := by
  unfold Units.sized
  decide +kernel

theorem lostPlace_checks : acceptance lostPlace.env lostPlaceUnits 1 = .error (.turnoutFailed, .turnout 1)
    ∧ acceptance lostPlace.env lostPlaceUnits 63 = .error (.badItem, .route 63)
    ∧ acceptance lostPlace.env lostPlaceUnits 0
      = .ok ⟨0, .up, [0], [(0, .normal)], [], none, .full, none, none, none⟩ := ⟨rfl, rfl, rfl⟩

/-- The state that the WATCH CLEAR leaves. -/
def lostPlaceScanned : State := (lostPlace.afterTake []).event fun v e => e.watchClear v lostPlaceFrame.frame

theorem lostPlace_exec : exec .watchClear lostPlace = .next lostPlaceScanned :=
  congrArg Host.Outcome.next (takeStarted_of_takes (g := fun x v e => e.watchClear v x.frame) (mirrors_of_station rfl)
    rfl rfl)

/-- The throw for route 0 runs the arbiter, which starts turnout 1 out of FAILED; so the second request for route 1 passes,
and the list loses the first. -/
theorem lostPlaceScanned_waiting : lostPlaceScanned.units.ilk.waiting = [requestThatStays, requestOfFailed] := by
  decide +kernel

/-- Refutes O31, in its clause on a scan: with a FAILED turnout in the throw queue, a request that stays may pass at its
second place in the list, and is then taken from its first, in front of another that stays. The clause asks for
`Units.sized` alone; a premise that excludes this state is `Units.drivesSound`, or that no request waits twice. -/
theorem not_pendingListIsScanned : ¬ Obligations.PendingListIsScanned := by
  rintro ⟨-, hscan, -, -⟩
  obtain ⟨hfailed, hstays, hpasses⟩ := lostPlace_checks
  obtain ⟨-, hfirst⟩ := hscan lostPlace lostPlaceFrame [] ⟨9, .active, 40, 40, 0⟩ lostPlace_receives rfl (by decide) rfl rfl
    nofun
  obtain ⟨t, l, hexec, hwaiting, -⟩ := hfirst [requestOfFailed, requestThatStays] requestThatPasses [requestOfFailed] _ rfl
    (fun p hp => by
      obtain rfl | rfl : p = requestOfFailed ∨ p = requestThatStays := by simpa using hp
      · exact .inr ⟨_, hfailed⟩
      · exact .inr ⟨_, hstays⟩)
    rfl hpasses lostPlace_sized
  obtain rfl : lostPlaceScanned = t := Host.Outcome.next.inj (lostPlace_exec.symm.trans hexec)
  rw [lostPlaceScanned_waiting] at hwaiting
  exact absurd hwaiting nofun

end Sys2Proof.Machine
